-- ==== Sys2Proof/Word.lean ====
section
/-! DEFINITION. The words of the part: frame bytes and CAN identifiers (R192). -/

namespace Sys2Proof

/-- One data byte of a frame or of a record image (R192). -/
abbrev Byte := BitVec 8

/-- An 11-bit CAN identifier (R192). -/
abbrev CanId := BitVec 11

/-- One of the five wear accounts by its index: 0 ENGINE, 1 STARTER, 2 CLUTCH, 3 GEARBOX, 4 DRIVELINE (R1). -/
abbrev AccountIx := Fin 5

/-- One of the four client slots: 0 ENGINE CONTROLLER, 1 TRANSMISSION CONTROLLER, 2 FLEET GATEWAY,
3 DEPOT TERMINAL (R165). -/
abbrev SlotIx := Fin 4

end Sys2Proof
end

