-- ==== Sys2Proof/Syntax.lean ====
section
/-! DEFINITION. The commands of the part: one constructor per row of spec/opcode_table.json, with its operands. -/

namespace Sys2Proof

/-- What ages in the observation store: the nine signals and the DRIVELINE EVENT group (R25, R31). -/
inductive SignalName
  | engineSpeed | engineTorque | engineOil | starterStatus
  | gear | clutchState | slipSpeed | outputSpeed | transmissionOil
  | drivelineEvent
  deriving DecidableEq, Repr

/-- The strap pins as sampled during a reset (R189, R198): NA0, NA1 and BR, true for high. -/
structure Straps where
  na0 : Bool
  na1 : Bool
  br : Bool
  deriving DecidableEq, Repr

/-- How deep a brown-out went, while staying above the power-on level (R189). -/
inductive Dip
  | aboveRetention | belowRetention
  deriving DecidableEq, Repr

/-- The commands. A request names the slot its identifier leads to (R165) and carries the data bytes after the kind
code (R194); an observation frame carries its identifier and all its data bytes (R38, R193). -/
inductive Instr
  | status (slot : SlotIx) (ops : List Byte)
  | read (slot : SlotIx) (ops : List Byte)
  | next (slot : SlotIx) (ops : List Byte)
  | openRental (slot : SlotIx) (ops : List Byte)
  | closeRental (slot : SlotIx) (ops : List Byte)
  | markExported (slot : SlotIx) (ops : List Byte)
  | ackAlert (slot : SlotIx) (ops : List Byte)
  | serviceReset (slot : SlotIx) (ops : List Byte)
  | restoreField (slot : SlotIx) (ops : List Byte)
  | restoreDone (slot : SlotIx) (ops : List Byte)
  | bandPrimary (slot : SlotIx) (ops : List Byte)
  | bandSecondary (slot : SlotIx) (ops : List Byte)
  | bandWeight (slot : SlotIx) (ops : List Byte)
  | bandLock (slot : SlotIx) (ops : List Byte)
  | writeSetting (slot : SlotIx) (ops : List Byte)
  | checkpoint (slot : SlotIx) (ops : List Byte)
  | resetDevice (slot : SlotIx) (ops : List Byte)
  /-- A request frame with no data byte or an unknown kind code: all its data bytes. -/
  | unknownRequest (slot : SlotIx) (data : List Byte)
  | engineState (id : CanId) (data : List Byte)
  | drivelineState (id : CanId) (data : List Byte)
  | drivelineEvent (id : CanId) (data : List Byte)
  | wakeFrame
  | signalHeld (signal : SignalName)
  | signalUnknown (signal : SignalName)
  | meteringExpiry
  /-- The new level of CRANK. -/
  | crankChange (asserted : Bool)
  | crankWindowExpiry
  | confirmExpiry
  | stopTimerExpiry
  | ignAsserted
  | keyOff
  | periodicCheckpoint
  | lingerExpiry
  /-- Whether the verification of the write failed (R159). -/
  | writeCompletion (faulted : Bool)
  | pfwAsserted
  | pfwReleased
  /-- The crystal cycles counted in the window that ends (R182). -/
  | monitorWindow (cycles : Nat)
  | deviceTimeSecond
  /-- The straps sampled and the monitor window with which the reset ends (R183, R189). -/
  | coldReset (straps : Straps) (cycles : Nat)
  | warmReset (dip : Dip)
  /-- The retention check, the reset record's own check (R191), the monitor window (R183) and the straps (R189). -/
  | resetEnd (retentionGood recordGood : Bool) (cycles : Nat) (straps : Straps)
  | loadEnd
  | transmissionComplete
  | busOff
  | busOffRecovery
  deriving DecidableEq, Repr

end Sys2Proof
end

