-- ==== Sys2Proof/Config.lean ====
section
/-! DEFINITION. The fixed figures of the part. The manual leaves no value of a result open, so there is no free value here. -/

namespace Sys2Proof

/-- The largest value of a full-width counter (R2, R192). -/
abbrev counterMax : Nat := 4294967295

/-- Fractional credit is counted in 1/288,000 of a wear unit (R12, R78). -/
abbrev creditScale : Nat := 288000

/-- An event credit is event weight × multiplier × 36,000 (R80). -/
abbrev eventScale : Nat := 36000

/-- 600 rpm-periods make one output shaft revolution (R7, R79). -/
abbrev revolutionScale : Nat := 600

/-- A metering period in milliseconds (R62). -/
abbrev periodMs : Nat := 100

/-- The linger in milliseconds (R185). -/
abbrev lingerMs : Nat := 30000

/-- Places of the transmit queue (R172). -/
abbrev txPlaces : Nat := 8

/-- Places of the start history ring (R105). -/
abbrev ringPlaces : Nat := 16

/-- CLOSED segments from which LOG_NEAR_FULL is true (R127). -/
abbrev nearFullCount : Nat := 20

/-- Good windows on the internal RC after which the crystal is selected again (R182). -/
abbrev goodWindowsNeeded : Nat := 100

end Sys2Proof
end

