-- ==== Sys2Proof/Machine/State.lean ====
section
/-! DEFINITION. The state of the part, block by block (00_scope.md, functional block diagram), as plain data, and the
state right after a cold reset. -/

namespace Sys2Proof.Machine

/-! ## Signal Intake (chapter 2) -/

/-- The age classes (R31). -/
inductive AgeClass
  | fresh | held | unknown
  deriving DecidableEq, Repr

/-- Class and age of a signal or of the DRIVELINE EVENT group; the age is in milliseconds of time-base time (R25). -/
structure Ageing where
  cls : AgeClass
  age : Nat
  deriving DecidableEq, Repr

/-- A signal of the observation store: its last value, none when none is stored (R44), with its class and age (R25). -/
structure Signal (α : Type) where
  value : Option α
  ageing : Ageing
  deriving DecidableEq, Repr

/-- Starter status (R25). -/
inductive StarterStatus
  | notEngaged | engaged
  deriving DecidableEq, Repr

/-- Clutch state (R25): CLOSED, SLIPPING, OPEN. -/
inductive ClutchState
  | closed | slipping | opened
  deriving DecidableEq, Repr

/-- Observation formats (R39), in the order of their codes. -/
inductive ObsFormat
  | engineState | drivelineState | drivelineEvent
  deriving DecidableEq, Repr

/-- The observation store and the rolling-counter baselines (R25, R35). -/
structure Intake where
  engineSpeed : Signal Int
  engineTorque : Signal Int
  engineOil : Signal Int
  starterStatus : Signal StarterStatus
  gear : Signal Int
  clutchState : Signal ClutchState
  slipSpeed : Signal Int
  outputSpeed : Signal Int
  transmissionOil : Signal Int
  eventGroup : Ageing
  shiftBaseline : Option Byte
  engagementBaseline : Option Byte
  deriving DecidableEq, Repr

/-- UNKNOWN, as after a reset (R44). No frame has refreshed the signal yet, so that R25 gives it no age: it counts from 0
while Intake runs (DESIGN CHOICE, log 2). -/
def Ageing.unknown : Ageing := { cls := .unknown, age := 0 }

/-- UNKNOWN with no value stored (R44). -/
def Signal.unknown {α : Type} : Signal α := { value := none, ageing := Ageing.unknown }

/-- Signal Intake after any reset (R44). -/
def Intake.afterReset : Intake :=
  { engineSpeed := Signal.unknown, engineTorque := Signal.unknown, engineOil := Signal.unknown,
    starterStatus := Signal.unknown, gear := Signal.unknown, clutchState := Signal.unknown,
    slipSpeed := Signal.unknown, outputSpeed := Signal.unknown, transmissionOil := Signal.unknown,
    eventGroup := Ageing.unknown, shiftBaseline := none, engagementBaseline := none }

/-! ## Settings (R197) -/

/-- Crank line mode (R87). -/
inductive CrankMode
  | off | level | edge
  deriving DecidableEq, Repr

/-- The three temperature limits of one oil signal, in °C (R74). -/
structure OilLimits where
  cold : Int
  hot : Int
  critical : Int
  deriving DecidableEq, Repr

/-- One entry of the acceptance filter table (R39). -/
structure Filter where
  base : CanId
  mask : CanId
  format : ObsFormat
  enabled : Bool
  deriving DecidableEq, Repr

/-- The content of the settings record: the device settings, the last segment number and the last opening serial
(R150, R197). Temperatures in °C, limits in ms, Qualifier timers in tenths of a second, the interval in minutes. -/
structure Settings where
  freshLimit : Nat
  holdLimit : Nat
  runThreshold : Nat
  engineOil : OilLimits
  transmissionOil : OilLimits
  coldMultiplier : Nat
  hotMultiplier : Nat
  criticalMultiplier : Nat
  coldStartLimit : Int
  coldStartMultiplier : Nat
  crankMode : CrankMode
  crankWindow : Nat
  confirmTime : Nat
  stopTime : Nat
  failureLimit : Nat
  checkpointInterval : Nat
  filters : Vector Filter 4
  lastSegment : Nat
  lastSerial : Nat
  deriving DecidableEq, Repr

/-- The defaults of every device setting (R197, R42), with 0 and 0 for the two counters (R153). -/
def Settings.default : Settings :=
  { freshLimit := 250, holdLimit := 1000, runThreshold := 500,
    engineOil := { cold := 20, hot := 110, critical := 130 },
    transmissionOil := { cold := 20, hot := 100, critical := 120 },
    coldMultiplier := 10, hotMultiplier := 12, criticalMultiplier := 20,
    coldStartLimit := 0, coldStartMultiplier := 24, crankMode := .level,
    crankWindow := 150, confirmTime := 20, stopTime := 30, failureLimit := 3, checkpointInterval := 10,
    filters := #v[
      { base := 0x1A0#11, mask := 0x7FF#11, format := .engineState, enabled := true },
      { base := 0x1B0#11, mask := 0x7FF#11, format := .drivelineState, enabled := true },
      { base := 0x1B8#11, mask := 0x7FF#11, format := .drivelineEvent, enabled := true },
      { base := 0x000#11, mask := 0x000#11, format := .engineState, enabled := false }],
    lastSegment := 0, lastSerial := 0 }

/-! ## Band Table (chapter 3) -/

/-- The metrics of a condition, in the order of their codes (R46). -/
inductive Metric
  | engineSpeed | engineTorque | engineOil | slipSpeed | outputSpeed | gear | transmissionOil
  deriving DecidableEq, Repr

/-- Band classes (R45). -/
inductive BandClass
  | ordinary | excursion
  deriving DecidableEq, Repr

/-- A condition: a metric against an inclusive range, inverted when low is above high (R46). -/
structure Condition where
  metric : Metric
  low : Int
  high : Int
  deriving DecidableEq, Repr

/-- The weight part of an entry (R45). -/
structure WeightPart where
  account : AccountIx
  cls : BandClass
  bin : Fin 7
  weight : Nat
  enabled : Bool
  deriving DecidableEq, Repr

/-- A band entry (R45). A staged secondary is some (some c) or some none (to become absent, R54). -/
structure BandEntry where
  primary : Condition
  secondary : Option Condition
  weightPart : WeightPart
  locked : Bool
  stagedPrimary : Option Condition
  stagedSecondary : Option (Option Condition)
  stagedWeight : Option WeightPart
  deriving DecidableEq, Repr

/-- The factory blank of R60. -/
def BandEntry.blank : BandEntry :=
  { primary := { metric := .engineSpeed, low := 0, high := 0 }, secondary := none,
    weightPart := { account := 0, cls := .ordinary, bin := 0, weight := 0, enabled := false },
    locked := false, stagedPrimary := none, stagedSecondary := none, stagedWeight := none }

/-- The sixteen entries and their suspect marks (R45, R61). -/
structure BandTable where
  entries : Vector BandEntry 16
  suspect : Vector Bool 16
  deriving DecidableEq, Repr

/-! ## Meter (chapter 4) -/

/-- The metering timer (milliseconds left, none when stopped, R62) and the working state of R65. -/
structure Meter where
  timer : Option Nat
  lastWinner : Vector (Option (Fin 16)) 5
  unobservedNow : Vector Bool 5
  deriving DecidableEq, Repr

/-- The Meter after any reset (R86). -/
def Meter.afterReset : Meter :=
  { timer := none, lastWinner := Vector.replicate 5 none, unobservedNow := Vector.replicate 5 false }

/-! ## Account Table (chapter 1) -/

/-- Account states (R8). -/
inductive AccountState
  | normal | suspect | restoring
  deriving DecidableEq, Repr

/-- An account record (R1 to R10). A field that the account does not have is none (R6). -/
structure Account where
  state : AccountState
  saturated : Bool
  activeTime : Nat
  events : Option Nat
  wear : Nat
  unobserved : Nat
  bins : Vector Nat 8
  coldStarts : Option Nat
  runsWithoutCrank : Option Nat
  engagedWhileRunning : Option Nat
  revolutions : Option Nat
  revRemainder : Option Nat
  ssActiveTime : Nat
  ssEvents : Option Nat
  ssWear : Nat
  serviceCount : Nat
  lastService : Option Nat
  credit : Nat
  baseWeight : Nat
  fallbackWeight : Nat
  eventWeight : Option Nat
  serviceThreshold : Nat
  lifeThreshold : Nat
  lastWrite : Option Nat
  deriving DecidableEq, Repr

/-- The default weights of R10: base, fallback, event. -/
def defaultWeights : Vector (Nat × Nat × Option Nat) 5 :=
  #v[(10, 20, some 2), (0, 0, some 1), (2, 6, some 3), (4, 8, some 1), (3, 6, none)]

/-- A present optional counter of account i starts at 0; the others are absent (R6). -/
def presentAt (owner i : AccountIx) : Option Nat := if i = owner then some 0 else none

/-- The zeros and defaults of a BLANK load of account i (R24). -/
def Account.blank (i : AccountIx) : Account :=
  { state := .normal, saturated := false, activeTime := 0,
    events := if i = 4 then none else some 0,
    wear := 0, unobserved := 0, bins := Vector.replicate 8 0,
    coldStarts := presentAt 0 i, runsWithoutCrank := presentAt 0 i, engagedWhileRunning := presentAt 1 i,
    revolutions := presentAt 4 i, revRemainder := presentAt 4 i,
    ssActiveTime := 0, ssEvents := if i = 4 then none else some 0, ssWear := 0,
    serviceCount := 0, lastService := none, credit := 0,
    baseWeight := defaultWeights[i].1, fallbackWeight := defaultWeights[i].2.1, eventWeight := defaultWeights[i].2.2,
    serviceThreshold := 0, lifeThreshold := 0, lastWrite := none }

/-- The five working copies (R1) and the last evaluated value of each threshold condition (R16). -/
structure AccountTable where
  accounts : Vector Account 5
  serviceDue : Vector Bool 5
  lifeLimit : Vector Bool 5
  deriving DecidableEq, Repr

/-- The five working copies as a BLANK load leaves them (R24). -/
def AccountTable.blank : AccountTable :=
  { accounts := #v[Account.blank 0, Account.blank 1, Account.blank 2, Account.blank 3, Account.blank 4],
    serviceDue := Vector.replicate 5 false, lifeLimit := Vector.replicate 5 false }

/-! ## Start Qualifier (chapter 5) -/

/-- Outcomes of an attempt, in the order of their codes (R105). -/
inductive AttemptOutcome
  | qualified | failed | stalled | unverified
  deriving DecidableEq, Repr

/-- The fields of the open attempt (R90). Durations in milliseconds (R102); the captured settings in their own units.
`sinceOpenMs` is the time-base time since the opening, from which time to run is taken (R95). -/
structure Attempt where
  beginTime : Nat
  oil : Option Int
  cold : Bool
  crankCount : Nat
  durationMs : Nat
  determined : Bool
  sinceOpenMs : Nat
  timeToRun : Option Nat
  window : Nat
  confirm : Nat
  threshold : Nat
  deriving DecidableEq, Repr

/-- The four states (R90). An attempt is open exactly in CRANKING, with the crank window's remaining milliseconds, and
in CONFIRMING, with the confirm timer's. RUNNING holds the stop timer, none when it is not running (R101). -/
inductive QualifierState
  | idle
  | cranking (a : Attempt) (windowMs : Nat)
  | confirming (a : Attempt) (confirmMs : Nat)
  | running (stopMs : Option Nat)
  deriving DecidableEq, Repr

/-- An entry of the start history (R105). -/
structure HistoryEntry where
  beginTime : Nat
  outcome : AttemptOutcome
  cold : Bool
  oil : Option Int
  crankCount : Nat
  duration : Option Nat
  timeToRun : Option Nat
  deriving DecidableEq, Repr

/-- The Start Qualifier: state, crank latch (R88), consecutive-failure count (R104), ring oldest first (R105). -/
structure Qualifier where
  state : QualifierState
  latch : Bool
  failures : Nat
  ring : List HistoryEntry
  deriving DecidableEq, Repr

/-- The initial state of R109. -/
def Qualifier.initial : Qualifier := { state := .idle, latch := false, failures := 0, ring := [] }

/-! ## Segment Log (chapter 6) -/

/-- Segment states, in the order of their codes (R112, R196). -/
inductive SegmentState
  | opened | closed | exported | damaged
  deriving DecidableEq, Repr

/-- The seven flags (R113, R126). -/
structure SegmentFlags where
  powerGap : Bool
  timebaseDegraded : Bool
  unobserved : Bool
  saturated : Bool
  restored : Bool
  serviced : Bool
  warmReset : Bool
  deriving DecidableEq, Repr

/-- No flag set. -/
def SegmentFlags.empty : SegmentFlags :=
  { powerGap := false, timebaseDegraded := false, unobserved := false, saturated := false, restored := false,
    serviced := false, warmReset := false }

/-- Active time, event count and wear of one account in a segment (R113). -/
structure Figures where
  active : Nat
  events : Option Nat
  wear : Nat
  deriving DecidableEq, Repr

/-- The tracked quantities of a segment: the snapshot while OPEN, the deltas afterwards (R113). -/
structure Tracked where
  figures : Vector Figures 5
  coldStarts : Nat
  revolutions : Nat
  unobserved : Nat
  deriving DecidableEq, Repr

/-- All tracked quantities 0; the DRIVELINE event count is absent (R113). -/
def Tracked.zero : Tracked :=
  { figures := #v[{ active := 0, events := some 0, wear := 0 }, { active := 0, events := some 0, wear := 0 },
      { active := 0, events := some 0, wear := 0 }, { active := 0, events := some 0, wear := 0 },
      { active := 0, events := none, wear := 0 }],
    coldStarts := 0, revolutions := 0, unobserved := 0 }

/-- A segment (R113). -/
structure Segment where
  number : Nat
  state : SegmentState
  renter : List Byte
  tariff : Byte
  openTime : Nat
  closeTime : Option Nat
  serial : Nat
  tracked : Tracked
  flags : SegmentFlags
  deriving DecidableEq, Repr

/-- A DAMAGED segment: number 0, serial 0, every other field 0 (R129). -/
def Segment.damaged : Segment :=
  { number := 0, state := .damaged, renter := List.replicate 6 0#8, tariff := 0#8, openTime := 0, closeTime := some 0,
    serial := 0, tracked := Tracked.zero, flags := SegmentFlags.empty }

/-- A segment of the log with the slot that holds it, record 32 + slot (R111). -/
structure LogEntry where
  slot : Fin 24
  seg : Segment
  deriving DecidableEq, Repr

/-- The log, position 0 first (R111), and the last evaluated LOG_NEAR_FULL (R127). -/
structure SegmentLog where
  entries : List LogEntry
  nearFull : Bool
  deriving DecidableEq, Repr

/-! ## Records (chapter 8) -/

/-- The 46 record ids: 0..4, 5, 16..31, 32..55 (R150). -/
inductive RecordId
  | account (i : AccountIx)
  | settings
  | band (i : Fin 16)
  | slot (i : Fin 24)
  deriving DecidableEq, Repr

/-- The content of a record, with the id it was written for (R150, R153). A slot record is composed from the segment the
slot holds. -/
inductive RecordContent
  | account (i : AccountIx) (a : Account)
  | settings (s : Settings)
  | band (i : Fin 16) (e : BandEntry)
  | slot (i : Fin 24) (seg : Option Segment)
  deriving DecidableEq, Repr

/-- What the array holds of one record: nothing ever written, an image whose check agrees, or anything else (R153). -/
inductive Stored
  | blank
  | whole (c : RecordContent)
  | bad
  deriving DecidableEq, Repr

/-! ## Alert Unit (chapter 7) -/

/-- Sources (R133): the accounts 0..4 and DEVICE 5. -/
inductive Source
  | account (i : AccountIx)
  | device
  deriving DecidableEq, Repr

/-- Causes in cause priority order (R133). -/
inductive Cause
  | lifeLimit | recordSuspect | storeOffline | serviceDue | excursion | unobserved | startFailures | timebase
  | powerGap | storeFault | logNearFull
  deriving DecidableEq, Repr

/-- A source and a cause name an alert (R133). -/
structure AlertPair where
  source : Source
  cause : Cause
  deriving DecidableEq, Repr

/-- Entry states (R134). -/
inductive EntryState
  | pending | acknowledged
  deriving DecidableEq, Repr

/-- An entry of the alert set (R134). Kind and level follow from the cause (R133) and are not stored again. -/
structure AlertEntry where
  pair : AlertPair
  state : EntryState
  parameter : Option Byte
  firstRaised : Nat
  latest : Nat
  repeats : Nat
  deriving DecidableEq, Repr

/-- The alert set (R134), the condition pairs held true and the suspect-record list (R135), each without repeats. -/
structure AlertUnit where
  entries : List AlertEntry
  heldTrue : List AlertPair
  suspects : List RecordId
  deriving DecidableEq, Repr

/-- The Alert Unit after a cold reset (R149). -/
def AlertUnit.initial : AlertUnit := { entries := [], heldTrue := [], suspects := [] }

/-! ## Record Store (chapter 8) -/

/-- Which load LOADING runs: a cold load, or the load after a failed retention check (R153, R190). -/
inductive LoadKind
  | cold | failedCheck
  deriving DecidableEq, Repr

/-- Store states (R152). -/
inductive StoreState
  | loading (k : LoadKind)
  | ready
  | writing
  | flushing
  | offline
  deriving DecidableEq, Repr

/-- A write in flight: its record, the image composed at its begin, and whether the record has changed since (R156). -/
structure Write where
  record : RecordId
  image : RecordContent
  dirty : Bool
  deriving DecidableEq, Repr

/-- The Record Store. `changed` and `array` are indexed by `RecordId.index`. `flushList` is what is left of the flush
list, `pfwTaken` a PFW assertion that waits for the write in flight, `pfwReleased` a release during the flush (R161,
R162). `checkpointMs` is the elapsed time of the checkpoint timer (R158). -/
structure Store where
  state : StoreState
  array : Vector Stored 46
  changed : Vector Bool 46
  queue : List RecordId
  inFlight : Option Write
  flushList : List AccountIx
  pfwTaken : Bool
  pfwReleased : Bool
  settingsSuspect : Bool
  checkpointMs : Nat
  deriving DecidableEq, Repr

/-! ## Network Port and Request Engine (chapter 9) -/

/-- A frame of the transmit queue (R172). `startsReset` marks the RESET DEVICE response whose transmission begins the
commanded reset (R178). -/
structure Frame where
  id : CanId
  data : List Byte
  startsReset : Bool
  deriving DecidableEq, Repr

/-- Port states (R179). -/
inductive PortState
  | running | busOff
  deriving DecidableEq, Repr

/-- The Network Port: the transmit queue, oldest first (R172), and the port state. -/
structure Port where
  tx : List Frame
  state : PortState
  deriving DecidableEq, Repr

/-- One write a deferred response waits for: a write of the record that has still to begin, or, once `begun`, the write
in flight (R157). -/
structure Wait where
  record : RecordId
  begun : Bool
  deriving DecidableEq, Repr

/-- The phase of a BUSY slot (R166): WAITING on record writes with the payload its answer will carry, or HELD with the
frame composed. -/
inductive Phase
  | waiting (waits : List Wait) (payload : List Byte)
  | held (frame : Frame)
  deriving DecidableEq, Repr

/-- The request in flight (R166). -/
structure InFlight where
  kind : Byte
  ops : List Byte
  phase : Phase
  deriving DecidableEq, Repr

/-- Regions of READ, in the order of their codes (R174, R194). -/
inductive Region
  | status | account | segment | band | startHistory | alert | settings
  deriving DecidableEq, Repr

/-- Read buffer and cursor, set and cleared together (R166). -/
structure ReadBuffer where
  region : Region
  index : Nat
  offset : Nat
  image : List Byte
  deriving DecidableEq, Repr

/-- A slot's context: IDLE when nothing is in flight (R166). -/
structure ClientSlot where
  inFlight : Option InFlight
  buffer : Option ReadBuffer
  deriving DecidableEq, Repr

/-- A slot after any reset (R180). -/
def ClientSlot.idle : ClientSlot := { inFlight := none, buffer := none }

/-- The restore buffer of slot 3: an account and values by field identifier 0..18, each at most once (R19). -/
structure RestoreBuffer where
  account : AccountIx
  fields : List (Nat × Nat)
  deriving DecidableEq, Repr

/-- The Request Engine. `resetPending` is the pending commanded reset of R178, `resetDue` one whose response has been
sent and that waits for the write in flight (R163). -/
structure RequestEngine where
  slots : Vector ClientSlot 4
  restore : Option RestoreBuffer
  resetPending : Bool
  resetDue : Bool
  deriving DecidableEq, Repr

/-- The Request Engine after any reset (R180). -/
def RequestEngine.afterReset : RequestEngine :=
  { slots := Vector.replicate 4 ClientSlot.idle, restore := none, resetPending := false, resetDue := false }

/-! ## Time Base and Mode Controller (chapter 10) -/

/-- Modes (R185). -/
inductive Mode
  | active | parked | dormant
  deriving DecidableEq, Repr

/-- Time base selection (R181). -/
inductive Selection
  | crystal | internalRc
  deriving DecidableEq, Repr

/-- Reset kinds, in the order of their codes (R189, R191). -/
inductive ResetKind
  | cold | warm | commanded
  deriving DecidableEq, Repr

/-- A warm or commanded reset between its beginning and RESET_END: its kind, and whether the retained area is spoiled
(R189, R190). A load it interrupted is still the store's state, LOADING. -/
structure ResetInProgress where
  kind : ResetKind
  spoiled : Bool
  deriving DecidableEq, Repr

/-- The reset record (R191). -/
structure ResetRecord where
  kind : ResetKind
  retentionLost : Bool
  warmCount : Nat
  deviceTime : Nat
  deriving DecidableEq, Repr

/-- The Time Base and the Mode Controller. Device time in seconds, `subSecondMs` of the current second (R184); the linger
in milliseconds left, none when stopped (R185); the straps as sampled at the last reset (R198). -/
structure TimeBase where
  mode : Mode
  inReset : Option ResetInProgress
  selection : Selection
  goodWindows : Nat
  timebaseHeld : Bool
  deviceTime : Nat
  subSecondMs : Nat
  linger : Option Nat
  resetRecord : ResetRecord
  straps : Straps
  deriving DecidableEq, Repr

/-- The levels of the input lines, true for asserted (R198). -/
structure Lines where
  ign : Bool
  crank : Bool
  pfw : Bool
  deriving DecidableEq, Repr

/-! ## The whole part -/

/-- The state of the part, with the queue of the commands that wait (first in, first out). -/
structure State where
  pending : List Instr
  lines : Lines
  port : Port
  intake : Intake
  settings : Settings
  bands : BandTable
  meter : Meter
  accounts : AccountTable
  qualifier : Qualifier
  log : SegmentLog
  alerts : AlertUnit
  store : Store
  engine : RequestEngine
  time : TimeBase
  deriving DecidableEq, Repr

/-- Nothing in the manual stops the part: no command ends in a fault, so there is no constructor. Safe or unsafe does not
arise. -/
inductive Fault
  deriving DecidableEq, Repr

/-- Why a command has no meaning. -/
inductive Refusal
  /-- Raised by an arm of `exec` whose command has no meaning yet; every command has one, so no arm raises it. Safe. -/
  | notModelled (mnemonic : String)
  deriving DecidableEq, Repr

/-- The state a cold reset leaves, in LOADING (R164, R180, R44, R86, R109, R149): what the supply loss takes is at its
initial value (working copies, bands and settings at their blank values until the load forms them, log 3), the linger is
started (R185), and the nonvolatile array, the line levels and the waiting commands are as given. -/
def State.coldStart (pending : List Instr) (lines : Lines) (array : Vector Stored 46) (straps : Straps)
    (selection : Selection) : State :=
  { pending := pending, lines := lines, port := { tx := [], state := .running }, intake := Intake.afterReset,
    settings := Settings.default,
    bands := { entries := Vector.replicate 16 BandEntry.blank, suspect := Vector.replicate 16 false },
    meter := Meter.afterReset, accounts := AccountTable.blank, qualifier := Qualifier.initial,
    log := { entries := [], nearFull := false }, alerts := AlertUnit.initial,
    store :=
      { state := .loading .cold, array := array, changed := Vector.replicate 46 false, queue := [], inFlight := none,
        flushList := [], pfwTaken := false, pfwReleased := false, settingsSuspect := false, checkpointMs := 0 },
    engine := RequestEngine.afterReset,
    time :=
      { mode := .active, inReset := none, selection := selection, goodWindows := 0, timebaseHeld := false,
        deviceTime := 0, subSecondMs := 0, linger := some lingerMs,
        resetRecord := { kind := .cold, retentionLost := false, warmCount := 0, deviceTime := 0 },
        straps := straps } }

/-- The part right after the cold reset of a new part: LOADING an array of which no record was ever written (R152, R164).
Line levels and straps, which the manual does not give, are released and low, and the monitor window that ends the reset and
decides the time base selection (R183) is taken as good, so the selection is crystal (all DESIGN CHOICE, log 2). -/
def State.reset : State :=
  State.coldStart [] { ign := false, crank := false, pfw := false } (Vector.replicate 46 .blank)
    { na0 := false, na1 := false, br := false } .crystal

end Sys2Proof.Machine
end

