-- ==== Sys2Proof/Machine/Operands.lean ====
section
/-! DEFINITION. Operand forms: byte order, the operands of every request kind (R194), routing (R38, R39), the fields of the
observation frames (R27, R193), and the clamped write of every setting (R197). -/

namespace Sys2Proof.Machine

/-! ## Bytes: most significant first, signed fields two's complement (R192) -/

/-- The low byte of a number. -/
def byteOf (n : Nat) : Byte := BitVec.ofNat 8 n

/-- A two-byte field. -/
def bytes16 (n : Nat) : List Byte := [byteOf (n / 256), byteOf n]

/-- A three-byte field. -/
def bytes24 (n : Nat) : List Byte := byteOf (n / 65536) :: bytes16 n

/-- A four-byte field. -/
def bytes32 (n : Nat) : List Byte := byteOf (n / 16777216) :: bytes24 n

/-- The value of a two-byte field. -/
def nat16 (b1 b0 : Byte) : Nat := b1.toNat * 256 + b0.toNat

/-- The value of a four-byte field. -/
def nat32 (b3 b2 b1 b0 : Byte) : Nat := nat16 b3 b2 * 65536 + nat16 b1 b0

/-- The two's complement reading of an n-bit field. -/
def signedOf (bits n : Nat) : Int := if n < 2 ^ (bits - 1) then (n : Int) else (n : Int) - 2 ^ bits

/-- The signed value of a one-byte field. -/
def int8 (b : Byte) : Int := signedOf 8 b.toNat

/-- The signed value of a two-byte field. -/
def int16 (b1 b0 : Byte) : Int := signedOf 16 (nat16 b1 b0)

/-- A signed quantity as a two-byte field. -/
def bytesInt16 (v : Int) : List Byte := bytes16 (v % 65536).toNat

/-- The nearest value of the range lo..hi. -/
def clamp (lo hi v : Int) : Int := max lo (min v hi)

/-- The nearest value of a range of naturals. -/
def clampNat (lo hi : Nat) (v : Int) : Nat := (clamp lo hi v).toNat

/-! ## Requests (R194) -/

/-- A request with its operands read at the places of R194. The value of WRITE SETTING stays the 32-bit number sent: the
setting decides how it is read. -/
inductive Request
  | status
  | read (region : Region) (index : Nat)
  | next
  | openRental (renter : List Byte) (tariff : Byte)
  | closeRental
  | markExported (number : Nat)
  | ackAlert (source cause : Nat)
  | serviceReset (account : Nat)
  | restoreField (account field value : Nat)
  | restoreDone (account : Nat)
  | bandPrimary (entry metric : Nat) (low high : Int)
  | bandSecondary (entry metric : Nat) (low high : Int)
  | bandWeight (entry account cls bin weight enabled : Nat)
  | bandLock (entry : Nat)
  | writeSetting (id account raw : Nat)
  | checkpoint
  | resetDevice
  deriving DecidableEq, Repr

/-- The region codes of READ (R194). -/
def regionOfCode (n : Nat) : Option Region :=
  match n with
  | 0 => some .status
  | 1 => some .account
  | 2 => some .segment
  | 3 => some .band
  | 4 => some .startHistory
  | 5 => some .alert
  | 6 => some .settings
  | _ => none

/-- READ: region, index. None where the frame is short or the region code unknown (R167, step 2). -/
def parseRead : List Byte → Option Request
  | r :: i :: _ => (regionOfCode r.toNat).map fun reg => .read reg i.toNat
  | _ => none

/-- OPEN RENTAL: renter reference (6 bytes), tariff code. -/
def parseOpenRental : List Byte → Option Request
  | r0 :: r1 :: r2 :: r3 :: r4 :: r5 :: t :: _ => some (.openRental [r0, r1, r2, r3, r4, r5] t)
  | _ => none

/-- MARK EXPORTED: segment number. -/
def parseMarkExported : List Byte → Option Request
  | n1 :: n0 :: _ => some (.markExported (nat16 n1 n0))
  | _ => none

/-- ACK ALERT: source, cause. -/
def parseAckAlert : List Byte → Option Request
  | s :: c :: _ => some (.ackAlert s.toNat c.toNat)
  | _ => none

/-- SERVICE RESET: account. -/
def parseServiceReset : List Byte → Option Request
  | a :: _ => some (.serviceReset a.toNat)
  | _ => none

/-- RESTORE FIELD: account, field identifier, unsigned value. -/
def parseRestoreField : List Byte → Option Request
  | a :: f :: v3 :: v2 :: v1 :: v0 :: _ => some (.restoreField a.toNat f.toNat (nat32 v3 v2 v1 v0))
  | _ => none

/-- RESTORE DONE: account. -/
def parseRestoreDone : List Byte → Option Request
  | a :: _ => some (.restoreDone a.toNat)
  | _ => none

/-- BAND PRIMARY: entry, metric, low bound, high bound, signed. -/
def parseBandPrimary : List Byte → Option Request
  | e :: m :: l1 :: l0 :: h1 :: h0 :: _ => some (.bandPrimary e.toNat m.toNat (int16 l1 l0) (int16 h1 h0))
  | _ => none

/-- BAND SECONDARY: as BAND PRIMARY, or entry and metric 255 alone (the bounds are not read when absent is given). -/
def parseBandSecondary : List Byte → Option Request
  | e :: m :: rest =>
    if m.toNat = 255 then some (.bandSecondary e.toNat 255 0 0)
    else
      match rest with
      | l1 :: l0 :: h1 :: h0 :: _ => some (.bandSecondary e.toNat m.toNat (int16 l1 l0) (int16 h1 h0))
      | _ => none
  | _ => none

/-- BAND WEIGHT: entry, account, class, bin, weight, enabled. -/
def parseBandWeight : List Byte → Option Request
  | e :: a :: c :: b :: w1 :: w0 :: n :: _ =>
    some (.bandWeight e.toNat a.toNat c.toNat b.toNat (nat16 w1 w0) n.toNat)
  | _ => none

/-- BAND LOCK: entry. -/
def parseBandLock : List Byte → Option Request
  | e :: _ => some (.bandLock e.toNat)
  | _ => none

/-- WRITE SETTING: setting id, account, value. -/
def parseWriteSetting : List Byte → Option Request
  | i :: a :: v3 :: v2 :: v1 :: v0 :: _ => some (.writeSetting i.toNat a.toNat (nat32 v3 v2 v1 v0))
  | _ => none

/-- The request a kind code and its operand bytes spell (R194); none for an unknown kind code or a short frame. -/
def parseRequest (kind : Nat) (ops : List Byte) : Option Request :=
  match kind with
  | 0x01 => some .status
  | 0x02 => parseRead ops
  | 0x03 => some .next
  | 0x10 => parseOpenRental ops
  | 0x11 => some .closeRental
  | 0x12 => parseMarkExported ops
  | 0x18 => parseAckAlert ops
  | 0x20 => parseServiceReset ops
  | 0x21 => parseRestoreField ops
  | 0x22 => parseRestoreDone ops
  | 0x30 => parseBandPrimary ops
  | 0x31 => parseBandSecondary ops
  | 0x32 => parseBandWeight ops
  | 0x33 => parseBandLock ops
  | 0x40 => parseWriteSetting ops
  | 0x50 => some .checkpoint
  | 0x5A => some .resetDevice
  | _ => none

/-! ## Routing (R38 to R40, R165) -/

/-- NA0 + 2 × NA1 (R198). -/
def nodeAddress (s : Straps) : Nat := s.na0.toNat + 2 * s.na1.toNat

/-- A slot's request identifier (R165). -/
def requestId (s : Straps) (slot : SlotIx) : CanId := BitVec.ofNat 11 (0x6A0 + 4 * nodeAddress s + slot.val)

/-- A slot's response identifier (R165). -/
def responseId (s : Straps) (slot : SlotIx) : CanId := BitVec.ofNat 11 (0x6B0 + 4 * nodeAddress s + slot.val)

/-- The notice identifier (R145). -/
def noticeId (s : Straps) : CanId := BitVec.ofNat 11 (0x6C0 + nodeAddress s)

/-- Where a frame goes (R38). -/
inductive Route
  | request (slot : SlotIx)
  | observation (f : ObsFormat)
  | ignored
  deriving DecidableEq, Repr

/-- An enabled entry matches an identifier that agrees with its base wherever the mask is 1 (R39, R40). -/
def Filter.accepts (f : Filter) (id : CanId) : Bool := f.enabled && (id &&& f.mask) == (f.base &&& f.mask)

/-- The format of the lowest enabled entry that matches (R40). -/
def filterFormat (fs : Vector Filter 4) (id : CanId) : Option ObsFormat :=
  (fs.toList.find? (Filter.accepts · id)).map Filter.format

/-- The order of R38: the part's own request identifiers, then the filter table, else ignored. -/
def routeOf (straps : Straps) (fs : Vector Filter 4) (id : CanId) : Route :=
  match ([0, 1, 2, 3] : List SlotIx).find? (fun slot => requestId straps slot == id) with
  | some slot => .request slot
  | none =>
    match filterFormat fs id with
    | some f => .observation f
    | none => .ignored

/-! ## Fields of the observation frames (R27); none is the not-available code -/

/-- A 16-bit speed in rpm, clamped to its highest value. -/
def speedField (top : Int) (b1 b0 : Byte) : Option Int :=
  let raw := nat16 b1 b0
  if raw = 0xFFFF then none else some (min (raw : Int) top)

/-- Engine torque in percent. -/
def torqueField (b : Byte) : Option Int :=
  let raw := int8 b
  if raw = -128 then none else some (clamp (-125) 125 raw)

/-- An oil temperature: raw − 40 °C. -/
def oilField (b : Byte) : Option Int :=
  if b.toNat = 0xFF then none else some (min ((b.toNat : Int) - 40) 210)

/-- Starter status: the low two bits. -/
def starterField (b : Byte) : Option StarterStatus :=
  match b.toNat % 4 with
  | 0 => some .notEngaged
  | 1 => some .engaged
  | _ => none

/-- Gear number. -/
def gearField (b : Byte) : Option Int :=
  if b.toNat = 0x7F then none else some (clamp (-2) 16 (int8 b))

/-- Clutch state: the low two bits. -/
def clutchField (b : Byte) : Option ClutchState :=
  match b.toNat % 4 with
  | 0 => some .closed
  | 1 => some .slipping
  | 2 => some .opened
  | _ => none

/-- A field that is available refreshes its signal: new value, FRESH, age 0 (R29); a not-available field leaves it (R28). -/
def Signal.refresh {α : Type} (sig : Signal α) : Option α → Signal α
  | some v => { value := some v, ageing := { cls := .fresh, age := 0 } }
  | none => sig

/-- The value a reader may use: the stored value while FRESH or HELD, none while UNKNOWN (R25, R31). -/
def Signal.known {α : Type} (sig : Signal α) : Option α :=
  match sig.ageing.cls with
  | .unknown => none
  | .fresh | .held => sig.value

/-! ## Bands (R46, R52) -/

/-- The metric codes (R46). -/
def metricOfCode (n : Nat) : Option Metric :=
  match n with
  | 0 => some .engineSpeed
  | 1 => some .engineTorque
  | 2 => some .engineOil
  | 3 => some .slipSpeed
  | 4 => some .outputSpeed
  | 5 => some .gear
  | 6 => some .transmissionOil
  | _ => none

/-- The code of a metric (R46). -/
def Metric.code : Metric → Nat
  | .engineSpeed => 0
  | .engineTorque => 1
  | .engineOil => 2
  | .slipSpeed => 3
  | .outputSpeed => 4
  | .gear => 5
  | .transmissionOil => 6

/-- The range of a metric (R46). -/
def Metric.range : Metric → Int × Int
  | .engineSpeed => (0, 8000)
  | .engineTorque => (-125, 125)
  | .engineOil => (-40, 210)
  | .slipSpeed => (0, 4000)
  | .outputSpeed => (0, 6000)
  | .gear => (-2, 16)
  | .transmissionOil => (-40, 210)

/-- A condition as stored: each bound clamped to the metric's range on its own (R46). -/
def Condition.clamped (m : Metric) (low high : Int) : Condition :=
  { metric := m, low := clamp m.range.1 m.range.2 low, high := clamp m.range.1 m.range.2 high }

/-- The value of a metric's signal while FRESH or HELD (R49). -/
def Intake.metric (x : Intake) : Metric → Option Int
  | .engineSpeed => x.engineSpeed.known
  | .engineTorque => x.engineTorque.known
  | .engineOil => x.engineOil.known
  | .slipSpeed => x.slipSpeed.known
  | .outputSpeed => x.outputSpeed.known
  | .gear => x.gear.known
  | .transmissionOil => x.transmissionOil.known

/-- An account index from an operand byte; none above 4. -/
def accountOf (n : Nat) : Option AccountIx := if h : n < 5 then some ⟨n, h⟩ else none

/-- A band entry index; none above 15. -/
def bandOf (n : Nat) : Option (Fin 16) := if h : n < 16 then some ⟨n, h⟩ else none

/-- A band class code (R45). -/
def bandClassOf (n : Nat) : Option BandClass :=
  match n with
  | 0 => some .ordinary
  | 1 => some .excursion
  | _ => none

/-- The weight part a BAND WEIGHT request spells; none for an account, class or bin outside its range (R52). An enabled
value above 1 is taken as 1. -/
def weightPartOf (account cls bin weight enabled : Nat) : Option WeightPart :=
  match accountOf account, bandClassOf cls with
  | some a, some c =>
    if h : bin < 7 then
      some { account := a, cls := c, bin := ⟨bin, h⟩, weight := weight, enabled := enabled != 0 }
    else none
  | _, _ => none

/-! ## Settings (R197) -/

/-- Filter field 0 base, 1 mask, 2 format, 3 enabled, each clamped (R41). -/
def Filter.writeField (f : Filter) (field : Nat) (v : Int) : Filter :=
  match field with
  | 0 => { f with base := BitVec.ofNat 11 (clampNat 0 0x7FF v) }
  | 1 => { f with mask := BitVec.ofNat 11 (clampNat 0 0x7FF v) }
  | 2 =>
    { f with
      format :=
        match clampNat 0 2 v with
        | 0 => .engineState
        | 1 => .drivelineState
        | _ => .drivelineEvent }
  | _ => { f with enabled := clampNat 0 1 v == 1 }

/-- The crank line mode of a code, a code above 2 taken as 2 (R87). -/
def crankModeOf (v : Int) : CrankMode :=
  match clampNat 0 2 v with
  | 0 => .off
  | 1 => .level
  | _ => .edge

/-- A cold limit: its range, then at most the hot limit (R74). -/
def OilLimits.writeCold (l : OilLimits) (v : Int) : OilLimits := { l with cold := min (clamp (-40) 210 v) l.hot }

/-- A hot limit: its range, then between the cold and the critical limit (R74). -/
def OilLimits.writeHot (l : OilLimits) (v : Int) : OilLimits :=
  { l with hot := max l.cold (min (clamp (-40) 210 v) l.critical) }

/-- A critical limit: its range, then at least the hot limit (R74). -/
def OilLimits.writeCritical (l : OilLimits) (v : Int) : OilLimits :=
  { l with critical := max l.hot (clamp (-40) 210 v) }

/-- A write of a device setting, clamped to its range and then against its neighbours (R197, R32, R41, R74); none for an
id that names no device setting. -/
def Settings.write (s : Settings) (id : Nat) (v : Int) : Option Settings :=
  match id with
  | 0x01 => some { s with freshLimit := min (clampNat 100 1000 v) s.holdLimit }
  | 0x02 => some { s with holdLimit := max (clampNat 250 5000 v) s.freshLimit }
  | 0x03 => some { s with runThreshold := clampNat 200 2000 v }
  | 0x04 => some { s with engineOil := s.engineOil.writeCold v }
  | 0x05 => some { s with engineOil := s.engineOil.writeHot v }
  | 0x06 => some { s with engineOil := s.engineOil.writeCritical v }
  | 0x07 => some { s with transmissionOil := s.transmissionOil.writeCold v }
  | 0x08 => some { s with transmissionOil := s.transmissionOil.writeHot v }
  | 0x09 => some { s with transmissionOil := s.transmissionOil.writeCritical v }
  | 0x0A => some { s with coldMultiplier := clampNat 4 32 v }
  | 0x0B => some { s with hotMultiplier := clampNat 4 32 v }
  | 0x0C => some { s with criticalMultiplier := clampNat 4 32 v }
  | 0x0D => some { s with coldStartLimit := clamp (-40) 60 v }
  | 0x0E => some { s with coldStartMultiplier := clampNat 8 32 v }
  | 0x0F => some { s with crankMode := crankModeOf v }
  | 0x10 => some { s with crankWindow := clampNat 50 600 v }
  | 0x11 => some { s with confirmTime := clampNat 5 100 v }
  | 0x12 => some { s with stopTime := clampNat 10 300 v }
  | 0x13 => some { s with failureLimit := clampNat 1 15 v }
  | 0x14 => some { s with checkpointInterval := clampNat 1 60 v }
  | n =>
    if h : 0x20 ≤ n ∧ n ≤ 0x2F then
      let entry : Fin 4 := ⟨(n - 0x20) / 4, by omega⟩
      some { s with filters := s.filters.set entry (s.filters[entry].writeField ((n - 0x20) % 4) v) }
    else none

/-- A write of a per-account setting (R10): weights read as signed and clamped, thresholds read unsigned (R194). None for an
id that names no per-account setting, or the event weight of an account that has none (R6). -/
def Account.writeSetting (a : Account) (id raw : Nat) : Option Account :=
  match id with
  | 0x40 => some { a with baseWeight := clampNat 0 65535 (signedOf 32 raw) }
  | 0x41 => some { a with fallbackWeight := clampNat 0 65535 (signedOf 32 raw) }
  | 0x42 =>
    match a.eventWeight with
    | some _ => some { a with eventWeight := some (clampNat 0 65535 (signedOf 32 raw)) }
    | none => none
  | 0x43 => some { a with serviceThreshold := raw }
  | 0x44 => some { a with lifeThreshold := raw }
  | _ => none

end Sys2Proof.Machine
end

