-- ==== Sys2Proof/Machine/Ranges.lean ====
section
/-! DEFINITION. The stated range of every field of a record, which a GOOD record keeps (R153). A code that is a type of the
model (a state, a class, a bin, a metric, an account) cannot leave its range. A range is that of the field by itself (DEDUCED, log 29). -/

namespace Sys2Proof.Machine

/-- A full-width counter, a device time or a threshold (R2, R10, R184, R192). -/
def counterIn (n : Nat) : Bool := decide (n ≤ counterMax)

/-- A weight (R10, R45). -/
def weightIn (n : Nat) : Bool := decide (n ≤ 65535)

/-- A time that may be absent (R5, R9, R113). -/
def timeIn (t : Option Nat) : Bool := t.all counterIn

/-- A field that some accounts have: absent exactly where it is not present, else at most its top (R6). -/
def optionalIn (present : Bool) (top : Nat) (v : Option Nat) : Bool :=
  match v with
  | some n => present && decide (n ≤ top)
  | none => !present

/-- An account record: counters, optional fields by account, F and remainder, service count, weights and thresholds (R2, R4
to R10). -/
def Account.inRange (a : Account) (i : AccountIx) : Bool :=
  [a.activeTime, a.wear, a.unobserved, a.ssActiveTime, a.ssWear, a.serviceThreshold, a.lifeThreshold].all counterIn &&
    a.bins.toList.all counterIn &&
    (optionalIn (i != 4) counterMax a.events && optionalIn (i != 4) counterMax a.ssEvents &&
      optionalIn (i != 4) 65535 a.eventWeight) &&
    (optionalIn (i == 0) counterMax a.coldStarts && optionalIn (i == 0) counterMax a.runsWithoutCrank &&
      optionalIn (i == 1) counterMax a.engagedWhileRunning) &&
    (optionalIn (i == 4) counterMax a.revolutions && optionalIn (i == 4) (revolutionScale - 1) a.revRemainder) &&
    decide (a.serviceCount ≤ 255) && decide (a.credit < creditScale) && weightIn a.baseWeight &&
    weightIn a.fallbackWeight && timeIn a.lastService && timeIn a.lastWrite

/-- A natural within lo..hi. -/
def withinNat (lo hi n : Nat) : Bool := decide (lo ≤ n) && decide (n ≤ hi)

/-- A signed quantity within lo..hi. -/
def withinInt (lo hi v : Int) : Bool := decide (lo ≤ v) && decide (v ≤ hi)

/-- The three limits of an oil signal (R74). -/
def OilLimits.inRange (l : OilLimits) : Bool :=
  withinInt (-40) 210 l.cold && withinInt (-40) 210 l.hot && withinInt (-40) 210 l.critical

/-- The settings record, by the ranges of R197, which sets the further clamps of R32 and R74 apart from them. -/
def Settings.inRange (v : Settings) : Bool :=
  withinNat 100 1000 v.freshLimit && withinNat 250 5000 v.holdLimit && withinNat 200 2000 v.runThreshold &&
    v.engineOil.inRange && v.transmissionOil.inRange && withinNat 4 32 v.coldMultiplier &&
    withinNat 4 32 v.hotMultiplier && withinNat 4 32 v.criticalMultiplier && withinInt (-40) 60 v.coldStartLimit &&
    withinNat 8 32 v.coldStartMultiplier && withinNat 50 600 v.crankWindow && withinNat 5 100 v.confirmTime &&
    withinNat 10 300 v.stopTime && withinNat 1 15 v.failureLimit && withinNat 1 60 v.checkpointInterval &&
    withinNat 0 65535 v.lastSegment && counterIn v.lastSerial

/-- A condition: both bounds within the metric's range (R46). -/
def Condition.inRange (c : Condition) : Bool :=
  withinInt c.metric.range.1 c.metric.range.2 c.low && withinInt c.metric.range.1 c.metric.range.2 c.high

/-- A band record: the active fields and the staged parts (R45, R46, R54). -/
def BandEntry.inRange (e : BandEntry) : Bool :=
  e.primary.inRange && e.secondary.all Condition.inRange && weightIn e.weightPart.weight &&
    e.stagedPrimary.all Condition.inRange && e.stagedSecondary.all (Option.all Condition.inRange) &&
    e.stagedWeight.all fun w => weightIn w.weight

/-- The figures of account i in a segment (R113). -/
def Figures.inRange (f : Figures) (i : AccountIx) : Bool :=
  counterIn f.active && optionalIn (i != 4) counterMax f.events && counterIn f.wear

/-- The tracked quantities of a segment (R113). -/
def Tracked.inRange (t : Tracked) : Bool :=
  ((List.finRange 5).all fun i => t.figures[i].inRange i) && counterIn t.coldStarts && counterIn t.revolutions &&
    counterIn t.unobserved

/-- A slot record: number and opening serial 1 and up, 0 only of a DAMAGED segment; six bytes of renter reference; a close
time unless OPEN; times and tracked quantities (R113, R115). -/
def Segment.inRange (g : Segment) : Bool :=
  (if g.state = .damaged then g.number == 0 && g.serial == 0
    else withinNat 1 65535 g.number && withinNat 1 counterMax g.serial) &&
    g.renter.length == 6 && counterIn g.openTime && timeIn g.closeTime &&
    g.closeTime.isSome == decide (g.state ≠ .opened) && g.tracked.inRange

end Sys2Proof.Machine
end

