-- ==== Sys2Proof/Machine/Flags.lean ====
section
/-! DEFINITION. The arithmetic of the accounts and the flags it gives: saturating additions and the saturated flag (R2, R8),
credits (R12), the threshold conditions (R16), oil classes (R73), activity (R66), band matching (R49, R50), and the tracked
quantities of a segment with SATURATED (R114, R119). -/

namespace Sys2Proof.Machine

/-! ## Saturating counters (R2, R8) -/

/-- A saturating addition (R2). -/
def addTo (c n : Nat) : Nat := min (c + n) counterMax

/-- Part of the addition is lost (R8): also any addition to a counter that already holds the maximum. An addition of 0 loses
nothing; for the whole revolutions of R79, which can be 0 with the count at its maximum, R8 does not say so (DESIGN CHOICE,
log 25). -/
def lost (c n : Nat) : Bool := counterMax < c + n

/-- A saturating addition to a field the account may not have (R6). -/
def addToOpt (c : Option Nat) (n : Nat) : Option Nat := c.map (addTo · n)

/-- Part of an addition to an optional field is lost. -/
def lostOpt (c : Option Nat) (n : Nat) : Bool :=
  match c with
  | some v => lost v n
  | none => false

/-- Time of an active period in bin b: lifetime and since-service active time and the bin, each +1 (R13, R76). -/
def Account.addActive (a : Account) (b : Fin 8) : Account :=
  { a with
    activeTime := addTo a.activeTime 1
    ssActiveTime := addTo a.ssActiveTime 1
    bins := a.bins.set b (addTo a.bins[b] 1)
    saturated := a.saturated || lost a.activeTime 1 || lost a.ssActiveTime 1 || lost a.bins[b] 1 }

/-- Unobserved time +1 (R13, R69). -/
def Account.addUnobserved (a : Account) : Account :=
  { a with unobserved := addTo a.unobserved 1, saturated := a.saturated || lost a.unobserved 1 }

/-- The whole units a credit carries (R12). -/
def Account.increment (a : Account) (n : Nat) : Nat := (a.credit + n) / creditScale

/-- A credit of numerator n (R12): the whole units to both wears, the remainder to F. -/
def Account.addCredit (a : Account) (n : Nat) : Account :=
  { a with
    credit := (a.credit + n) % creditScale
    wear := addTo a.wear (a.increment n)
    ssWear := addTo a.ssWear (a.increment n)
    saturated := a.saturated || lost a.wear (a.increment n) || lost a.ssWear (a.increment n) }

/-- n events to both event counts (R14). -/
def Account.addEvents (a : Account) (n : Nat) : Account :=
  { a with
    events := addToOpt a.events n
    ssEvents := addToOpt a.ssEvents n
    saturated := a.saturated || lostOpt a.events n || lostOpt a.ssEvents n }

/-- The numerator of one event credit (R12, R80); 0 where the account has no event weight. -/
def Account.eventNumerator (a : Account) (multiplier : Nat) : Nat :=
  match a.eventWeight with
  | some w => w * multiplier * eventScale
  | none => 0

/-- Cold starts +1 (R15). -/
def Account.addColdStart (a : Account) : Account :=
  { a with coldStarts := addToOpt a.coldStarts 1, saturated := a.saturated || lostOpt a.coldStarts 1 }

/-- Runs without crank +1 (R15). -/
def Account.addRunWithoutCrank (a : Account) : Account :=
  { a with runsWithoutCrank := addToOpt a.runsWithoutCrank 1, saturated := a.saturated || lostOpt a.runsWithoutCrank 1 }

/-- Engaged-while-running +1 (R15). -/
def Account.addEngagedWhileRunning (a : Account) : Account :=
  { a with
    engagedWhileRunning := addToOpt a.engagedWhileRunning 1
    saturated := a.saturated || lostOpt a.engagedWhileRunning 1 }

/-- Output speed v into the revolution remainder, whole revolutions into the count (R79). -/
def Account.addRevolutions (a : Account) (v : Nat) : Account :=
  match a.revRemainder with
  | none => a
  | some r =>
    { a with
      revRemainder := some ((r + v) % revolutionScale)
      revolutions := addToOpt a.revolutions ((r + v) / revolutionScale)
      saturated := a.saturated || lostOpt a.revolutions ((r + v) / revolutionScale) }

/-- An optional counter holds the maximum. -/
def atMax (c : Option Nat) : Bool := c == some counterMax

/-- Some full-width counter holds 4,294,967,295 (R21, step 4). -/
def Account.anyAtMax (a : Account) : Bool :=
  a.activeTime == counterMax || atMax a.events || a.wear == counterMax || a.unobserved == counterMax ||
    a.bins.toList.any (· == counterMax) || atMax a.coldStarts || atMax a.runsWithoutCrank ||
    atMax a.engagedWhileRunning || atMax a.revolutions || a.ssActiveTime == counterMax || atMax a.ssEvents ||
    a.ssWear == counterMax

/-- SERVICE_DUE (R16). -/
def Account.serviceDueNow (a : Account) : Bool := a.serviceThreshold != 0 && decide (a.serviceThreshold ≤ a.ssWear)

/-- LIFE_LIMIT (R16). -/
def Account.lifeLimitNow (a : Account) : Bool := a.lifeThreshold != 0 && decide (a.lifeThreshold ≤ a.ssWear)

/-! ## Restore (R18, R21) -/

/-- The restorable fields of account i (R18). -/
def restorable (i : AccountIx) (field : Nat) : Bool :=
  if field = 0 || field = 16 then i != 4
  else if field = 11 then i == 4
  else if field = 12 || field = 13 then i == 0
  else if field = 14 then i == 1
  else field ≤ 18

/-- A service count value above 255 is clamped to 255 (R18). -/
def restoreValue (field value : Nat) : Nat := if field = 18 then min value 255 else value

/-- The buffered value plus the field's working value, saturating (R21, step 1). -/
def Account.restoreField (a : Account) (field v : Nat) : Account :=
  match field with
  | 0 => { a with events := addToOpt a.events v }
  | 1 => { a with wear := addTo a.wear v }
  | 2 => { a with unobserved := addTo a.unobserved v }
  | 11 => { a with revolutions := addToOpt a.revolutions v }
  | 12 => { a with coldStarts := addToOpt a.coldStarts v }
  | 13 => { a with runsWithoutCrank := addToOpt a.runsWithoutCrank v }
  | 14 => { a with engagedWhileRunning := addToOpt a.engagedWhileRunning v }
  | 15 => { a with ssActiveTime := addTo a.ssActiveTime v }
  | 16 => { a with ssEvents := addToOpt a.ssEvents v }
  | 17 => { a with ssWear := addTo a.ssWear v }
  | 18 => { a with serviceCount := min (a.serviceCount + v) 255 }
  | n =>
    if h : 3 ≤ n ∧ n ≤ 10 then
      let b : Fin 8 := ⟨n - 3, by omega⟩
      { a with bins := a.bins.set b (addTo a.bins[b] v) }
    else a

/-- The smaller of two optional counts (both present or both absent). -/
def minOpt (x y : Option Nat) : Option Nat :=
  match x, y with
  | some a, some b => some (min a b)
  | x, _ => x

/-- Steps 1 to 4 of R21 on the working copy. -/
def Account.restored (a : Account) (fields : List (Nat × Nat)) : Account :=
  let a1 := fields.foldl (fun x fv => x.restoreField fv.1 fv.2) a
  let a2 := { a1 with activeTime := min a1.bins.toList.sum counterMax }
  let a3 :=
    { a2 with
      ssActiveTime := min a2.ssActiveTime a2.activeTime
      ssEvents := minOpt a2.ssEvents a2.events
      ssWear := min a2.ssWear a2.wear }
  { a3 with state := .normal, saturated := a3.anyAtMax }

/-- A service reset of the working copy (R17, steps 1 to 4). -/
def Account.serviced (a : Account) (now : Nat) : Account :=
  { a with
    ssActiveTime := 0
    ssEvents := a.ssEvents.map fun _ => 0
    ssWear := 0
    credit := 0
    serviceCount := min (a.serviceCount + 1) 255
    lastService := some now }

/-! ## Oil classes and multipliers (R73, R81, R82) -/

/-- The multiplier, in eighths, of an oil temperature (R73); 8 when UNKNOWN. -/
def oilMultiplier (s : Settings) (l : OilLimits) (t : Option Int) : Nat :=
  match t with
  | none => 8
  | some v =>
    if v < l.cold then s.coldMultiplier
    else if v < l.hot then 8
    else if v < l.critical then s.hotMultiplier
    else s.criticalMultiplier

/-- The period multiplier of an account (R73). -/
def periodMultiplier (s : Settings) (x : Intake) (i : AccountIx) : Nat :=
  match i with
  | 0 => oilMultiplier s s.engineOil x.engineOil.known
  | 2 | 3 => oilMultiplier s s.transmissionOil x.transmissionOil.known
  | 1 | 4 => 8

/-- The multiplier of a cold or an ordinary start or crank (R81). -/
def startMultiplier (s : Settings) (cold : Bool) : Nat := if cold then s.coldStartMultiplier else 8

/-- A known temperature below the cold-start limit (R81). -/
def isCold (s : Settings) (t : Option Int) : Bool :=
  match t with
  | some v => decide (v < s.coldStartLimit)
  | none => false

/-! ## Crank active and activity (R66, R67, R87) -/

/-- Crank active: TRUE, FALSE, or none for UNDETERMINED (R87). -/
def crankActive (mode : CrankMode) (line : Bool) (starter : Option StarterStatus) : Option Bool :=
  match mode with
  | .level => some (line || starter == some .engaged)
  | .off | .edge => starter.map fun v => v == .engaged

/-- The activity of an account: true, false, or none for undeterminable (R66). -/
def activity (s : Settings) (line : Bool) (x : Intake) (i : AccountIx) : Option Bool :=
  match i with
  | 0 => x.engineSpeed.known.map fun v => decide ((s.runThreshold : Int) ≤ v)
  | 1 => crankActive s.crankMode line x.starterStatus.known
  | 2 => x.clutchState.known.map fun v => v == .slipping
  | 3 =>
    match x.gear.known, x.outputSpeed.known with
    | some g, some v => some (g != 0 && decide (0 < v))
    | some g, none => if g = 0 then some false else none
    | none, some v => if v = 0 then some false else none
    | none, none => none
  | 4 => x.outputSpeed.known.map fun v => decide (0 < v)

/-- The signal group code of an account (R69). -/
def groupCode (i : AccountIx) : Nat :=
  match i with
  | 0 | 1 => 0
  | 2 | 3 | 4 => 1

/-! ## Band matching and selection (R49, R50) -/

/-- A condition holds on a known value within its bounds (R49). -/
def Condition.holds (c : Condition) (x : Intake) : Bool :=
  match x.metric c.metric with
  | some v => decide (c.low ≤ v) && decide (v ≤ c.high)
  | none => false

/-- An enabled entry of the account, primary and any secondary holding, matches (R49, R50). -/
def BandEntry.hits (e : BandEntry) (x : Intake) (i : AccountIx) : Bool :=
  e.weightPart.enabled && e.weightPart.account == i && e.primary.holds x &&
    (match e.secondary with
      | some c => c.holds x
      | none => true)

/-- The winning entry: the lowest matching EXCURSION entry, else the lowest matching ORDINARY entry (R50). -/
def winner (es : Vector BandEntry 16) (x : Intake) (i : AccountIx) : Option (Fin 16) :=
  match (List.finRange 16).find? (fun k => es[k].hits x i && es[k].weightPart.cls == .excursion) with
  | some k => some k
  | none => (List.finRange 16).find? (fun k => es[k].hits x i && es[k].weightPart.cls == .ordinary)

/-- The staged parts made active (R55). -/
def BandEntry.activated (e : BandEntry) : BandEntry :=
  { e with
    primary := e.stagedPrimary.getD e.primary
    secondary := e.stagedSecondary.getD e.secondary
    weightPart := e.stagedWeight.getD e.weightPart
    stagedPrimary := none
    stagedSecondary := none
    stagedWeight := none }

/-- Some part is staged. -/
def BandEntry.hasStaged (e : BandEntry) : Bool :=
  e.stagedPrimary.isSome || e.stagedSecondary.isSome || e.stagedWeight.isSome

/-! ## Tracked quantities of a segment (R113, R114, R119) -/

/-- A function of two values on every tracked quantity. -/
def Tracked.combine (f : Nat → Nat → Nat) (x y : Tracked) : Tracked :=
  let fig (a b : Figures) : Figures :=
    { active := f a.active b.active
      events :=
        match a.events, b.events with
        | some u, some v => some (f u v)
        | _, _ => none
      wear := f a.wear b.wear }
  { figures := #v[fig x.figures[0] y.figures[0], fig x.figures[1] y.figures[1], fig x.figures[2] y.figures[2],
      fig x.figures[3] y.figures[3], fig x.figures[4] y.figures[4]]
    coldStarts := f x.coldStarts y.coldStarts
    revolutions := f x.revolutions y.revolutions
    unobserved := f x.unobserved y.unobserved }

/-- The figures of one account copy. -/
def Account.figures (a : Account) : Figures := { active := a.activeTime, events := a.events, wear := a.wear }

/-- The current value of every tracked quantity (R114). -/
def Tracked.current (t : Vector Account 5) : Tracked :=
  { figures := #v[t[0].figures, t[1].figures, t[2].figures, t[3].figures, t[4].figures]
    coldStarts := t[0].coldStarts.getD 0
    revolutions := t[4].revolutions.getD 0
    unobserved :=
      min (t[0].unobserved + t[1].unobserved + t[2].unobserved + t[3].unobserved + t[4].unobserved) counterMax }

/-- Some current value is saturated (R114): a saturated current value is 4,294,967,295. -/
def Tracked.anyAtMax (x : Tracked) : Bool :=
  x.figures.toList.any (fun f => f.active == counterMax || atMax f.events || f.wear == counterMax) ||
    x.coldStarts == counterMax || x.revolutions == counterMax || x.unobserved == counterMax

/-- The deltas: current value minus snapshot, quantity by quantity (R119). A saturated current value is the maximum, so
both rows of R119 are this difference. -/
def Tracked.deltas (current snapshot : Tracked) : Tracked := Tracked.combine (· - ·) current snapshot

/-- Each snapshot value above its current value is lowered to it (R131). -/
def Tracked.lowered (snapshot current : Tracked) : Tracked := Tracked.combine min snapshot current

/-- The snapshot raised by the increase of a restore (R121). -/
def Tracked.raised (snapshot increase : Tracked) : Tracked := Tracked.combine addTo snapshot increase

/-- The flags of a segment as a byte (R196). -/
def SegmentFlags.byte (f : SegmentFlags) : Byte :=
  byteOf (f.powerGap.toNat + 2 * f.timebaseDegraded.toNat + 4 * f.unobserved.toNat + 8 * f.saturated.toNat +
    16 * f.restored.toNat + 32 * f.serviced.toNat + 64 * f.warmReset.toNat)

end Sys2Proof.Machine
end

