-- ==== Sys2Proof/Machine/Alerts.lean ====
section
/-! DEFINITION. The Alert Unit (chapter 7): pairs, the alert set and its lifecycles, notices, counts and ALRT. -/

namespace Sys2Proof.Machine

/-! ## Pairs (R133) -/

/-- The code of a source (R133). -/
def Source.code : Source → Nat
  | .account i => i.val
  | .device => 5

/-- The source of a code; none above 5. -/
def sourceOfCode (n : Nat) : Option Source :=
  if h : n < 5 then some (.account ⟨n, h⟩) else if n = 5 then some .device else none

/-- The causes in cause priority order (R133). -/
def causes : List Cause :=
  [.lifeLimit, .recordSuspect, .storeOffline, .serviceDue, .excursion, .unobserved, .startFailures, .timebase,
    .powerGap, .storeFault, .logNearFull]

/-- The sources in the order of their codes. -/
def sources : List Source :=
  [.account 0, .account 1, .account 2, .account 3, .account 4, .device]

/-- The code of a cause (R133). -/
def Cause.code : Cause → Nat
  | .lifeLimit => 0
  | .recordSuspect => 1
  | .storeOffline => 2
  | .serviceDue => 3
  | .excursion => 4
  | .unobserved => 5
  | .startFailures => 6
  | .timebase => 7
  | .powerGap => 8
  | .storeFault => 9
  | .logNearFull => 10

/-- The cause of a code; none above 10. -/
def causeOfCode (n : Nat) : Option Cause := causes.find? fun c => c.code == n

/-- Condition causes; the others are events (R133). -/
def Cause.isCondition : Cause → Bool
  | .lifeLimit | .recordSuspect | .storeOffline | .serviceDue | .unobserved | .timebase | .logNearFull => true
  | .excursion | .startFailures | .powerGap | .storeFault => false

/-- Critical causes; the others are of notice level (R133). -/
def Cause.isCritical : Cause → Bool
  | .lifeLimit | .recordSuspect | .storeOffline => true
  | .serviceDue | .excursion | .unobserved | .startFailures | .timebase | .powerGap | .storeFault | .logNearFull => false

/-- The valid pairs (R133). -/
def AlertPair.valid (p : AlertPair) : Bool :=
  match p.cause, p.source with
  | .recordSuspect, _ => true
  | .lifeLimit, .account _ | .serviceDue, .account _ | .excursion, .account _ | .unobserved, .account _ => true
  | .startFailures, .account i => i == 1
  | .storeOffline, .device | .timebase, .device | .powerGap, .device | .storeFault, .device
  | .logNearFull, .device => true
  | _, _ => false

/-- The 32 valid pairs by cause priority, then by source (R133, R147). -/
def allPairs : List AlertPair :=
  (causes.flatMap fun c => sources.map fun s => { source := s, cause := c }).filter AlertPair.valid

/-- A pair of DEVICE. -/
def devicePair (c : Cause) : AlertPair := { source := .device, cause := c }

/-- A pair of an account. -/
def accountPair (i : AccountIx) (c : Cause) : AlertPair := { source := .account i, cause := c }

/-! ## The alert set (R134 to R140) -/

/-- The entry of a pair, if one stands. -/
def AlertUnit.entry (u : AlertUnit) (p : AlertPair) : Option AlertEntry := u.entries.find? fun e => e.pair == p

/-- The held value of a condition pair (R135). -/
def AlertUnit.holds (u : AlertUnit) (p : AlertPair) : Bool := u.heldTrue.contains p

/-- A new entry (R136, R139): PENDING, repeat count 1. -/
def AlertEntry.created (p : AlertPair) (param : Option Byte) (now : Nat) : AlertEntry :=
  { pair := p, state := .pending, parameter := param, firstRaised := now, latest := now, repeats := 1 }

/-- A repeat (R136, R138, R139): repeat count +1 up to 255, parameter and latest time from the raise, PENDING. -/
def AlertEntry.repeated (e : AlertEntry) (param : Option Byte) (now : Nat) : AlertEntry :=
  { e with state := .pending, parameter := param, latest := now, repeats := min (e.repeats + 1) 255 }

/-- Raise a pair (R136, R139): an entry is created, or the one that stands is repeated. The second part is the entry
created, for which a notice is offered. -/
def AlertUnit.raise (u : AlertUnit) (p : AlertPair) (param : Option Byte) (now : Nat) :
    AlertUnit × Option AlertEntry :=
  match u.entry p with
  | none =>
    ({ u with entries := u.entries ++ [AlertEntry.created p param now] }, some (AlertEntry.created p param now))
  | some _ =>
    ({ u with entries := u.entries.map fun e => if e.pair == p then e.repeated param now else e }, none)

/-- A report of a condition as true (R136); a report that repeats the held value changes nothing (R135). -/
def AlertUnit.reportTrue (u : AlertUnit) (p : AlertPair) (param : Option Byte) (now : Nat) :
    AlertUnit × Option AlertEntry :=
  if u.holds p then (u, none) else { u with heldTrue := u.heldTrue ++ [p] }.raise p param now

/-- A report of a condition as false (R137): an ACKNOWLEDGED entry goes, a PENDING one stays. -/
def AlertUnit.reportFalse (u : AlertUnit) (p : AlertPair) : AlertUnit :=
  if u.holds p then
    { u with
      heldTrue := u.heldTrue.filter fun q => q != p
      entries := u.entries.filter fun e => !(e.pair == p && e.state == .acknowledged) }
  else u

/-- A record other than an account record reported suspect (R135, R138). -/
def AlertUnit.recordSuspect (u : AlertUnit) (r : RecordId) (param : Byte) (now : Nat) : AlertUnit × Option AlertEntry :=
  if u.suspects.contains r then (u, none)
  else if u.suspects.isEmpty then
    { u with suspects := [r] }.reportTrue (devicePair .recordSuspect) (some param) now
  else { u with suspects := u.suspects ++ [r] }.raise (devicePair .recordSuspect) (some param) now

/-- A record reported good again (R135): when the list becomes empty the condition becomes false. -/
def AlertUnit.recordGood (u : AlertUnit) (r : RecordId) : AlertUnit :=
  if u.suspects.contains r then
    let left := u.suspects.filter fun q => q != r
    if left.isEmpty then { u with suspects := [] }.reportFalse (devicePair .recordSuspect)
    else { u with suspects := left }
  else u

/-- The entry of a pair made ACKNOWLEDGED. -/
def AlertUnit.setAcknowledged (u : AlertUnit) (p : AlertPair) : AlertUnit :=
  { u with entries := u.entries.map fun e => if e.pair == p then { e with state := .acknowledged } else e }

/-- The entry of a pair removed. -/
def AlertUnit.remove (u : AlertUnit) (p : AlertPair) : AlertUnit :=
  { u with entries := u.entries.filter fun e => e.pair != p }

/-- An acknowledgement of a pair that has an entry (R140). -/
def AlertUnit.acknowledge (u : AlertUnit) (p : AlertPair) (e : AlertEntry) : AlertUnit :=
  match e.state with
  | .acknowledged => u
  | .pending => if p.cause.isCondition && u.holds p then u.setAcknowledged p else u.remove p

/-- PENDING entries of critical level (R143). -/
def AlertUnit.pendingCritical (u : AlertUnit) : Nat :=
  u.entries.countP fun e => e.state == .pending && e.pair.cause.isCritical

/-- PENDING entries of notice level (R143). -/
def AlertUnit.pendingNotice (u : AlertUnit) : Nat :=
  u.entries.countP fun e => e.state == .pending && !e.pair.cause.isCritical

/-- The entries by cause priority, then by source (R147). -/
def AlertUnit.byPriority (u : AlertUnit) : List AlertEntry := allPairs.filterMap u.entry

/-- The set in read order (R147). -/
def AlertUnit.readOrder (u : AlertUnit) : List AlertEntry :=
  (u.byPriority.filter fun e => e.state == .pending && e.pair.cause.isCritical) ++
    (u.byPriority.filter fun e => e.state == .pending && !e.pair.cause.isCritical) ++
    u.byPriority.filter fun e => e.state == .acknowledged

/-- ALRT is asserted exactly when a critical entry is PENDING (R144). -/
def State.alrt (s : State) : Bool := s.alerts.pendingCritical != 0

/-! ## Notices (R145, R146) -/

/-- A free place in the transmit queue (R172). -/
def Port.hasRoom (p : Port) : Bool := p.tx.length < txPlaces

/-- A frame joins the transmit queue at its newest end (R172). -/
def Port.push (p : Port) (f : Frame) : Port := { p with tx := p.tx ++ [f] }

/-- The notice frame of an entry at its creation (R146). -/
def noticeFrame (straps : Straps) (critical : Nat) (e : AlertEntry) : Frame :=
  { id := noticeId straps
    data := [byteOf e.pair.source.code, byteOf e.pair.cause.code, e.parameter.getD 0xFF#8] ++ bytes32 e.firstRaised ++
      [byteOf critical]
    startsReset := false }

/-- A notice is taken with room in the queue, the port RUNNING and the mode ACTIVE, else dropped (R145). -/
def State.takesNotice (s : State) : Bool :=
  s.port.hasRoom && s.port.state == .running && s.time.mode == .active

/-- The Alert Unit's answer to a report or raise: the new set, and a notice offered for an entry created (R145). -/
def State.withAlerts (s : State) (r : AlertUnit × Option AlertEntry) : State :=
  { s with
    alerts := r.1
    port :=
      match r.2 with
      | some e => if s.takesNotice then s.port.push (noticeFrame s.time.straps r.1.pendingCritical e) else s.port
      | none => s.port }

/-- Report a condition true or false (R136, R137). -/
def State.report (s : State) (p : AlertPair) (value : Bool) (param : Option Byte) : State :=
  s.withAlerts
    (if value then s.alerts.reportTrue p param s.time.deviceTime else (s.alerts.reportFalse p, none))

/-- Raise an event (R139). -/
def State.raiseEvent (s : State) (p : AlertPair) (param : Option Byte) : State :=
  s.withAlerts (s.alerts.raise p param s.time.deviceTime)

end Sys2Proof.Machine
end

