-- ==== Sys2Proof/Machine/Ops.lean ====
section
/-! DEFINITION. The operations over the records and the account copies that every block shares: record ids, marking, handing
and bulk enqueue (R151, R155), the begin of a write (R156), credits, events and thresholds of the accounts (R12 to R16),
segment flags (R126), and the answers of the Request Engine (R170 to R172). -/

namespace Sys2Proof.Machine

/-! ## Record ids (R150) -/

/-- The number of a record (R150). -/
def RecordId.number : RecordId → Nat
  | .account i => i.val
  | .settings => 5
  | .band i => 16 + i.val
  | .slot i => 32 + i.val

/-- The place of a record in the tables of the store: the 46 ids in id order. -/
def RecordId.index : RecordId → Fin 46
  | .account i => ⟨i.val, by omega⟩
  | .settings => 5
  | .band i => ⟨6 + i.val, by omega⟩
  | .slot i => ⟨22 + i.val, by omega⟩

/-- The five account records. -/
def accountRecords : List RecordId := (List.finRange 5).map .account

/-- Every record in record id order (R150). -/
def allRecords : List RecordId :=
  accountRecords ++ [.settings] ++ (List.finRange 16).map .band ++ (List.finRange 24).map .slot

/-- The changed mark of a record (R151). -/
def Store.isChanged (st : Store) (r : RecordId) : Bool := st.changed[r.index]

/-- The write in flight is of this record and began after its latest change (R151). -/
def Store.inFlightCovers (st : Store) (r : RecordId) : Bool :=
  match st.inFlight with
  | some w => w.record == r && !w.dirty
  | none => false

/-- A record is covered while it is queued or its write in flight carries its latest change (R151). -/
def Store.covered (st : Store) (r : RecordId) : Bool := st.queue.contains r || st.inFlightCovers r

/-- Marking: the changed mark is set, and a write of the record in flight no longer carries its content (R151). -/
def Store.mark (st : Store) (r : RecordId) : Store :=
  { st with
    changed := st.changed.set r.index true
    inFlight := st.inFlight.map fun w => { w with dirty := w.dirty || w.record == r } }

/-- The record joins the queue at its newest end unless it is covered (R155). -/
def Store.append (st : Store) (r : RecordId) : Store :=
  if st.covered r then st else { st with queue := st.queue ++ [r] }

/-- Marking a record (R151). -/
def State.markRecord (s : State) (r : RecordId) : State := { s with store := s.store.mark r }

/-! ## The begin of a write (R156) -/

/-- Working copy of account i. -/
def State.account (s : State) (i : AccountIx) : Account := s.accounts.accounts[i]

/-- The working copy replaced, with no mark. -/
def State.setAccount (s : State) (i : AccountIx) (a : Account) : State :=
  { s with accounts := { s.accounts with accounts := s.accounts.accounts.set i a } }

/-- The segment a slot holds, if any (R111). -/
def SegmentLog.inSlot (l : SegmentLog) (i : Fin 24) : Option Segment :=
  (l.entries.find? fun e => e.slot == i).map LogEntry.seg

/-- The image of a record from its owner's working state as it stands (R156). -/
def State.compose (s : State) (r : RecordId) : RecordContent :=
  match r with
  | .account i => .account i (s.account i)
  | .settings => .settings s.settings
  | .band i => .band i s.bands.entries[i]
  | .slot i => .slot i (s.log.inSlot i)

/-- Last write time is set in the working copy at the begin of the account's write; it is no change (R9, R156). -/
def State.stampLastWrite (s : State) (r : RecordId) : State :=
  match r with
  | .account i => s.setAccount i { s.account i with lastWrite := some s.time.deviceTime }
  | .settings | .band _ | .slot _ => s

/-- The waits of a slot changed. -/
def ClientSlot.mapWaits (f : List Wait → List Wait) (c : ClientSlot) : ClientSlot :=
  match c.inFlight with
  | some q =>
    match q.phase with
    | .waiting ws payload => { c with inFlight := some { q with phase := .waiting (f ws) payload } }
    | .held _ => c
  | none => c

/-- Every slot changed. -/
def RequestEngine.mapSlots (f : ClientSlot → ClientSlot) (e : RequestEngine) : RequestEngine :=
  { e with slots := #v[f e.slots[0], f e.slots[1], f e.slots[2], f e.slots[3]] }

/-- Every response that waits for a write of r to begin now waits for the write that begins (R157). -/
def beginWaits (r : RecordId) (ws : List Wait) : List Wait :=
  ws.map fun w => if w.record == r then { w with begun := true } else w

/-- The begin of a write of r (R156). -/
def State.startWrite (s : State) (r : RecordId) : State :=
  let s1 := s.stampLastWrite r
  { s1 with
    store := { s1.store with inFlight := some { record := r, image := s1.compose r, dirty := false } }
    engine := s1.engine.mapSlots (ClientSlot.mapWaits (beginWaits r)) }

/-- The next write of the queue begins, or the store is READY with the queue empty (R156). -/
def State.nextWrite (s : State) : State :=
  match s.store.queue with
  | [] => { s with store := { s.store with state := .ready } }
  | r :: rest => State.startWrite { s with store := { s.store with state := .writing, queue := rest } } r

/-- A READY store begins the write of what was appended at once (R155). -/
def State.startIfReady (s : State) : State :=
  match s.store.state with
  | .ready => s.nextWrite
  | .loading _ | .writing | .flushing | .offline => s

/-- Handing a record (R151, R155): marked, and appended unless covered; FLUSHING and OFFLINE append nothing. -/
def State.hand (s : State) (r : RecordId) : State :=
  let s1 := s.markRecord r
  match s1.store.state with
  | .flushing | .offline => s1
  | .loading _ | .ready | .writing => State.startIfReady { s1 with store := s1.store.append r }

/-- The changed records not covered among rs (R155). -/
def Store.uncovered (st : Store) (rs : List RecordId) : List RecordId :=
  rs.filter fun r => st.isChanged r && !st.covered r

/-- A bulk enqueue of the changed records not covered among rs, in record id order (R155). -/
def State.bulkEnqueue (s : State) (rs : List RecordId) : State :=
  State.startIfReady { s with store := { s.store with queue := s.store.queue ++ s.store.uncovered rs } }

/-- Write pending, as reported to the Mode Controller (R152). -/
def Store.writePending (st : Store) : Bool :=
  match st.state with
  | .loading _ | .writing | .flushing => true
  | .ready | .offline => !st.queue.isEmpty

/-! ## Accounts (R9, R12 to R16) -/

/-- A change of a working copy: the account is marked changed when a field changes (R9). -/
def State.changeAccount (s : State) (i : AccountIx) (f : Account → Account) : State :=
  if f (s.account i) = s.account i then s else (s.setAccount i (f (s.account i))).markRecord (.account i)

/-- SERVICE_DUE evaluated: a value other than the one kept is kept and reported (R16). -/
def State.evalServiceDue (s : State) (i : AccountIx) : State :=
  let now := (s.account i).serviceDueNow
  if now = s.accounts.serviceDue[i] then s
  else
    State.report { s with accounts := { s.accounts with serviceDue := s.accounts.serviceDue.set i now } }
      (accountPair i .serviceDue) now none

/-- LIFE_LIMIT evaluated: a value other than the one kept is kept and reported (R16). -/
def State.evalLifeLimit (s : State) (i : AccountIx) : State :=
  let now := (s.account i).lifeLimitNow
  if now = s.accounts.lifeLimit[i] then s
  else
    State.report { s with accounts := { s.accounts with lifeLimit := s.accounts.lifeLimit.set i now } }
      (accountPair i .lifeLimit) now none

/-- Both threshold conditions of an account evaluated, SERVICE_DUE first (R16; the order is DESIGN CHOICE, log 8). -/
def State.evalThresholds (s : State) (i : AccountIx) : State := (s.evalServiceDue i).evalLifeLimit i

/-- The thresholds evaluated after a credit that carried a whole unit into wear (R12). -/
def State.evalCarried (s : State) (i : AccountIx) (increment : Nat) : State :=
  if increment = 0 then s else s.evalThresholds i

/-- A credit of numerator n to an account; the thresholds are evaluated when it carries a whole unit (R12). -/
def State.credit (s : State) (i : AccountIx) (n : Nat) : State :=
  (s.changeAccount i fun a => a.addCredit n).evalCarried i ((s.account i).increment n)

/-- n successive credits of one numerator (R14). -/
def State.credits (s : State) (i : AccountIx) (numerator : Nat) : Nat → State
  | 0 => s
  | k + 1 => (s.credit i numerator).credits i numerator k

/-- A posting of n events with one multiplier (R14). -/
def State.postEvents (s : State) (i : AccountIx) (n multiplier : Nat) : State :=
  let s1 := s.changeAccount i fun a => a.addEvents n
  s1.credits i ((s.account i).eventNumerator multiplier) n

/-! ## The OPEN segment and its flags (R111, R126) -/

/-- The OPEN segment with its slot; the log holds at most one (R111). -/
def SegmentLog.openEntry (l : SegmentLog) : Option LogEntry := l.entries.find? fun e => e.seg.state == .opened

/-- The segment of a slot changed. -/
def SegmentLog.modify (l : SegmentLog) (slot : Fin 24) (f : Segment → Segment) : SegmentLog :=
  { l with entries := l.entries.map fun e => if e.slot == slot then { e with seg := f e.seg } else e }

/-- A flag set on the OPEN segment, if there is one: a flag that was clear marks the slot record (R126). -/
def State.flagOpen (s : State) (f : SegmentFlags → SegmentFlags) : State :=
  match s.log.openEntry with
  | none => s
  | some e =>
    if f e.seg.flags = e.seg.flags then s
    else
      State.markRecord { s with log := s.log.modify e.slot fun g => { g with flags := f g.flags } } (.slot e.slot)

/-- The number of CLOSED segments (R127). -/
def SegmentLog.closedCount (l : SegmentLog) : Nat := l.entries.countP fun e => e.seg.state == .closed

/-- LOG_NEAR_FULL evaluated: a changed value is kept and reported with the CLOSED count (R127). -/
def State.evalNearFull (s : State) : State :=
  let now := decide (nearFullCount ≤ s.log.closedCount)
  if now = s.log.nearFull then s
  else
    State.report { s with log := { s.log with nearFull := now } } (devicePair .logNearFull) now
      (some (byteOf s.log.closedCount))

/-- A record other than an account record reported suspect (R135). -/
def State.reportSuspect (s : State) (r : RecordId) : State :=
  s.withAlerts (s.alerts.recordSuspect r (byteOf r.number) s.time.deviceTime)

/-- A record other than an account record reported good again (R135). -/
def State.reportGood (s : State) (r : RecordId) : State := s.withAlerts (s.alerts.recordGood r, none)

/-! ## Answers of the Request Engine (R170 to R172) -/

/-- Outcomes of a request (R195). -/
inductive ReqOutcome
  | ok | busy | denied | notAtRest | locked | stateRefused | logFull | empty | ended | badRequest | volatileDone
  deriving DecidableEq, Repr

/-- The outcome codes (R195). -/
def ReqOutcome.code : ReqOutcome → Nat
  | .ok => 0
  | .busy => 1
  | .denied => 2
  | .notAtRest => 3
  | .locked => 4
  | .stateRefused => 5
  | .logFull => 6
  | .empty => 7
  | .ended => 8
  | .badRequest => 9
  | .volatileDone => 10

/-- A response frame (R195). -/
def responseFrame (straps : Straps) (slot : SlotIx) (kind : Byte) (o : ReqOutcome) (payload : List Byte)
    (startsReset : Bool) : Frame :=
  { id := responseId straps slot, data := kind :: byteOf o.code :: payload, startsReset := startsReset }

/-- What a slot has in flight, changed. -/
def State.setInFlight (s : State) (slot : SlotIx) (q : Option InFlight) : State :=
  { s with engine := { s.engine with slots := s.engine.slots.set slot { s.engine.slots[slot] with inFlight := q } } }

/-- A composed response offered to the transmit queue (R170, R172): it enters and the slot becomes IDLE, or the slot is
HELD with it. -/
def State.offer (s : State) (slot : SlotIx) (kind : Byte) (ops : List Byte) (f : Frame) : State :=
  if s.port.hasRoom then State.setInFlight { s with port := s.port.push f } slot none
  else s.setInFlight slot (some { kind := kind, ops := ops, phase := .held f })

/-- A WAITING response of a slot released with an outcome (R157, R160, R170). -/
def State.releaseSlot (s : State) (slot : SlotIx) (o : ReqOutcome) : State :=
  match s.engine.slots[slot].inFlight with
  | some q =>
    match q.phase with
    | .waiting _ payload => s.offer slot q.kind q.ops (responseFrame s.time.straps slot q.kind o payload false)
    | .held _ => s
  | none => s

/-- The response of a slot waits for nothing more. -/
def ClientSlot.satisfied (c : ClientSlot) : Bool :=
  match c.inFlight with
  | some q =>
    match q.phase with
    | .waiting ws _ => ws.isEmpty
    | .held _ => false
  | none => false

/-- Every satisfied response released OK, in slot order (R157, R172). -/
def State.releaseSatisfied (s : State) : State :=
  ([0, 1, 2, 3] : List SlotIx).foldl (fun x i => if x.engine.slots[i].satisfied then x.releaseSlot i .ok else x) s

/-- Every waiting response released VOLATILE, in slot order (R160, R172). -/
def State.releaseVolatile (s : State) : State :=
  ([0, 1, 2, 3] : List SlotIx).foldl (fun x i => x.releaseSlot i .volatileDone) s

/-- A wait on a record from now on (R157): for the write in flight if that carries the record's latest change, else for one
that has still to begin. -/
def State.waitOn (s : State) (r : RecordId) : Wait := { record := r, begun := s.store.inFlightCovers r }

end Sys2Proof.Machine
end

