-- ==== Sys2Proof/Machine/Start.lean ====
section
/-! DEFINITION. The Start Qualifier (chapter 5): crank active and the latch, crank triggers, the attempt, outcomes, the start
history, stopping and resuming. -/

namespace Sys2Proof.Machine

/-- The Qualifier's state replaced. -/
def State.setQualifier (s : State) (q : QualifierState) : State := { s with qualifier := { s.qualifier with state := q } }

/-- Crank active from the line and the store as they stand (R87). -/
def State.crankActiveNow (s : State) : Option Bool :=
  crankActive s.settings.crankMode s.lines.crank s.intake.starterStatus.known

/-- Duration determined, set for an open attempt (R102). -/
def QualifierState.determined (q : QualifierState) : QualifierState :=
  match q with
  | .cranking a w => .cranking { a with determined := true } w
  | .confirming a c => .confirming { a with determined := true } c
  | .idle | .running _ => q

/-- Crank active re-formed with no trigger: a determinable value goes to the latch (R88) and determines an open attempt's
duration (R102). -/
def State.reformLatch (s : State) : State :=
  match s.crankActiveNow with
  | none => s
  | some v => { s with qualifier := { s.qualifier with latch := v, state := s.qualifier.state.determined } }

/-! ## Crank triggers (R93, R94, R100) -/

/-- The attempt a trigger opens (R93, steps 1 to 5). -/
def Attempt.opened (s : State) : Attempt :=
  { beginTime := s.time.deviceTime, oil := s.intake.engineOil.known, cold := isCold s.settings s.intake.engineOil.known,
    crankCount := 1, durationMs := 0, determined := s.crankActiveNow.isSome, sinceOpenMs := 0, timeToRun := none,
    window := s.settings.crankWindow, confirm := s.settings.confirmTime, threshold := s.settings.runThreshold }

/-- One STARTER event, cold or not (R14, R81). -/
def State.postStarter (s : State) (cold : Bool) : State := s.postEvents 1 1 (startMultiplier s.settings cold)

/-- A trigger in IDLE opens an attempt (R93). -/
def State.openAttempt (s : State) : State :=
  (s.postStarter (Attempt.opened s).cold).setQualifier
    (.cranking (Attempt.opened s) ((Attempt.opened s).window * 100))

/-- The crank count of a re-crank (R94). -/
def Attempt.recranked (a : Attempt) : Attempt := { a with crankCount := min (a.crankCount + 1) 255 }

/-- A trigger in RUNNING (R100). -/
def State.crankWhileRunning (s : State) : State :=
  (s.postStarter (isCold s.settings s.intake.engineOil.known)).changeAccount 1 Account.addEngagedWhileRunning

/-- A crank trigger by state (R93, R94, R100). -/
def State.crankTrigger (s : State) : State :=
  match s.qualifier.state with
  | .idle => s.openAttempt
  | .cranking a w => (s.postStarter a.cold).setQualifier (.cranking a.recranked w)
  | .confirming a c => (s.postStarter a.cold).setQualifier (.confirming a.recranked c)
  | .running _ => s.crankWhileRunning

/-- Crank active re-formed: in OFF and LEVEL modes the latch changing from FALSE to TRUE is a trigger (R89). -/
def State.reformCrank (s : State) : State :=
  let s1 := s.reformLatch
  if s.settings.crankMode != .edge && !s.qualifier.latch && s1.qualifier.latch then s1.crankTrigger else s1

/-- A change of the CRANK level (R87, R89): re-formed; in EDGE mode a rising edge is a trigger. -/
def State.crankLine (s : State) (asserted : Bool) : State :=
  let s1 := State.reformCrank { s with lines := { s.lines with crank := asserted } }
  if s.settings.crankMode == .edge && asserted then s1.crankTrigger else s1

/-! ## The end of an attempt (R103 to R105) -/

/-- A duration in ms as whole tenths, holding at 65,534 (R95, R102). -/
def tenths (ms : Nat) : Nat := min (ms / 100) 65534

/-- The history entry of an ended attempt (R105). -/
def Attempt.entry (a : Attempt) (o : AttemptOutcome) : HistoryEntry :=
  { beginTime := a.beginTime, outcome := o, cold := a.cold, oil := a.oil, crankCount := a.crankCount,
    duration := if a.determined then some (tenths a.durationMs) else none, timeToRun := a.timeToRun }

/-- An entry at the newest end of the ring; the oldest leaves a full ring (R105). -/
def pushRing (ring : List HistoryEntry) (e : HistoryEntry) : List HistoryEntry :=
  (ring ++ [e]).drop (ring.length + 1 - ringPlaces)

/-- The consecutive-failure count after an outcome (R104). -/
def failuresAfter (count : Nat) (o : AttemptOutcome) : Nat := if o = .qualified then 0 else min (count + 1) 255

/-- START_FAILURES is raised when a failure takes the count to the limit or above (R104). -/
def State.raiseFailures (s : State) (o : AttemptOutcome) : State :=
  if o != .qualified && s.settings.failureLimit ≤ s.qualifier.failures then
    s.raiseEvent (accountPair 1 .startFailures) (some (byteOf s.qualifier.failures))
  else s

/-- The end of attempt a with an outcome and the state the ending rule names (R103). -/
def State.endAttempt (s : State) (a : Attempt) (o : AttemptOutcome) (next : QualifierState) : State :=
  State.raiseFailures
    { s with
      qualifier :=
        { s.qualifier with
          state := next
          failures := failuresAfter s.qualifier.failures o
          ring := pushRing s.qualifier.ring (a.entry o) } } o

/-! ## Engine speed (R95, R97, R99, R101) -/

/-- A stop timer that is not running is started with the stop time as it stands (R101). -/
def State.startStop (s : State) (stop : Option Nat) : State :=
  s.setQualifier (.running (some (stop.getD (s.settings.stopTime * 100))))

/-- The comparison of engine speed at an update (R92). -/
def State.speedUpdate (s : State) : State :=
  match s.qualifier.state, s.intake.engineSpeed.known with
  | .idle, some v =>
    if (s.settings.runThreshold : Int) ≤ v then
      (s.changeAccount 0 Account.addRunWithoutCrank).setQualifier (.running none)
    else s
  | .idle, none => s
  | .cranking a _, some v =>
    if (a.threshold : Int) ≤ v then
      s.setQualifier (.confirming { a with timeToRun := some (tenths a.sinceOpenMs) } (a.confirm * 100))
    else s
  | .cranking _ _, none => s
  | .confirming a _, some v => if v < (a.threshold : Int) then s.endAttempt a .stalled .idle else s
  | .confirming _ _, none => s
  | .running stop, some v =>
    if (s.settings.runThreshold : Int) ≤ v then s.setQualifier (.running none) else s.startStop stop
  | .running stop, none => s.startStop stop

/-- Engine speed passes to UNKNOWN (R97, R101). -/
def State.speedLost (s : State) : State :=
  match s.qualifier.state with
  | .confirming a _ => s.endAttempt a .unverified .idle
  | .running stop => s.startStop stop
  | .idle | .cranking _ _ => s

/-! ## Timers (R96, R98, R101) -/

/-- Expiry of the crank window (R96). -/
def State.windowExpiry (s : State) : State :=
  match s.qualifier.state with
  | .cranking a _ =>
    s.endAttempt a (if s.intake.engineSpeed.known.isSome then .failed else .unverified) .idle
  | .idle | .confirming _ _ | .running _ => s

/-- The postings of a qualified start (R98, steps 1 and 2). -/
def State.postQualified (s : State) (a : Attempt) : State :=
  let s1 := s.postEvents 0 1 (startMultiplier s.settings a.cold)
  if a.cold then s1.changeAccount 0 Account.addColdStart else s1

/-- Expiry of the confirm timer (R98). -/
def State.confirmDone (s : State) : State :=
  match s.qualifier.state with
  | .confirming a _ =>
    if s.intake.engineSpeed.known.isSome then (s.postQualified a).endAttempt a .qualified (.running none)
    else s.endAttempt a .unverified .idle
  | .idle | .cranking _ _ | .running _ => s

/-- Expiry of the stop timer (R101). -/
def State.stopDone (s : State) : State :=
  match s.qualifier.state with
  | .running (some _) => s.setQualifier .idle
  | .idle | .cranking _ _ | .confirming _ _ | .running none => s

/-! ## Modes and resets (R107, R108) -/

/-- The open attempt ends UNVERIFIED, RUNNING becomes IDLE (R107). -/
def State.endForMode (s : State) : State :=
  match s.qualifier.state with
  | .cranking a _ | .confirming a _ => s.endAttempt a .unverified .idle
  | .running _ => s.setQualifier .idle
  | .idle => s

/-- The Qualifier stops at entry to PARKED and DORMANT; the latch then becomes FALSE (R107). -/
def State.stopQualifier (s : State) : State :=
  { s.endForMode with qualifier := { s.endForMode.qualifier with latch := false } }

/-- The Qualifier takes up its inputs after a reset with a good check (R108). -/
def State.resumeQualifier (s : State) : State :=
  let s1 := s.reformCrank
  match s1.qualifier.state with
  | .running stop => s1.startStop stop
  | .idle | .cranking _ _ | .confirming _ _ => s1

end Sys2Proof.Machine
end

