-- ==== Sys2Proof/Machine/Observe.lean ====
section
/-! DEFINITION. Signal Intake (chapter 2): age classes and what a passage to UNKNOWN hands on, the decoding of the three
observation formats, and the rolling counters. -/

namespace Sys2Proof.Machine

/-! ## Classes and ages (R31 to R33) -/

/-- The nine signals, then the DRIVELINE EVENT group. -/
def signalNames : List SignalName :=
  [.engineSpeed, .engineTorque, .engineOil, .starterStatus, .gear, .clutchState, .slipSpeed, .outputSpeed,
    .transmissionOil, .drivelineEvent]

/-- Class and age of a signal or of the group. -/
def Intake.ageing (x : Intake) : SignalName → Ageing
  | .engineSpeed => x.engineSpeed.ageing
  | .engineTorque => x.engineTorque.ageing
  | .engineOil => x.engineOil.ageing
  | .starterStatus => x.starterStatus.ageing
  | .gear => x.gear.ageing
  | .clutchState => x.clutchState.ageing
  | .slipSpeed => x.slipSpeed.ageing
  | .outputSpeed => x.outputSpeed.ageing
  | .transmissionOil => x.transmissionOil.ageing
  | .drivelineEvent => x.eventGroup

/-- Class and age of one signal replaced; its value stands. -/
def Intake.setAgeing (x : Intake) (g : Ageing) : SignalName → Intake
  | .engineSpeed => { x with engineSpeed := { x.engineSpeed with ageing := g } }
  | .engineTorque => { x with engineTorque := { x.engineTorque with ageing := g } }
  | .engineOil => { x with engineOil := { x.engineOil with ageing := g } }
  | .starterStatus => { x with starterStatus := { x.starterStatus with ageing := g } }
  | .gear => { x with gear := { x.gear with ageing := g } }
  | .clutchState => { x with clutchState := { x.clutchState with ageing := g } }
  | .slipSpeed => { x with slipSpeed := { x.slipSpeed with ageing := g } }
  | .outputSpeed => { x with outputSpeed := { x.outputSpeed with ageing := g } }
  | .transmissionOil => { x with transmissionOil := { x.transmissionOil with ageing := g } }
  | .drivelineEvent => { x with eventGroup := g }

/-- The new class and age of a signal stored. -/
def State.setAgeing (s : State) (n : SignalName) (g : Ageing) : State := { s with intake := s.intake.setAgeing g n }

/-- Both baselines become absent (R35). -/
def Intake.dropBaselines (x : Intake) : Intake := { x with shiftBaseline := none, engagementBaseline := none }

/-- What the passage of a signal to UNKNOWN is handed to (R33). -/
def State.handUnknown (s : State) (n : SignalName) : State :=
  match n with
  | .engineSpeed => s.speedLost
  | .starterStatus => s.reformCrank
  | .drivelineEvent => { s with intake := s.intake.dropBaselines }
  | .engineTorque | .engineOil | .gear | .clutchState | .slipSpeed | .outputSpeed | .transmissionOil => s

/-- A signal that is not UNKNOWN becomes UNKNOWN at an age, with the hand-on (R33). -/
def State.passUnknown (s : State) (n : SignalName) (age : Nat) : State :=
  match (s.intake.ageing n).cls with
  | .unknown => s
  | .fresh | .held => (s.setAgeing n { cls := .unknown, age := age }).handUnknown n

/-- A signal reclassified forward by its own age (R32). -/
def State.reclassify (s : State) (n : SignalName) : State :=
  let g := s.intake.ageing n
  if s.settings.holdLimit < g.age then s.passUnknown n g.age
  else if g.cls == .fresh && s.settings.freshLimit < g.age then s.setAgeing n { g with cls := .held }
  else s

/-- Every signal reclassified forward at new limits (R32). -/
def State.reclassifyAll (s : State) : State := signalNames.foldl State.reclassify s

/-- The age passes the fresh limit (R31). -/
def State.passHeld (s : State) (n : SignalName) : State :=
  match (s.intake.ageing n).cls with
  | .fresh => s.setAgeing n { cls := .held, age := max (s.intake.ageing n).age (s.settings.freshLimit + 1) }
  | .held | .unknown => s

/-- Every signal becomes UNKNOWN and both baselines absent, at entry to PARKED (R43). -/
def State.intakeParked (s : State) : State :=
  let s1 := signalNames.foldl (fun x n => x.passUnknown n (x.intake.ageing n).age) s
  { s1 with intake := s1.intake.dropBaselines }

/-! ## Decoding (R26 to R30, R193) -/

/-- An ENGINE STATE frame's fields into the store. -/
def Intake.takeEngine (x : Intake) (b0 b1 b2 b3 b4 : Byte) : Intake :=
  { x with
    engineSpeed := x.engineSpeed.refresh (speedField 8000 b0 b1)
    engineTorque := x.engineTorque.refresh (torqueField b2)
    engineOil := x.engineOil.refresh (oilField b3)
    starterStatus := x.starterStatus.refresh (starterField b4) }

/-- ENGINE STATE (R26, R30): stored as one event; with speed or starter status refreshed the Qualifier takes the update, a
trigger before the speed (R89). -/
def State.decodeEngine (s : State) (data : List Byte) : State :=
  match data with
  | b0 :: b1 :: b2 :: b3 :: b4 :: _ =>
    let s1 := { s with intake := s.intake.takeEngine b0 b1 b2 b3 b4 }
    if (speedField 8000 b0 b1).isSome || (starterField b4).isSome then s1.reformCrank.speedUpdate else s1
  | _ => s

/-- A DRIVELINE STATE frame's fields into the store. -/
def Intake.takeDriveline (x : Intake) (b0 b1 b2 b3 b4 b5 b6 : Byte) : Intake :=
  { x with
    gear := x.gear.refresh (gearField b0)
    clutchState := x.clutchState.refresh (clutchField b1)
    slipSpeed := x.slipSpeed.refresh (speedField 4000 b2 b3)
    outputSpeed := x.outputSpeed.refresh (speedField 6000 b4 b5)
    transmissionOil := x.transmissionOil.refresh (oilField b6) }

/-- DRIVELINE STATE (R26). -/
def State.decodeDriveline (s : State) (data : List Byte) : State :=
  match data with
  | b0 :: b1 :: b2 :: b3 :: b4 :: b5 :: b6 :: _ =>
    { s with intake := s.intake.takeDriveline b0 b1 b2 b3 b4 b5 b6 }
  | _ => s

/-- The events a rolling counter has advanced by: none with no baseline or a difference above 64 (R36). -/
def counted (baseline : Option Byte) (value : Byte) : Nat :=
  match baseline with
  | none => 0
  | some b => if (value - b).toNat ≤ 64 then (value - b).toNat else 0

/-- The events of one counter posted to its account, if there are any (R36, R37). -/
def State.postCounted (s : State) (i : AccountIx) (n : Nat) : State :=
  if n = 0 then s
  else s.postEvents i n (oilMultiplier s.settings s.settings.transmissionOil s.intake.transmissionOil.known)

/-- The group refreshed and both baselines at the frame's values (R36). -/
def Intake.takeEvent (x : Intake) (shift engagement : Byte) : Intake :=
  { x with
    eventGroup := { cls := .fresh, age := 0 }
    shiftBaseline := some shift
    engagementBaseline := some engagement }

/-- DRIVELINE EVENT (R26, R34, R36). GEARBOX is posted before CLUTCH (DESIGN CHOICE, log 26). -/
def State.decodeEvent (s : State) (data : List Byte) : State :=
  match data with
  | shift :: engagement :: _ =>
    (State.postCounted { s with intake := s.intake.takeEvent shift engagement } 3
        (counted s.intake.shiftBaseline shift)).postCounted 2
      (counted s.intake.engagementBaseline engagement)
  | _ => s

/-- A frame decoded in the format the filter table gives it. -/
def State.decode (s : State) (f : ObsFormat) (data : List Byte) : State :=
  match f with
  | .engineState => s.decodeEngine data
  | .drivelineState => s.decodeDriveline data
  | .drivelineEvent => s.decodeEvent data

end Sys2Proof.Machine
end

