-- ==== Sys2Proof/Machine/Metering.lean ====
section
/-! DEFINITION. The metering pass (chapter 4): activation of staged parts, the period outcome of each account, selection and
excursions, time, credit, revolutions. -/

namespace Sys2Proof.Machine

/-- Band entry k replaced, with no hand. -/
def State.setBand (s : State) (k : Fin 16) (e : BandEntry) : State :=
  { s with bands := { s.bands with entries := s.bands.entries.set k e } }

/-- The staged parts of entry k made active, and its record handed (R55, R56). -/
def State.activateBand (s : State) (k : Fin 16) : State :=
  if s.bands.entries[k].hasStaged then (s.setBand k s.bands.entries[k].activated).hand (.band k) else s

/-- Every staged part of every entry made active (R55), the band records handed in entry index order (DESIGN CHOICE, log
27). -/
def State.activateStaged (s : State) : State := (List.finRange 16).foldl State.activateBand s

/-- The unobserved-now flag of an account. -/
def State.setUnobservedNow (s : State) (i : AccountIx) (v : Bool) : State :=
  { s with meter := { s.meter with unobservedNow := s.meter.unobservedNow.set i v } }

/-- The flag cleared; if it was set, UNOBSERVED is reported false (R70). -/
def State.clearUnobserved (s : State) (i : AccountIx) : State :=
  if s.meter.unobservedNow[i] then (s.setUnobservedNow i false).report (accountPair i .unobserved) false none else s

/-- The flag set; if it was clear, UNOBSERVED is reported true with the group code (R69, step 3). -/
def State.noteUnobserved (s : State) (i : AccountIx) : State :=
  if s.meter.unobservedNow[i] then s
  else (s.setUnobservedNow i true).report (accountPair i .unobserved) true (some (byteOf (groupCode i)))

/-- An unobserved period: unobserved time and the credit of the fallback weight at ×8, UNOBSERVED, the segment flag (R69); a
threshold that the credit carried the account past is reported after UNOBSERVED, as steps 1 and 5 of R84 stand (log 7). -/
def State.unobservedPeriod (s : State) (i : AccountIx) : State :=
  let n := (s.account i).fallbackWeight * 8
  let s1 := s.changeAccount i fun a => a.addUnobserved.addCredit n
  let s2 := (s1.noteUnobserved i).flagOpen fun f => { f with unobserved := true }
  s2.evalCarried i ((s.account i).increment n)

/-- EXCURSION raised where the winner is an EXCURSION entry other than the last winning entry; the last winning entry
follows the selection (R72). -/
def State.noteWinner (s : State) (i : AccountIx) (w : Option (Fin 16)) : State :=
  let s1 : State := { s with meter := { s.meter with lastWinner := s.meter.lastWinner.set i w } }
  match w with
  | some k =>
    if s.bands.entries[k].weightPart.cls == .excursion && s.meter.lastWinner[i] != some k then
      s1.raiseEvent (accountPair i .excursion) (some (byteOf k.val))
    else s1
  | none => s1

/-- The bin of a selection (R50). -/
def selectedBin (es : Vector BandEntry 16) (w : Option (Fin 16)) : Fin 8 :=
  match w with
  | some k => es[k].weightPart.bin.castSucc
  | none => 7

/-- The weight of a selection: the winner's, or the base weight for the residual (R50). -/
def selectedWeight (es : Vector BandEntry 16) (base : Nat) (w : Option (Fin 16)) : Nat :=
  match w with
  | some k => es[k].weightPart.weight
  | none => base

/-- An active period: the flag, the selection, time and bin, the credit (R70 to R77). -/
def State.activePeriod (s : State) (i : AccountIx) : State :=
  let w := winner s.bands.entries s.intake i
  let s1 := (s.clearUnobserved i).noteWinner i w
  let s2 := s1.changeAccount i fun a => a.addActive (selectedBin s.bands.entries w)
  s2.credit i
    (selectedWeight s.bands.entries (s.account i).baseWeight w * periodMultiplier s.settings s.intake i)

/-- Steps 1 to 5 for one account (R64, R68). -/
def State.meterAccount (s : State) (i : AccountIx) : State :=
  match activity s.settings s.lines.crank s.intake i with
  | some true => s.activePeriod i
  | some false => s.clearUnobserved i
  | none => if s.lines.ign then s.unobservedPeriod i else s

/-- Step 6: revolutions of DRIVELINE while output speed is known (R79). -/
def State.revolutions (s : State) : State :=
  match s.intake.outputSpeed.known with
  | some v => s.changeAccount 4 fun a => a.addRevolutions v.toNat
  | none => s

/-- One metering pass (R64). -/
def State.meteringPass (s : State) : State :=
  (((((s.activateStaged.meterAccount 0).meterAccount 1).meterAccount 2).meterAccount 3).meterAccount 4).revolutions

/-- UNOBSERVED reported false for each account in index order (R65). -/
def State.reportObserved (s : State) : State :=
  (List.finRange 5).foldl (fun x i => x.report (accountPair i .unobserved) false none) s

/-- The Meter's entry to PARKED: timer stopped, flags cleared with their reports, no last winning entry (R62, R65). -/
def State.meterParked (s : State) : State :=
  let s1 := (List.finRange 5).foldl State.clearUnobserved s
  { s1 with meter := Meter.afterReset }

end Sys2Proof.Machine
end

