-- ==== Sys2Proof/Machine/Modes.lean ====
section
/-! DEFINITION. The Mode Controller (chapter 10): holds, entry to PARKED and DORMANT, wake, the crystal monitor, and when the
part runs and hears frames. -/

namespace Sys2Proof.Machine

/-- The store is LOADING (R152). -/
def Store.isLoading (st : Store) : Bool :=
  match st.state with
  | .loading _ => true
  | .ready | .writing | .flushing | .offline => false

/-- ACTIVE outside a reset: where timers, lines and the monitor have their effect (R185). -/
def State.isActive (s : State) : Bool := s.time.mode == .active && s.time.inReset.isNone

/-- ACTIVE outside a reset and a load: where Intake, Meter and Qualifier run (R62, R92, R154). -/
def State.isRunning (s : State) : Bool := s.isActive && !s.store.isLoading

/-- The port takes part in the bus: RUNNING, outside a reset, a load and DORMANT (R179, R180, R188). -/
def State.onBus (s : State) : Bool :=
  s.port.state == .running && s.time.inReset.isNone && !s.store.isLoading && s.time.mode != .dormant

/-- The part is held active (R185). -/
def State.heldActive (s : State) : Bool :=
  s.lines.ign || s.time.linger.isSome || s.store.writePending || s.engine.resetPending

/-- The linger restarted with its full length (R185). -/
def State.restartLinger (s : State) : State := { s with time := { s.time with linger := some lingerMs } }

/-- What a slot has in flight discarded; its read buffer is kept (R179, R180). -/
def ClientSlot.dropRequest (c : ClientSlot) : ClientSlot := { c with inFlight := none }

/-- The transmit queue emptied and every slot IDLE, buffers kept (R179, R180). -/
def State.dropRequests (s : State) : State :=
  { s with
    port := { s.port with tx := [] }
    engine := s.engine.mapSlots ClientSlot.dropRequest }

/-- Entry to PARKED (R186): the mode first, then Signal Intake, the Meter, the Qualifier and the Request Engine. -/
def State.enterParked (s : State) : State :=
  let s1 : State := { s with time := { s.time with mode := .parked } }
  s1.intakeParked.meterParked.stopQualifier.dropRequests

/-- Entry to DORMANT (R188): the mode first, then the Meter's timer, the Qualifier and a pending commanded reset. -/
def State.enterDormant (s : State) : State :=
  State.stopQualifier
    { s with
      time := { s.time with mode := .dormant, linger := none }
      meter := { s.meter with timer := none }
      engine := { s.engine with resetPending := false } }

/-- Some account record is changed and not covered (R186). -/
def Store.accountUncovered (st : Store) : Bool := accountRecords.any fun r => st.isChanged r && !st.covered r

/-- What the end of the last hold does, in ACTIVE with no hold standing (R186). -/
def State.parkCheck (s : State) : State :=
  if s.isActive && !s.heldActive then
    if s.store.state != .offline && s.store.accountUncovered then s.bulkEnqueue allRecords else s.enterParked
  else s

/-- Wake from PARKED: ACTIVE, the metering timer started, crank active re-formed (R187, R62, R107). -/
def State.wake (s : State) : State :=
  State.reformCrank
    { s with
      time := { s.time with mode := .active }
      meter := { s.meter with timer := some periodMs } }

/-- A frame seen: it wakes a PARKED part and is lost, is not heard off the bus, else is taken (R43, R187). -/
def State.hearFrame (s : State) (take : State → State) : State :=
  if s.onBus then
    if s.time.mode == .parked then s.restartLinger.wake else take s
  else s

/-! ## The time base (R182, R183) -/

/-- A monitor window is good (R182). -/
def windowGood (cycles : Nat) : Bool := decide (72000 ≤ cycles) && decide (cycles ≤ 88000)

/-- The selection a reset ends with (R183). -/
def windowSelection (cycles : Nat) : Selection := if windowGood cycles then .crystal else .internalRc

/-- TIMEBASE reported when it differs from the value last reported (R182). -/
def State.reportTimebase (s : State) (v : Bool) : State :=
  if s.time.timebaseHeld = v then s
  else State.report { s with time := { s.time with timebaseHeld := v } } (devicePair .timebase) v none

/-- TIMEBASE reported true and an OPEN segment flagged (R182, R183). -/
def State.timebaseBad (s : State) : State :=
  (s.reportTimebase true).flagOpen fun f => { f with timebaseDegraded := true }

/-- The new selection compared with the TIMEBASE value held, at the end of a reset or a load (R183). -/
def State.settleTimebase (s : State) : State :=
  match s.time.selection, s.time.timebaseHeld with
  | .internalRc, false => s.timebaseBad
  | .crystal, true => s.reportTimebase false
  | .internalRc, true | .crystal, false => s

/-- Selection and good-window count replaced. -/
def State.setSelection (s : State) (v : Selection) (good : Nat) : State :=
  { s with time := { s.time with selection := v, goodWindows := good } }

/-- The end of a monitor window (R182). During a load the report waits for its end (R183, log 9). -/
def State.windowEnd (s : State) (cycles : Nat) : State :=
  match s.time.selection, windowGood cycles with
  | .crystal, true => s
  | .crystal, false =>
    if s.store.isLoading then s.setSelection .internalRc 0 else (s.setSelection .internalRc 0).timebaseBad
  | .internalRc, true =>
    if s.time.goodWindows + 1 < goodWindowsNeeded then s.setSelection .internalRc (s.time.goodWindows + 1)
    else (s.setSelection .crystal (s.time.goodWindows + 1)).reportTimebase false
  | .internalRc, false => s.setSelection .internalRc 0

end Sys2Proof.Machine
end

