-- ==== Sys2Proof/Machine/Resets.lean ====
section
/-! DEFINITION. Write completions, faults and the power-fail flush (chapter 8), and the beginning of a reset (chapter 10). -/

namespace Sys2Proof.Machine

/-! ## The beginning of a reset (R189, R163, R180) -/

/-- The array with the write in flight abandoned: its record is BAD (R163). -/
def Store.abandoned (st : Store) : Vector Stored 46 :=
  match st.inFlight with
  | some w => st.array.set w.record.index .bad
  | none => st.array

/-- A warm or commanded reset begins: every timer stopped, the port, the slots, Intake and the Meter cleared, the write in
flight abandoned, the queue lost (R189, R163). The store state stands until the reset ends. -/
def State.beginReset (s : State) (kind : ResetKind) (spoiled : Bool) : State :=
  { s with
    port := { tx := [], state := .running }
    intake := Intake.afterReset
    meter := Meter.afterReset
    engine := RequestEngine.afterReset
    store :=
      { s.store with
        array := s.store.abandoned
        queue := []
        inFlight := none
        flushList := []
        pfwTaken := false
        pfwReleased := false
        checkpointMs := 0 }
    time :=
      { s.time with
        mode := .active
        inReset := some { kind := kind, spoiled := spoiled || (s.time.inReset.map ResetInProgress.spoiled).getD false }
        linger := none } }

/-- Whether a dip spoils the retained area (R189). -/
def dipSpoils : Dip → Bool
  | .aboveRetention => false
  | .belowRetention => true

/-! ## The power-fail flush (R161, R162) -/

/-- The recovery enqueue of a flush cut short by a release (R162): every changed record not covered; a PARKED part wakes if
there was one. -/
def State.recover (s : State) : State :=
  let s1 : State := { s with store := { s.store with state := .ready, pfwReleased := false } }
  let s2 := s1.bulkEnqueue allRecords
  if s2.time.mode == .parked && s2.store.writePending then s2.wake else s2

/-- The next write of the flush list, or the end of the flush (R161, R162). -/
def State.flushNext (s : State) : State :=
  match s.store.flushList with
  | i :: rest => State.startWrite { s with store := { s.store with flushList := rest } } (.account i)
  | [] => if s.store.pfwReleased then s.recover else s.enterDormant

/-- The account records changed at this moment, in index order (R161). -/
def Store.changedAccounts (st : Store) : List AccountIx := (List.finRange 5).filter fun i => st.isChanged (.account i)

/-- The flush begins: the queue discarded, the flush list fixed (R161). -/
def State.startFlush (s : State) : State :=
  State.flushNext
    { s with
      store :=
        { s.store with
          state := .flushing
          queue := []
          flushList := s.store.changedAccounts
          pfwTaken := false
          pfwReleased := false } }

/-- A PFW assertion taken by the store (R161); one taken while LOADING waits for the end of the load (R154). -/
def State.takePfw (s : State) : State :=
  match s.store.state with
  | .ready => s.startFlush
  | .writing => { s with store := { s.store with pfwTaken := true } }
  | .offline => s.enterDormant
  | .loading _ | .flushing => s

/-- A PFW release taken by the store (R161, R162). -/
def State.dropPfw (s : State) : State :=
  match s.store.state with
  | .writing => { s with store := { s.store with pfwTaken := false } }
  | .flushing => { s with store := { s.store with pfwReleased := true } }
  | .loading _ | .ready | .offline => s

/-! ## Write completion (R156, R157, R159, R160) -/

/-- The suspect mark of entry k or of record 5 cleared by a good write, and reported (R61, R153). -/
def State.clearSuspect (s : State) (r : RecordId) : State :=
  match r with
  | .band k =>
    if s.bands.suspect[k] then
      State.reportGood { s with bands := { s.bands with suspect := s.bands.suspect.set k false } } r
    else s
  | .settings =>
    if s.store.settingsSuspect then State.reportGood { s with store := { s.store with settingsSuspect := false } } r
    else s
  | .account _ | .slot _ => s

/-- The waits a completed write of r satisfies are gone (R157). -/
def doneWaits (r : RecordId) (ws : List Wait) : List Wait := ws.filter fun w => !(w.record == r && w.begun)

/-- A faulted write of r releases nothing: its waits are for the next write of r (R157). -/
def failedWaits (r : RecordId) (ws : List Wait) : List Wait :=
  ws.map fun w => if w.record == r then { w with begun := false } else w

/-- The waits of every slot changed. -/
def State.mapWaits (s : State) (f : List Wait → List Wait) : State :=
  { s with engine := s.engine.mapSlots (ClientSlot.mapWaits f) }

/-- A completion without fault (R156). -/
def State.completeGood (s : State) (w : Write) : State :=
  let s1 : State :=
    { s with
      store :=
        { s.store with
          array := s.store.array.set w.record.index (.whole w.image)
          changed := if w.dirty then s.store.changed else s.store.changed.set w.record.index false
          inFlight := none } }
  ((s1.mapWaits (doneWaits w.record)).releaseSatisfied).clearSuspect w.record

/-- The store goes OFFLINE at a second fault, in the order of R160. -/
def State.goOffline (s : State) (r : RecordId) : State :=
  let s1 := s.raiseEvent (devicePair .storeFault) (some (byteOf r.number))
  let s2 := s1.report (devicePair .storeOffline) true none
  State.releaseVolatile { s2 with store := { s2.store with state := .offline, queue := [], flushList := [] } }

/-- A first fault: STORE_FAULT raised, the record appended unless covered, and nothing appended for a flush (R159, R161). -/
def State.firstFault (s : State) (r : RecordId) : State :=
  let s1 := s.raiseEvent (devicePair .storeFault) (some (byteOf r.number))
  if s.store.pfwTaken || s.store.state == .flushing then s1 else { s1 with store := s1.store.append r }

/-- A completion with a fault (R159). -/
def State.completeFault (s : State) (w : Write) : State :=
  let s1 : State :=
    { s with store := { s.store with array := s.store.array.set w.record.index .bad, inFlight := none } }
  let s2 := s1.mapWaits (failedWaits w.record)
  match s2.alerts.entry (devicePair .storeFault) with
  | none => s2.firstFault w.record
  | some _ => s2.goOffline w.record

/-- What the store goes on with after a completion: a commanded reset that waited for the write (R163); the flush (R161);
the next write (R156); and the end of a hold (R186). A flush that a release cut short leaves the part in its mode, with no
examination of the holds (R161, step 5; R162). `before` is the store at the completion. -/
def State.afterWrite (s : State) (before : Store) : State :=
  if s.engine.resetDue then s.beginReset .commanded false
  else
    match s.store.state with
    | .offline =>
      if before.state == .flushing then if before.pfwReleased then s else s.enterDormant
      else if before.pfwTaken then s.enterDormant
      else s.parkCheck
    | .flushing => s.flushNext
    | .loading _ | .ready | .writing => if before.pfwTaken then s.startFlush else s.nextWrite.parkCheck

/-- The write in flight completes (R156, R159). -/
def State.writeDone (s : State) (w : Write) (faulted : Bool) : State :=
  (if faulted then s.completeFault w else s.completeGood w).afterWrite s.store

end Sys2Proof.Machine
end

