-- ==== Sys2Proof/Machine/Load.lean ====
section
/-! DEFINITION. The end of a reset (R183, R190, R191) and the load of the records with its end (R24, R60, R129 to R131, R153,
R154). -/

namespace Sys2Proof.Machine

/-! ## Judging a record (R153) -/

/-- What a record reads as: GOOD with its content only when it was written for this id and every field is within its stated
range. -/
inductive Judged (α : Type)
  | blank
  | good (content : α)
  | bad
  deriving DecidableEq, Repr

/-- Account record i as read. -/
def Stored.judgeAccount (st : Stored) (i : AccountIx) : Judged Account :=
  match st with
  | .blank => .blank
  | .whole (.account j a) => if j = i ∧ a.inRange i = true then .good a else .bad
  | .whole (.settings _) | .whole (.band _ _) | .whole (.slot _ _) | .bad => .bad

/-- Record 5 as read. -/
def Stored.judgeSettings (st : Stored) : Judged Settings :=
  match st with
  | .blank => .blank
  | .whole (.settings v) => if v.inRange then .good v else .bad
  | .whole (.account _ _) | .whole (.band _ _) | .whole (.slot _ _) | .bad => .bad

/-- Band record k as read. -/
def Stored.judgeBand (st : Stored) (k : Fin 16) : Judged BandEntry :=
  match st with
  | .blank => .blank
  | .whole (.band j e) => if j = k ∧ e.inRange = true then .good e else .bad
  | .whole (.account _ _) | .whole (.settings _) | .whole (.slot _ _) | .bad => .bad

/-- Slot record k as read; a slot record is written only while the slot holds a segment. -/
def Stored.judgeSlot (st : Stored) (k : Fin 24) : Judged Segment :=
  match st with
  | .blank => .blank
  | .whole (.slot j (some g)) => if j = k ∧ g.inRange = true then .good g else .bad
  | .whole (.slot j none) => if j = k then .blank else .bad
  | .whole (.account _ _) | .whole (.settings _) | .whole (.band _ _) | .bad => .bad

/-- What the array holds of a record. -/
def Store.stored (st : Store) (r : RecordId) : Stored := st.array[r.index]

/-! ## Accounts (R24) -/

/-- The working copy a load forms. -/
def loadedAccount (i : AccountIx) (j : Judged Account) : Account :=
  match j with
  | .blank => Account.blank i
  | .good a => if a.state = .normal then a else { a with state := .suspect }
  | .bad => { Account.blank i with state := .suspect }

/-- The working copy of account i from its record. -/
def Store.loadAccount (st : Store) (i : AccountIx) : Account :=
  loadedAccount i ((st.stored (.account i)).judgeAccount i)

/-- RECORD_SUSPECT of an account reported true when it is not NORMAL (R8, R24). -/
def State.reportLoaded (s : State) (i : AccountIx) : State :=
  if (s.account i).state = .normal then s
  else s.report (accountPair i .recordSuspect) true (some (byteOf i.val))

/-- The account table formed, then its reports in index order, the thresholds last (R24, R149). -/
def State.loadAccounts (s : State) : State :=
  let st := s.store
  let s1 : State :=
    { s with
      accounts :=
        { accounts := #v[st.loadAccount 0, st.loadAccount 1, st.loadAccount 2, st.loadAccount 3, st.loadAccount 4]
          serviceDue := Vector.replicate 5 false
          lifeLimit := Vector.replicate 5 false } }
  let s2 := (List.finRange 5).foldl State.reportLoaded s1
  (List.finRange 5).foldl State.evalThresholds s2

/-- The last write time of account record i, 0 unless it is GOOD and holds one (R154). -/
def Store.lastWriteOf (st : Store) (i : AccountIx) : Nat :=
  match (st.stored (.account i)).judgeAccount i with
  | .good a => a.lastWrite.getD 0
  | .blank | .bad => 0

/-- Device time at the end of a load (R154). -/
def Store.loadedTime (st : Store) : Nat := (List.finRange 5).foldl (fun t i => max t (st.lastWriteOf i)) 0

/-! ## Settings and bands (R153, R60, R190) -/

/-- The working settings and the mark of record 5: from the record at a cold load, kept after a failed check; a mark that is
set is reported. -/
def State.loadSettings (s : State) (k : LoadKind) : State :=
  let s1 : State :=
    match k, (s.store.stored .settings).judgeSettings with
    | .failedCheck, _ => s
    | .cold, .good v => { s with settings := v, store := { s.store with settingsSuspect := false } }
    | .cold, .blank => { s with settings := Settings.default, store := { s.store with settingsSuspect := false } }
    | .cold, .bad => { s with settings := Settings.default, store := { s.store with settingsSuspect := true } }
  if s1.store.settingsSuspect then s1.reportSuspect .settings else s1

/-- Entry k and its mark, from the record at a cold load (R60). -/
def State.formBand (s : State) (k : Fin 16) : State :=
  let put (e : BandEntry) (m : Bool) : State :=
    { s with bands := { entries := s.bands.entries.set k e, suspect := s.bands.suspect.set k m } }
  match (s.store.stored (.band k)).judgeBand k with
  | .good e => put e false
  | .blank => put BandEntry.blank false
  | .bad => put BandEntry.blank true

/-- Entry k formed at a cold load, kept after a failed check; a mark that is set is reported (R61, R190). -/
def State.loadBand (kind : LoadKind) (s : State) (k : Fin 16) : State :=
  let s1 :=
    match kind with
    | .cold => s.formBand k
    | .failedCheck => s
  if s1.bands.suspect[k] then s1.reportSuspect (.band k) else s1

/-! ## Segment slots (R129 to R131) -/

/-- The segment a slot is loaded with, if any (R129). -/
def Store.loadSlot (st : Store) (k : Fin 24) : Option Segment :=
  match (st.stored (.slot k)).judgeSlot k with
  | .blank => none
  | .good g => some g
  | .bad => some Segment.damaged

/-- An entry placed by opening serial, after those of an equal serial (R130). -/
def placeBySerial (e : LogEntry) : List LogEntry → List LogEntry
  | [] => [e]
  | x :: rest => if e.seg.serial < x.seg.serial then e :: x :: rest else x :: placeBySerial e rest

/-- The slots loaded, taken in slot order so that equal serials stand in record id order (R130). -/
def Store.loadLog (st : Store) : List LogEntry :=
  (List.finRange 24).foldl
    (fun l k =>
      match st.loadSlot k with
      | some g => placeBySerial { slot := k, seg := g } l
      | none => l) []

/-- A DAMAGED slot reported (R129). -/
def State.reportDamaged (s : State) (k : Fin 24) : State :=
  match s.log.inSlot k with
  | some g => if g.state = .damaged then s.reportSuspect (.slot k) else s
  | none => s

/-- The counters against the newest segment that is not DAMAGED (R130, step 2). A change of them marks record 5 (R151). -/
def State.settleCounters (s : State) : State :=
  match s.log.entries.reverse.find? fun e => e.seg.state != .damaged with
  | some e =>
    if s.settings.lastSerial < e.seg.serial then
      State.markRecord
        { s with settings := { s.settings with lastSerial := e.seg.serial, lastSegment := e.seg.number } } .settings
    else s
  | none => s

/-- POWER_GAP set. -/
def SegmentFlags.gapped (f : SegmentFlags) : SegmentFlags := { f with powerGap := true }

/-- A segment found OPEN, with the segments after it in the log (R131): the newest OPEN one stays OPEN with its snapshot
lowered, an older one is closed with every delta 0 at the open time of the next newer segment. -/
def Segment.afterGap (current : Tracked) (g : Segment) (newer : List LogEntry) : Segment :=
  if newer.any fun e => e.seg.state == .opened then
    { g with
      state := .closed
      closeTime := newer.head?.map fun e => e.seg.openTime
      tracked := Tracked.zero
      flags := g.flags.gapped }
  else { g with tracked := g.tracked.lowered current, flags := g.flags.gapped }

/-- Every segment found OPEN handled (R131). -/
def gapEntries (current : Tracked) : List LogEntry → List LogEntry
  | [] => []
  | e :: newer =>
    (if e.seg.state = .opened then { e with seg := e.seg.afterGap current newer } else e) :: gapEntries current newer

/-- POWER_GAP raised for a segment found OPEN, and its record handed (R131). -/
def State.raiseGap (s : State) (e : LogEntry) : State :=
  (s.raiseEvent (devicePair .powerGap) (some (byteOf e.seg.number))).hand (.slot e.slot)

/-- The OPEN segments of a loaded log handled, in log order (R131). -/
def State.handleOpen (s : State) : State :=
  let found := s.log.entries.filter fun e => e.seg.state == .opened
  let s1 : State :=
    { s with log := { s.log with entries := gapEntries (Tracked.current s.accounts.accounts) s.log.entries } }
  found.foldl State.raiseGap s1

/-- The segment log formed: DAMAGED reports, counters, OPEN segments, LOG_NEAR_FULL from false (R127 to R131). -/
def State.loadSegments (s : State) : State :=
  let s1 : State := { s with log := { entries := s.store.loadLog, nearFull := false } }
  let s2 := (List.finRange 24).foldl State.reportDamaged s1
  s2.settleCounters.handleOpen.evalNearFull

/-! ## The end of a load (R154) -/

/-- The changed marks a load starts from: those of account and slot records are clear, since their working content is what
was read; those of record 5 and the bands stand after a failed check, which keeps that content (log 4). -/
def Store.clearedMarks (st : Store) (k : LoadKind) : Vector Bool 46 :=
  match k with
  | .cold => Vector.replicate 46 false
  | .failedCheck =>
    (accountRecords ++ (List.finRange 24).map RecordId.slot).foldl (fun v r => v.set r.index false) st.changed

/-- Device time set first, so that the alerts of the load carry it (R154, step 1). The sub-second count, which ran on in
LOADING, is set to 0 with it (DESIGN CHOICE, log 28: R184 names the end of a reset and not the end of a load). -/
def State.startLoad (s : State) (k : LoadKind) : State :=
  { s with
    time := { s.time with deviceTime := s.store.loadedTime, subSecondMs := 0 }
    store := { s.store with changed := s.store.clearedMarks k, queue := [] } }

/-- The owners form their state in the order of R149, the Time Base last (R183). -/
def State.formAll (s : State) (k : LoadKind) : State :=
  let s1 := ((s.startLoad k).loadAccounts).loadSettings k
  let s2 := (List.finRange 16).foldl (State.loadBand k) s1
  s2.loadSegments.settleTimebase

/-- The Meter's timer started, the checkpoint timer running on from its zero; a standing PFW taken last (R62, R158, R161). -/
def State.startUp (s : State) : State :=
  let s1 : State := { s with meter := { s.meter with timer := some periodMs } }
  if s1.lines.pfw then s1.takePfw else s1

/-- The end of the load (R154): the state formed, the store READY or WRITING, the blocks started. R186 names no examination of
the holds here (DEDUCED, log 17). -/
def State.finishLoad (s : State) (k : LoadKind) : State :=
  let s1 := s.formAll k
  let s2 : State :=
    { s1 with
      store := { s1.store with state := .ready }
      time := { s1.time with resetRecord := { s1.time.resetRecord with deviceTime := s1.time.deviceTime } } }
  (s2.startIfReady.reformCrank).startUp

/-! ## The end of a warm or commanded reset (R190) -/

/-- The warm reset count after a reset of a kind (R191). -/
def countAfter (kind : ResetKind) (recordGood : Bool) (count : Nat) : Nat :=
  let before := if recordGood then count else 0
  match kind with
  | .warm => min (before + 1) 255
  | .commanded => before
  | .cold => 0

/-- The window, the straps and the sub-second count a reset ends with, and the linger it starts (R183, R184, R185, R189). -/
def State.leaveReset (s : State) (cycles : Nat) (straps : Straps) : State :=
  { s with
    time :=
      { s.time with
        inReset := none
        selection := windowSelection cycles
        goodWindows := 0
        subSecondMs := 0
        linger := some lingerMs
        straps := straps } }

/-- The reset record as a reset sets it (R191). -/
def State.recordReset (s : State) (kind : ResetKind) (lost : Bool) (recordGood : Bool) (at_ : Nat) : State :=
  { s with
    time :=
      { s.time with
        resetRecord :=
          { kind := kind, retentionLost := lost, warmCount := countAfter kind recordGood s.time.resetRecord.warmCount,
            deviceTime := at_ } } }

/-- The records rewritten after a reset with a good check: all but the slots that hold no segment (R163). -/
def State.rewriteList (s : State) : List RecordId :=
  allRecords.filter fun r =>
    match r with
    | .slot k => (s.log.inSlot k).isSome
    | .account _ | .settings | .band _ => true

/-- Every such record marked changed and queued, and the first write begun (R163). -/
def State.rewriteAll (s : State) : State :=
  State.startIfReady
    { s with
      store :=
        { s.store with
          state := .ready
          changed := s.rewriteList.foldl (fun v r => v.set r.index true) s.store.changed
          queue := s.rewriteList } }

/-- A good check (R190): the blocks resume, then the store rewrites its records. -/
def State.resumeRetained (s : State) : State :=
  let s1 := s.settleTimebase.report (devicePair .storeOffline) false none
  let s2 := s1.reportObserved.resumeQualifier.flagOpen fun f => { f with warmReset := true }
  s2.rewriteAll.startUp

/-- A bad check, or a reset that interrupted a load: the store LOADING, the Qualifier and the Alert Unit in their initial
state (R190). -/
def State.reload (s : State) (k : LoadKind) : State :=
  { s with
    qualifier := Qualifier.initial
    alerts := AlertUnit.initial
    store := { s.store with state := .loading k, queue := [] }
    time := { s.time with timebaseHeld := false } }

/-- The end of a warm or commanded reset (R190, R191). -/
def State.finishReset (s : State) (r : ResetInProgress) (retentionGood recordGood : Bool) (cycles : Nat)
    (straps : Straps) : State :=
  let s1 := s.leaveReset cycles straps
  match s.store.state with
  | .loading k => (s1.recordReset r.kind true recordGood s1.time.resetRecord.deviceTime).reload k
  | .ready | .writing | .flushing | .offline =>
    if retentionGood && !r.spoiled then
      (s1.recordReset r.kind false recordGood s1.time.deviceTime).resumeRetained
    else (s1.recordReset r.kind true recordGood s1.time.resetRecord.deviceTime).reload .failedCheck

end Sys2Proof.Machine
end

