-- ==== Sys2Proof/Machine/Images.lean ====
section
/-! DEFINITION. The record images of READ (R48, R106, R147, R176, R191, R196, R197). -/

namespace Sys2Proof.Machine

/-- A field whose number is small enough for one byte. -/
def bytes8 (n : Nat) : List Byte := [byteOf n]

/-- An absent field of n bytes reads as all ones (R192). -/
def absentBytes (n : Nat) : List Byte := List.replicate n 0xFF#8

/-- An optional four-byte field. -/
def opt32 : Option Nat → List Byte
  | some n => bytes32 n
  | none => absentBytes 4

/-- An optional two-byte field. -/
def opt16 : Option Nat → List Byte
  | some n => bytes16 n
  | none => absentBytes 2

/-- A temperature as value + 40 (R196, R197). -/
def tempByte (t : Int) : Byte := byteOf (t + 40).toNat

/-- A yes or no as one byte. -/
def flagByte (b : Bool) : Byte := byteOf b.toNat

/-! ## Accounts (R196) -/

/-- The code of an account state. -/
def AccountState.code : AccountState → Nat
  | .normal => 0
  | .suspect => 1
  | .restoring => 2

/-- Specific counter A by account index. -/
def Account.counterA (a : Account) (i : AccountIx) : Option Nat :=
  match i with
  | 0 => a.coldStarts
  | 1 => a.engagedWhileRunning
  | 4 => a.revolutions
  | 2 | 3 => none

/-- Specific counter B by account index. -/
def Account.counterB (a : Account) (i : AccountIx) : Option Nat :=
  match i with
  | 0 => a.runsWithoutCrank
  | 4 => a.revRemainder
  | 1 | 2 | 3 => none

/-- The account image, 95 bytes (R196). -/
def Account.image (a : Account) (i : AccountIx) : List Byte :=
  bytes8 (i.val * 16 + a.state.code + 8 * a.saturated.toNat) ++ bytes32 a.activeTime ++ opt32 a.events ++
    bytes32 a.wear ++ bytes32 a.unobserved ++
    (bytes32 a.bins[0] ++ bytes32 a.bins[1] ++ bytes32 a.bins[2] ++ bytes32 a.bins[3] ++ bytes32 a.bins[4] ++
      bytes32 a.bins[5] ++ bytes32 a.bins[6] ++ bytes32 a.bins[7]) ++
    opt32 (a.counterA i) ++ opt32 (a.counterB i) ++ bytes32 a.ssActiveTime ++ opt32 a.ssEvents ++ bytes32 a.ssWear ++
    bytes8 a.serviceCount ++ opt32 a.lastService ++ bytes24 a.credit ++ bytes16 a.baseWeight ++
    bytes16 a.fallbackWeight ++ opt16 a.eventWeight ++ bytes32 a.serviceThreshold ++ bytes32 a.lifeThreshold ++
    opt32 a.lastWrite

/-! ## Segments (R196, R120, R125) -/

/-- The code of a segment state. -/
def SegmentState.code : SegmentState → Nat
  | .opened => 0
  | .closed => 1
  | .exported => 2
  | .damaged => 3

/-- Active time, event count and wear of one account. -/
def Figures.bytes (f : Figures) : List Byte := bytes32 f.active ++ opt32 f.events ++ bytes32 f.wear

/-- The tracked quantities. -/
def Tracked.bytes (t : Tracked) : List Byte :=
  (t.figures[0].bytes ++ t.figures[1].bytes ++ t.figures[2].bytes ++ t.figures[3].bytes ++ t.figures[4].bytes) ++
    bytes32 t.coldStarts ++ bytes32 t.revolutions ++ bytes32 t.unobserved

/-- A segment as READ shows it: an OPEN one with its deltas in place of the snapshot, and SATURATED added where the
computation found a saturated value (R120). -/
def Segment.shown (g : Segment) (current : Tracked) : Segment :=
  match g.state with
  | .opened =>
    { g with
      tracked := Tracked.deltas current g.tracked
      flags := { g.flags with saturated := g.flags.saturated || current.anyAtMax } }
  | .closed | .exported | .damaged => g

/-- The fields of a segment at their places (R196). -/
def Segment.layout (g : Segment) : List Byte :=
  bytes16 g.number ++ bytes8 g.state.code ++ g.renter ++ [g.tariff] ++ bytes32 g.openTime ++ opt32 g.closeTime ++
    bytes32 g.serial ++ g.tracked.bytes ++ [g.flags.byte]

/-- The segment image, 95 bytes (R196). A DAMAGED segment reads as number 0, state DAMAGED and every other field 0 (R125), the
absent DRIVELINE event count as all ones (R192, R196; log 11). -/
def Segment.image (g : Segment) : List Byte :=
  match g.state with
  | .damaged => Segment.damaged.layout
  | .opened | .closed | .exported => g.layout

/-! ## Bands (R48) -/

/-- The code of a band class. -/
def BandClass.code : BandClass → Nat
  | .ordinary => 0
  | .excursion => 1

/-- Metric, low, high. -/
def Condition.bytes (c : Condition) : List Byte := bytes8 c.metric.code ++ bytesInt16 c.low ++ bytesInt16 c.high

/-- An optional condition. -/
def optCondition : Option Condition → List Byte
  | some c => c.bytes
  | none => absentBytes 5

/-- Account, class, bin and weight. -/
def WeightPart.bytes (w : WeightPart) : List Byte :=
  bytes8 w.account.val ++ bytes8 w.cls.code ++ bytes8 w.bin.val ++ bytes16 w.weight

/-- The staged set: 1 primary, 2 secondary, 4 weight part. -/
def BandEntry.stagedSet (e : BandEntry) : Nat :=
  e.stagedPrimary.isSome.toNat + 2 * e.stagedSecondary.isSome.toNat + 4 * e.stagedWeight.isSome.toNat

/-- The staged weight part. -/
def optWeight : Option WeightPart → List Byte
  | some w => w.bytes ++ [flagByte w.enabled]
  | none => absentBytes 6

/-- The band image, 35 bytes (R48). -/
def BandEntry.image (e : BandEntry) (k : Fin 16) : List Byte :=
  bytes8 k.val ++ [flagByte e.weightPart.enabled, flagByte e.locked] ++ e.weightPart.bytes ++ e.primary.bytes ++
    optCondition e.secondary ++ bytes8 e.stagedSet ++ optCondition e.stagedPrimary ++
    optCondition (e.stagedSecondary.getD none) ++ optWeight e.stagedWeight

/-! ## Start history and Qualifier status (R106) -/

/-- The code of an outcome (R105). -/
def AttemptOutcome.code : AttemptOutcome → Nat
  | .qualified => 0
  | .failed => 1
  | .stalled => 2
  | .unverified => 3

/-- The history entry image, 12 bytes. -/
def HistoryEntry.image (e : HistoryEntry) : List Byte :=
  bytes32 e.beginTime ++ bytes8 e.outcome.code ++ [flagByte e.cold] ++ [(e.oil.map tempByte).getD 0xFF#8] ++
    bytes8 e.crankCount ++ opt16 e.duration ++ opt16 e.timeToRun

/-- The code of a Qualifier state. -/
def QualifierState.code : QualifierState → Nat
  | .idle => 0
  | .cranking _ _ => 1
  | .confirming _ _ => 2
  | .running _ => 3

/-- The open attempt, if there is one (R90). -/
def QualifierState.attempt : QualifierState → Option Attempt
  | .cranking a _ | .confirming a _ => some a
  | .idle | .running _ => none

/-- FALSE 0, TRUE 1, UNDETERMINED 2. -/
def crankCode : Option Bool → Nat
  | some b => b.toNat
  | none => 2

/-- The Qualifier's status image, 10 bytes. -/
def State.qualifierImage (s : State) : List Byte :=
  let a := s.qualifier.state.attempt
  bytes8 s.qualifier.state.code ++ bytes8 s.qualifier.failures ++ bytes8 s.qualifier.ring.length ++
    bytes8 (crankCode s.crankActiveNow) ++ opt32 (a.map Attempt.beginTime) ++
    [(a.map fun x => byteOf x.crankCount).getD 0xFF#8] ++ [(a.map fun x => flagByte x.cold).getD 0xFF#8]

/-! ## Alerts (R147) -/

/-- The alert image, 15 bytes. -/
def AlertEntry.image (e : AlertEntry) : List Byte :=
  bytes8 e.pair.source.code ++ bytes8 e.pair.cause.code ++
    [flagByte (!e.pair.cause.isCondition), flagByte (!e.pair.cause.isCritical), flagByte (e.state == .acknowledged)] ++
    [e.parameter.getD 0xFF#8] ++ bytes32 e.firstRaised ++ bytes32 e.latest ++ bytes8 e.repeats

/-! ## Status and reset record (R173, R176, R191) -/

/-- The code of a mode. -/
def Mode.code : Mode → Nat
  | .active => 0
  | .parked => 1
  | .dormant => 2

/-- The code of a store state. -/
def StoreState.code : StoreState → Nat
  | .loading _ => 0
  | .ready => 1
  | .writing => 2
  | .flushing => 3
  | .offline => 4

/-- The code of a selection. -/
def Selection.code : Selection → Nat
  | .crystal => 0
  | .internalRc => 1

/-- The open segment's number, 0 when none is OPEN (R173). -/
def SegmentLog.openNumber (l : SegmentLog) : Nat := (l.openEntry.map fun e => e.seg.number).getD 0

/-- The payload of STATUS (R195). -/
def State.statusPayload (s : State) : List Byte :=
  bytes8 (s.time.mode.code + 4 * s.store.state.code + 32 * s.time.selection.code) ++ bytes8 s.alerts.pendingCritical ++
    bytes8 s.alerts.pendingNotice ++ bytes16 s.log.openNumber

/-- The status image, 17 bytes (R176). -/
def State.statusImage (s : State) : List Byte :=
  bytes8 s.time.mode.code ++ bytes8 s.store.state.code ++ bytes8 s.time.selection.code ++
    bytes8 s.alerts.pendingCritical ++ bytes8 s.alerts.pendingNotice ++ bytes16 s.log.openNumber ++
    bytes32 s.time.deviceTime ++ bytes8 (nodeAddress s.time.straps) ++ [flagByte s.time.straps.br] ++
    bytes8 s.log.entries.length ++ bytes8 s.log.closedCount ++ bytes8 s.store.queue.length ++ bytes8 s.port.tx.length

/-- The code of a reset kind (R191). -/
def ResetKind.code : ResetKind → Nat
  | .cold => 0
  | .warm => 1
  | .commanded => 2

/-- The reset record, 7 bytes (R191). -/
def ResetRecord.image (r : ResetRecord) : List Byte :=
  bytes8 r.kind.code ++ [flagByte r.retentionLost] ++ bytes8 r.warmCount ++ bytes32 r.deviceTime

/-! ## Settings (R197) -/

/-- The code of a crank line mode (R87). -/
def CrankMode.code : CrankMode → Nat
  | .off => 0
  | .level => 1
  | .edge => 2

/-- The code of an observation format (R39). -/
def ObsFormat.code : ObsFormat → Nat
  | .engineState => 0
  | .drivelineState => 1
  | .drivelineEvent => 2

/-- Cold, hot and critical limit. -/
def OilLimits.bytes (l : OilLimits) : List Byte := [tempByte l.cold, tempByte l.hot, tempByte l.critical]

/-- The four fields of a filter entry. -/
def Filter.bytes (f : Filter) : List Byte :=
  bytes16 f.base.toNat ++ bytes16 f.mask.toNat ++ bytes8 f.format.code ++ [flagByte f.enabled]

/-- The settings image, 55 bytes (R197). -/
def Settings.image (v : Settings) : List Byte :=
  bytes16 v.freshLimit ++ bytes16 v.holdLimit ++ bytes16 v.runThreshold ++ v.engineOil.bytes ++
    v.transmissionOil.bytes ++ bytes8 v.coldMultiplier ++ bytes8 v.hotMultiplier ++ bytes8 v.criticalMultiplier ++
    [tempByte v.coldStartLimit] ++ bytes8 v.coldStartMultiplier ++ bytes8 v.crankMode.code ++ bytes16 v.crankWindow ++
    bytes8 v.confirmTime ++ bytes16 v.stopTime ++ bytes8 v.failureLimit ++ bytes8 v.checkpointInterval ++
    (v.filters[0].bytes ++ v.filters[1].bytes ++ v.filters[2].bytes ++ v.filters[3].bytes) ++ bytes16 v.lastSegment ++
    bytes32 v.lastSerial

/-! ## Regions (R174) -/

/-- The image length of a region (R175). -/
def Region.imageLength : Region → Nat
  | .status => 17
  | .account => 95
  | .segment => 95
  | .band => 35
  | .startHistory => 12
  | .alert => 15
  | .settings => 55

/-- The image of an index of a region, none where the region does not hold it (R174). -/
def State.image (s : State) (r : Region) (n : Nat) : Option (List Byte) :=
  match r with
  | .status =>
    match n with
    | 0 => some s.statusImage
    | 1 => some s.time.resetRecord.image
    | _ => none
  | .account => (accountOf n).map fun i => (s.account i).image i
  | .segment => s.log.entries[n]?.map fun e => (e.seg.shown (Tracked.current s.accounts.accounts)).image
  | .band => (bandOf n).map fun k => s.bands.entries[k].image k
  | .startHistory => if n = 16 then some s.qualifierImage else s.qualifier.ring[n]?.map HistoryEntry.image
  | .alert => s.alerts.readOrder[n]?.map AlertEntry.image
  | .settings => if n = 0 then some s.settings.image else none

/-- The image of an index the region does not hold: all zero, of the region's length (R174). -/
def Region.emptyImage (r : Region) : List Byte := List.replicate r.imageLength 0#8

end Sys2Proof.Machine
end

