-- ==== Sys2Proof/Machine/Requests.lean ====
section
/-! DEFINITION. The Request Engine (chapter 9): rights, the at-rest interlock, the owning blocks' decision of every request
kind, and the life of a request frame. -/

namespace Sys2Proof.Machine

/-! ## Rights and interlock (R168, R169) -/

/-- An account or source operand within the rights of a slot: 0..1 for slot 0, 2..4 for slot 1, any for slots 2 and 3. -/
def ownsIndex (slot : SlotIx) (n : Nat) : Bool :=
  match slot with
  | 0 => decide (n ≤ 1)
  | 1 => decide (2 ≤ n) && decide (n ≤ 4)
  | 2 | 3 => true

/-- The fleet gateway and the depot terminal. -/
def isOffice (slot : SlotIx) : Bool := slot == 2 || slot == 3

/-- The rights of each role, on the operands as sent (R168). -/
def Request.permitted (q : Request) (slot : SlotIx) : Bool :=
  match q with
  | .status | .next => true
  | .read .status _ | .read .alert _ => true
  | .read .account n => ownsIndex slot n
  | .read .startHistory _ => slot != 1
  | .read .segment _ | .read .band _ | .read .settings _ => isOffice slot
  | .ackAlert source _ => ownsIndex slot source
  | .closeRental | .markExported _ | .checkpoint => isOffice slot
  | .openRental _ _ | .serviceReset _ | .bandPrimary _ _ _ _ | .bandSecondary _ _ _ _ | .bandWeight _ _ _ _ _ _
  | .bandLock _ | .writeSetting _ _ _ | .restoreField _ _ _ | .restoreDone _ | .resetDevice => slot == 3

/-- The kinds subject to the at-rest interlock (R169). -/
def Request.needsRest : Request → Bool
  | .openRental _ _ | .closeRental | .serviceReset _ | .bandPrimary _ _ _ _ | .bandSecondary _ _ _ _
  | .bandWeight _ _ _ _ _ _ | .bandLock _ | .writeSetting _ _ _ | .restoreField _ _ _ | .restoreDone _
  | .resetDevice => true
  | .status | .read _ _ | .next | .ackAlert _ _ | .markExported _ | .checkpoint => false

/-- The truck is at rest (R169). -/
def State.atRest (s : State) : Bool := s.intake.outputSpeed.known == some 0 || !s.lines.ign

/-! ## How a request is answered (R170) -/

/-- The completion of a request: at once with an outcome and a payload; deferred to the writes it waits on; or at once
with the response that begins the commanded reset (R178). -/
inductive Answer
  | atOnce (s : State) (o : ReqOutcome) (payload : List Byte)
  | deferred (s : State) (waits : List Wait) (payload : List Byte)
  | resetting (s : State)

/-- A change made and its records handed: deferred to their writes, or VOLATILE at once while OFFLINE (R157, R160). -/
def Answer.durable (s : State) (records : List RecordId) (payload : List Byte) : Answer :=
  match s.store.state with
  | .offline => .atOnce s .volatileDone payload
  | .loading _ | .ready | .writing | .flushing => .deferred s (records.map s.waitOn) payload

/-- A refusal: no change, no payload (R167). -/
def Answer.refusal (s : State) (o : ReqOutcome) : Answer := .atOnce s o []

/-! ## READ and NEXT (R174, R175) -/

/-- The read buffer and cursor of a slot replaced. -/
def State.setBuffer (s : State) (slot : SlotIx) (b : ReadBuffer) : State :=
  { s with
    engine := { s.engine with slots := s.engine.slots.set slot { s.engine.slots[slot] with buffer := some b } } }

/-- Five bytes of an image from an offset, 0 beyond its end (R175). -/
def fiveFrom (image : List Byte) (offset : Nat) : List Byte :=
  (image.drop offset ++ List.replicate 5 0#8).take 5

/-- An image into the slot's buffer with the cursor at 5, and its first five bytes answered (R174). -/
def State.answerImage (s : State) (slot : SlotIx) (r : Region) (n : Nat) (image : List Byte) (o : ReqOutcome) : Answer :=
  .atOnce (s.setBuffer slot { region := r, index := n, offset := 5, image := image }) o
    (byteOf 0 :: fiveFrom image 0)

/-- READ (R174). -/
def State.handleRead (s : State) (slot : SlotIx) (r : Region) (n : Nat) : Answer :=
  match s.image r n with
  | some image => s.answerImage slot r n image .ok
  | none => s.answerImage slot r n r.emptyImage .empty

/-- NEXT (R175). -/
def State.handleNext (s : State) (slot : SlotIx) : Answer :=
  match s.engine.slots[slot].buffer with
  | none => .refusal s .stateRefused
  | some b =>
    if b.offset < b.image.length then
      .atOnce (s.setBuffer slot { b with offset := b.offset + 5 }) .ok (byteOf b.offset :: fiveFrom b.image b.offset)
    else .refusal s .ended

/-! ## Rentals (R115 to R118, R122, R124) -/

/-- The number after a segment number: 1 after 65,535, 0 passed over (R115). -/
def numberAfter (n : Nat) : Nat := if n < 65535 then n + 1 else 1

/-- The next number that no segment of the log holds, within a number of tries (R115). -/
def freeNumber (l : SegmentLog) : Nat → Nat → Nat
  | 0, n => n
  | tries + 1, n =>
    if l.entries.any fun e => e.seg.number == numberAfter n then freeNumber l tries (numberAfter n) else numberAfter n

/-- The unused slot with the lowest record id (R116). -/
def SegmentLog.freeSlot (l : SegmentLog) : Option (Fin 24) := (List.finRange 24).find? fun k => (l.inSlot k).isNone

/-- The oldest EXPORTED or DAMAGED segment (R117). -/
def SegmentLog.reclaimable (l : SegmentLog) : Option LogEntry :=
  l.entries.find? fun e => e.seg.state == .exported || e.seg.state == .damaged

/-- A segment reclaimed; a DAMAGED one is no longer reported (R117). -/
def State.reclaim (s : State) (e : LogEntry) : State :=
  let s1 : State := { s with log := { s.log with entries := s.log.entries.filter fun x => x.slot != e.slot } }
  if e.seg.state = .damaged then s1.reportGood (.slot e.slot) else s1

/-- The segment an opening makes (R115, R118, steps 2 to 4). -/
def State.newSegment (s : State) (renter : List Byte) (tariff : Byte) : Segment :=
  { number := freeNumber s.log 25 s.settings.lastSegment
    state := .opened
    renter := renter
    tariff := tariff
    openTime := s.time.deviceTime
    closeTime := none
    serial := min (s.settings.lastSerial + 1) counterMax
    tracked := Tracked.current s.accounts.accounts
    flags := { SegmentFlags.empty with timebaseDegraded := s.time.selection == .internalRc } }

/-- The opening in a chosen slot: appended, the counters taken, the two records handed (R118). -/
def State.openIn (s : State) (slot : Fin 24) (renter : List Byte) (tariff : Byte) : Answer :=
  let g := s.newSegment renter tariff
  let s1 : State :=
    { s with
      log := { s.log with entries := s.log.entries ++ [{ slot := slot, seg := g }] }
      settings := { s.settings with lastSegment := g.number, lastSerial := g.serial } }
  .durable ((s1.hand (.slot slot)).hand .settings) [.slot slot, .settings] (bytes16 g.number)

/-- OPEN RENTAL (R116). -/
def State.handleOpenRental (s : State) (renter : List Byte) (tariff : Byte) : Answer :=
  match s.log.openEntry with
  | some _ => .refusal s .stateRefused
  | none =>
    match s.log.freeSlot with
    | some k => s.openIn k renter tariff
    | none =>
      match s.log.reclaimable with
      | some e => (s.reclaim e).openIn e.slot renter tariff
      | none => .refusal s .logFull

/-- A segment as a close leaves it (R122, steps 1 to 4). -/
def Segment.closeAt (g : Segment) (current : Tracked) (now : Nat) : Segment :=
  { g with
    state := .closed
    closeTime := some now
    tracked := Tracked.deltas current g.tracked
    flags := { g.flags with saturated := g.flags.saturated || current.anyAtMax } }

/-- The segment of a slot changed in the log. -/
def State.modifySegment (s : State) (slot : Fin 24) (f : Segment → Segment) : State :=
  { s with log := s.log.modify slot f }

/-- CLOSE RENTAL (R122). -/
def State.handleCloseRental (s : State) : Answer :=
  match s.log.openEntry with
  | none => .refusal s .stateRefused
  | some e =>
    let s1 :=
      s.modifySegment e.slot fun g => g.closeAt (Tracked.current s.accounts.accounts) s.time.deviceTime
    .durable (s1.evalNearFull.hand (.slot e.slot)) [.slot e.slot] (bytes16 e.seg.number)

/-- The segment a number names; 0 names the oldest DAMAGED one (R124). -/
def SegmentLog.named (l : SegmentLog) (number : Nat) : Option LogEntry :=
  if number = 0 then l.entries.find? fun e => e.seg.state == .damaged
  else l.entries.find? fun e => e.seg.number == number

/-- MARK EXPORTED (R124). -/
def State.handleMarkExported (s : State) (number : Nat) : Answer :=
  match s.log.named number with
  | none => .refusal s .empty
  | some e =>
    match e.seg.state with
    | .opened | .damaged => .refusal s .stateRefused
    | .exported => .refusal s .ok
    | .closed =>
      let s1 := s.modifySegment e.slot fun g => { g with state := .exported }
      .durable (s1.evalNearFull.hand (.slot e.slot)) [.slot e.slot] []

/-! ## Alerts (R140) -/

/-- ACK ALERT (R140). -/
def State.handleAckAlert (s : State) (source cause : Nat) : Answer :=
  match sourceOfCode source, causeOfCode cause with
  | some src, some c =>
    let p : AlertPair := { source := src, cause := c }
    if p.valid then
      match s.alerts.entry p with
      | none => .refusal s .empty
      | some e => .atOnce { s with alerts := s.alerts.acknowledge p e } .ok []
    else .refusal s .badRequest
  | _, _ => .refusal s .badRequest

/-! ## Accounts (R17, R19, R21) -/

/-- SERVICE RESET (R17). -/
def State.handleServiceReset (s : State) (account : Nat) : Answer :=
  match accountOf account with
  | none => .refusal s .badRequest
  | some i =>
    if (s.account i).state = .normal then
      let s1 := (s.setAccount i ((s.account i).serviced s.time.deviceTime)).evalThresholds i
      let s2 := s1.flagOpen fun f => { f with serviced := true }
      .durable (s2.hand (.account i)) [.account i] []
    else .refusal s .stateRefused

/-- The restore buffer with a field entered: kept when it names this account, begun anew otherwise (R19). -/
def enterField (b : Option RestoreBuffer) (i : AccountIx) (field value : Nat) : RestoreBuffer :=
  let kept :=
    match b with
    | some r => if r.account = i then r.fields else []
    | none => []
  { account := i, fields := (kept.filter fun fv => fv.1 != field) ++ [(field, restoreValue field value)] }

/-- The restore buffer replaced. -/
def State.setRestore (s : State) (b : Option RestoreBuffer) : State := { s with engine := { s.engine with restore := b } }

/-- RESTORE FIELD (R19). A SUSPECT account becomes RESTORING, which marks it changed (R9, log 10). -/
def State.handleRestoreField (s : State) (account field value : Nat) : Answer :=
  match accountOf account with
  | none => .refusal s .badRequest
  | some i =>
    if restorable i field then
      if (s.account i).state = .normal then .refusal s .stateRefused
      else
        .atOnce
          ((s.setRestore (some (enterField s.engine.restore i field value))).changeAccount i
            fun a => { a with state := .restoring }) .ok []
    else .refusal s .badRequest

/-- The increase a restore made in each lifetime quantity the segment tracks (R21, step 6). -/
def restoreIncrease (i : AccountIx) (before after : Account) : Tracked :=
  { figures :=
      Tracked.zero.figures.set i
        { active := after.activeTime - before.activeTime
          events :=
            match after.events, before.events with
            | some u, some v => some (u - v)
            | _, _ => none
          wear := after.wear - before.wear }
    coldStarts := after.coldStarts.getD 0 - before.coldStarts.getD 0
    revolutions := after.revolutions.getD 0 - before.revolutions.getD 0
    unobserved := after.unobserved - before.unobserved }

/-- The OPEN segment's snapshot raised and RESTORED set; its record marked (R121). -/
def State.raiseSnapshot (s : State) (increase : Tracked) : State :=
  match s.log.openEntry with
  | none => s
  | some e =>
    State.markRecord
      (s.modifySegment e.slot fun g =>
        { g with tracked := g.tracked.raised increase, flags := { g.flags with restored := true } })
      (.slot e.slot)

/-- The account a RESTORE DONE may close: RESTORING, and named by the buffer (R21). -/
def State.restoreOf (s : State) (i : AccountIx) : Option RestoreBuffer :=
  match s.engine.restore with
  | some b => if b.account = i ∧ (s.account i).state = .restoring then some b else none
  | none => none

/-- RESTORE DONE (R21). -/
def State.handleRestoreDone (s : State) (account : Nat) : Answer :=
  match accountOf account with
  | none => .refusal s .badRequest
  | some i =>
    match s.restoreOf i with
    | none => .refusal s .stateRefused
    | some b =>
      let a := (s.account i).restored b.fields
      let s1 := (s.setAccount i a).report (accountPair i .recordSuspect) false none
      let s2 := (s1.evalThresholds i).raiseSnapshot (restoreIncrease i (s.account i) a)
      .durable ((s2.setRestore none).hand (.account i)) [.account i] []

/-! ## Bands (R52 to R57) -/

/-- Entry k as an accepted edit leaves it, its record handed (R56). -/
def State.putBand (s : State) (k : Fin 16) (e : BandEntry) : Answer :=
  .durable ((s.setBand k e).hand (.band k)) [.band k] []

/-- An edit of an unlocked entry: staged while it is enabled, else applied at once (R52 to R54). -/
def State.editBand (s : State) (k : Fin 16) (apply stage : BandEntry → BandEntry) : Answer :=
  let e := s.bands.entries[k]
  if e.locked then .refusal s .locked
  else s.putBand k (if e.weightPart.enabled then stage e else apply e)

/-- BAND PRIMARY (R52). -/
def State.handleBandPrimary (s : State) (entry metric : Nat) (low high : Int) : Answer :=
  match bandOf entry, metricOfCode metric with
  | some k, some m =>
    let c := Condition.clamped m low high
    s.editBand k (fun e => { e with primary := c }) fun e => { e with stagedPrimary := some c }
  | _, _ => .refusal s .badRequest

/-- The secondary condition a metric code and bounds spell: 255 is absent; none for another unknown code (R52). -/
def secondaryOf (metric : Nat) (low high : Int) : Option (Option Condition) :=
  if metric = 255 then some none else (metricOfCode metric).map fun m => some (Condition.clamped m low high)

/-- BAND SECONDARY (R52). -/
def State.handleBandSecondary (s : State) (entry metric : Nat) (low high : Int) : Answer :=
  match bandOf entry, secondaryOf metric low high with
  | some k, some c => s.editBand k (fun e => { e with secondary := c }) fun e => { e with stagedSecondary := some c }
  | _, _ => .refusal s .badRequest

/-- BAND WEIGHT (R52). -/
def State.handleBandWeight (s : State) (entry account cls bin weight enabled : Nat) : Answer :=
  match bandOf entry, weightPartOf account cls bin weight enabled with
  | some k, some w => s.editBand k (fun e => { e with weightPart := w }) fun e => { e with stagedWeight := some w }
  | _, _ => .refusal s .badRequest

/-- BAND LOCK (R57). -/
def State.handleBandLock (s : State) (entry : Nat) : Answer :=
  match bandOf entry with
  | none => .refusal s .badRequest
  | some k =>
    let e := s.bands.entries[k]
    if e.locked then .refusal s .ok
    else if e.weightPart.enabled then s.putBand k { e with locked := true }
    else .refusal s .stateRefused

/-! ## Settings (R177) -/

/-- What a written device setting does at once beyond standing in the settings (R32, R88, R158). -/
def State.applySetting (s : State) (id : Nat) : State :=
  if id = 0x01 ∨ id = 0x02 then s.reclassifyAll
  else if id = 0x0F then s.reformLatch
  else if id = 0x14 then { s with store := { s.store with checkpointMs := 0 } }
  else s

/-- WRITE SETTING of a device setting (R177). -/
def State.writeDevice (s : State) (id raw : Nat) : Answer :=
  match s.settings.write id (signedOf 32 raw) with
  | none => .refusal s .badRequest
  | some v => .durable ((State.applySetting { s with settings := v } id).hand .settings) [.settings] []

/-- WRITE SETTING of a per-account setting; a threshold is evaluated at once (R10, R11). -/
def State.writeAccount (s : State) (i : AccountIx) (id raw : Nat) : Answer :=
  match (s.account i).writeSetting id raw with
  | none => .refusal s .badRequest
  | some a =>
    let s1 := s.setAccount i a
    let s2 := if id = 0x43 ∨ id = 0x44 then s1.evalThresholds i else s1
    .durable (s2.hand (.account i)) [.account i] []

/-- WRITE SETTING (R177). -/
def State.handleWriteSetting (s : State) (id account raw : Nat) : Answer :=
  if 0x40 ≤ id ∧ id ≤ 0x44 then
    match accountOf account with
    | none => .refusal s .badRequest
    | some i => s.writeAccount i id raw
  else s.writeDevice id raw

/-! ## Checkpoint and reset (R158, R178) -/

/-- The writes a CHECKPOINT waits for after its enqueue: the one in flight, and one of each record queued (R158). -/
def Store.checkpointWaits (st : Store) : List Wait :=
  (match st.inFlight with
    | some w => [{ record := w.record, begun := true }]
    | none => []) ++ st.queue.map fun r => { record := r, begun := false }

/-- The records changed. -/
def Store.changedRecords (st : Store) : List RecordId := allRecords.filter st.isChanged

/-- CHECKPOINT (R158). -/
def State.handleCheckpoint (s : State) : Answer :=
  match s.store.state with
  | .offline => .refusal s .volatileDone
  | .flushing =>
    if s.store.changedRecords.isEmpty then .refusal s .ok
    else .deferred s (s.store.changedRecords.map s.waitOn) []
  | .loading _ | .ready | .writing =>
    if s.store.changedRecords.isEmpty then .refusal s .ok
    else .deferred (s.bulkEnqueue allRecords) (s.bulkEnqueue allRecords).store.checkpointWaits []

/-- RESET DEVICE: a second one while one is pending adds nothing (R178). -/
def State.handleResetDevice (s : State) : Answer :=
  if s.engine.resetPending || s.engine.resetDue then .refusal s .ok
  else .resetting { s with engine := { s.engine with resetPending := true } }

/-! ## The life of a request (R167, R170, R171) -/

/-- The owning block's decision (R167, step 5). -/
def State.handle (s : State) (slot : SlotIx) (q : Request) : Answer :=
  match q with
  | .status => .atOnce s .ok s.statusPayload
  | .read r n => s.handleRead slot r n
  | .next => s.handleNext slot
  | .openRental renter tariff => s.handleOpenRental renter tariff
  | .closeRental => s.handleCloseRental
  | .markExported number => s.handleMarkExported number
  | .ackAlert source cause => s.handleAckAlert source cause
  | .serviceReset account => s.handleServiceReset account
  | .restoreField account field value => s.handleRestoreField account field value
  | .restoreDone account => s.handleRestoreDone account
  | .bandPrimary entry metric low high => s.handleBandPrimary entry metric low high
  | .bandSecondary entry metric low high => s.handleBandSecondary entry metric low high
  | .bandWeight entry account cls bin weight enabled => s.handleBandWeight entry account cls bin weight enabled
  | .bandLock entry => s.handleBandLock entry
  | .writeSetting id account raw => s.handleWriteSetting id account raw
  | .checkpoint => s.handleCheckpoint
  | .resetDevice => s.handleResetDevice

/-- A response composed and offered (R170, R195). -/
def State.answer (s : State) (slot : SlotIx) (kind : Byte) (ops : List Byte) (o : ReqOutcome) (payload : List Byte)
    (startsReset : Bool) : State :=
  s.offer slot kind ops (responseFrame s.time.straps slot kind o payload startsReset)

/-- A completion carried out on the slot (R170). -/
def Answer.conclude (slot : SlotIx) (kind : Byte) (ops : List Byte) : Answer → State
  | .atOnce s o payload => s.answer slot kind ops o payload false
  | .deferred s waits payload =>
    s.setInFlight slot (some { kind := kind, ops := ops, phase := .waiting waits payload })
  | .resetting s => s.answer slot kind ops .ok [] true

/-- Steps 2 to 5 of R167 for an IDLE slot. -/
def State.decideRequest (s : State) (slot : SlotIx) (kind : Byte) (ops : List Byte) : Answer :=
  match parseRequest kind.toNat ops with
  | none => .refusal s .badRequest
  | some q =>
    if !q.permitted slot then .refusal s .denied
    else if q.needsRest && !s.atRest then .refusal s .notAtRest
    else s.handle slot q

/-- A BUSY answer takes a free place or is skipped; the slot is not changed (R171). -/
def State.answerBusy (s : State) (slot : SlotIx) (kind : Byte) : State :=
  if s.port.hasRoom then { s with port := s.port.push (responseFrame s.time.straps slot kind .busy [] false) } else s

/-- A request frame taken at a slot: accepted for the linger (R185), then decided in the order of R167. -/
def State.takeRequest (s : State) (slot : SlotIx) (kind : Byte) (ops : List Byte) : State :=
  match s.engine.slots[slot].inFlight with
  | some _ => s.restartLinger.answerBusy slot kind
  | none => (s.restartLinger.decideRequest slot kind ops).conclude slot kind ops

/-- All data bytes of a request frame; a frame with none is answered with kind code 0xFF (R195). -/
def State.takeRequestData (s : State) (slot : SlotIx) (data : List Byte) : State :=
  match data with
  | [] => s.takeRequest slot 0xFF#8 []
  | kind :: ops => s.takeRequest slot kind ops

/-- An observation frame as the Network Port routes it (R38): to a slot, to its format, or ignored. -/
def State.routeFrame (s : State) (id : CanId) (data : List Byte) : State :=
  match routeOf s.time.straps s.settings.filters id with
  | .request slot => s.takeRequestData slot data
  | .observation f => s.restartLinger.decode f data
  | .ignored => s

/-- A request frame on the wire: heard, routed by its slot's identifier, taken (R38, R165). -/
def State.requestFrame (s : State) (slot : SlotIx) (kind : Byte) (ops : List Byte) : State :=
  s.hearFrame fun x => x.takeRequest slot kind ops

/-- An observation frame on the wire (R38). -/
def State.observationFrame (s : State) (id : CanId) (data : List Byte) : State :=
  s.hearFrame fun x => x.routeFrame id data

end Sys2Proof.Machine
end

