-- ==== Sys2Proof/Machine/Commands.lean ====
section
/-! DEFINITION. The meaning of every command, one definition per constructor of Instr. Each answers a next state: the spec
names no command that stops the part. An event that the state rules out changes nothing (log 12). -/

namespace Sys2Proof.Machine

/-- The outcome of a command. -/
abbrev Result := Host.Outcome State Fault Refusal

/-! ## Request frames (R165 to R178, R194) -/

/-- STATUS (R173). -/
def execStatus (slot : SlotIx) (ops : List Byte) (s : State) : Result := .next (s.requestFrame slot 0x01#8 ops)

/-- READ (R174). -/
def execRead (slot : SlotIx) (ops : List Byte) (s : State) : Result := .next (s.requestFrame slot 0x02#8 ops)

/-- NEXT (R175). -/
def execNext (slot : SlotIx) (ops : List Byte) (s : State) : Result := .next (s.requestFrame slot 0x03#8 ops)

/-- OPEN RENTAL (R116 to R118). -/
def execOpenRental (slot : SlotIx) (ops : List Byte) (s : State) : Result := .next (s.requestFrame slot 0x10#8 ops)

/-- CLOSE RENTAL (R122). -/
def execCloseRental (slot : SlotIx) (ops : List Byte) (s : State) : Result := .next (s.requestFrame slot 0x11#8 ops)

/-- MARK EXPORTED (R124). -/
def execMarkExported (slot : SlotIx) (ops : List Byte) (s : State) : Result := .next (s.requestFrame slot 0x12#8 ops)

/-- ACK ALERT (R140). -/
def execAckAlert (slot : SlotIx) (ops : List Byte) (s : State) : Result := .next (s.requestFrame slot 0x18#8 ops)

/-- SERVICE RESET (R17). -/
def execServiceReset (slot : SlotIx) (ops : List Byte) (s : State) : Result := .next (s.requestFrame slot 0x20#8 ops)

/-- RESTORE FIELD (R18, R19). -/
def execRestoreField (slot : SlotIx) (ops : List Byte) (s : State) : Result := .next (s.requestFrame slot 0x21#8 ops)

/-- RESTORE DONE (R21). -/
def execRestoreDone (slot : SlotIx) (ops : List Byte) (s : State) : Result := .next (s.requestFrame slot 0x22#8 ops)

/-- BAND PRIMARY (R52 to R56). -/
def execBandPrimary (slot : SlotIx) (ops : List Byte) (s : State) : Result := .next (s.requestFrame slot 0x30#8 ops)

/-- BAND SECONDARY (R52 to R56). -/
def execBandSecondary (slot : SlotIx) (ops : List Byte) (s : State) : Result := .next (s.requestFrame slot 0x31#8 ops)

/-- BAND WEIGHT (R52 to R56). -/
def execBandWeight (slot : SlotIx) (ops : List Byte) (s : State) : Result := .next (s.requestFrame slot 0x32#8 ops)

/-- BAND LOCK (R57). -/
def execBandLock (slot : SlotIx) (ops : List Byte) (s : State) : Result := .next (s.requestFrame slot 0x33#8 ops)

/-- WRITE SETTING (R177). -/
def execWriteSetting (slot : SlotIx) (ops : List Byte) (s : State) : Result := .next (s.requestFrame slot 0x40#8 ops)

/-- CHECKPOINT (R158). -/
def execCheckpoint (slot : SlotIx) (ops : List Byte) (s : State) : Result := .next (s.requestFrame slot 0x50#8 ops)

/-- RESET DEVICE (R178). -/
def execResetDevice (slot : SlotIx) (ops : List Byte) (s : State) : Result := .next (s.requestFrame slot 0x5A#8 ops)

/-- A request frame with no data byte or an unknown kind code (R167, R195). -/
def execUnknownRequest (slot : SlotIx) (data : List Byte) (s : State) : Result :=
  .next (s.hearFrame fun x => x.takeRequestData slot data)

/-! ## Observation frames and ageing (R25 to R43): the identifier routes the frame (R38, log 13) -/

/-- A frame sent as ENGINE STATE (R30). -/
def execEngineState (id : CanId) (data : List Byte) (s : State) : Result := .next (s.observationFrame id data)

/-- A frame sent as DRIVELINE STATE (R27). -/
def execDrivelineState (id : CanId) (data : List Byte) (s : State) : Result := .next (s.observationFrame id data)

/-- A frame sent as DRIVELINE EVENT (R36). -/
def execDrivelineEvent (id : CanId) (data : List Byte) (s : State) : Result := .next (s.observationFrame id data)

/-- The first frame seen in PARKED, of any identifier (R187). -/
def execWakeFrame (s : State) : Result := .next (s.hearFrame id)

/-- A signal's age passes the fresh limit (R31). -/
def execSignalHeld (n : SignalName) (s : State) : Result := .next (if s.isRunning then s.passHeld n else s)

/-- A signal's age passes the hold limit (R33). -/
def execSignalUnknown (n : SignalName) (s : State) : Result :=
  .next
    (if s.isRunning then s.passUnknown n (max (s.intake.ageing n).age (s.settings.holdLimit + 1)) else s)

/-! ## Timers and lines -/

/-- The metering timer expires: it runs on for the next 100 ms, and one pass is made (R62, R64). -/
def execMeteringExpiry (s : State) : Result :=
  .next
    (if s.isRunning && s.meter.timer.isSome then
      State.meteringPass { s with meter := { s.meter with timer := some periodMs } }
    else s)

/-- CRANK changes to a level (R89); outside ACTIVE, in a reset and in a load only the level follows (R107, R108, R109). -/
def execCrankChange (asserted : Bool) (s : State) : Result :=
  .next
    (if s.lines.crank = asserted then s
    else if s.isRunning then s.crankLine asserted
    else { s with lines := { s.lines with crank := asserted } })

/-- The crank window expires (R96). -/
def execCrankWindowExpiry (s : State) : Result := .next (if s.isRunning then s.windowExpiry else s)

/-- The confirm timer expires (R98). -/
def execConfirmExpiry (s : State) : Result := .next (if s.isRunning then s.confirmDone else s)

/-- The stop timer expires (R101). -/
def execStopTimerExpiry (s : State) : Result := .next (if s.isRunning then s.stopDone else s)

/-- IGN becomes asserted; a PARKED part wakes (R187). -/
def execIgnAsserted (s : State) : Result :=
  .next
    (if s.lines.ign then s
    else
      let s1 : State := { s with lines := { s.lines with ign := true } }
      if s.time.mode == .parked && s.time.inReset.isNone then s1.wake else s1)

/-- A bulk enqueue of a checkpoint, made in READY and WRITING (R158). -/
def State.checkpointEnqueue (s : State) (rs : List RecordId) : State :=
  match s.store.state with
  | .ready | .writing => s.bulkEnqueue rs
  | .loading _ | .flushing | .offline => s

/-- IGN changes from asserted to released: the key-off checkpoint and the linger (R158, R185). -/
def execKeyOff (s : State) : Result :=
  .next
    (if s.lines.ign then
      let s1 : State := { s with lines := { s.lines with ign := false } }
      if s.isActive then (s1.checkpointEnqueue allRecords).restartLinger else s1
    else s)

/-- The checkpoint timer expires: it starts again from zero (R158). -/
def execPeriodicCheckpoint (s : State) : Result :=
  .next
    (if s.isActive then
      State.checkpointEnqueue { s with store := { s.store with checkpointMs := 0 } } accountRecords
    else s)

/-- The linger expires (R185, R186). -/
def execLingerExpiry (s : State) : Result :=
  .next
    (match s.time.linger with
      | some _ => State.parkCheck { s with time := { s.time with linger := none } }
      | none => s)

/-- A whole second of device time (R184). -/
def execDeviceTimeSecond (s : State) : Result :=
  .next
    (if s.time.inReset.isNone && s.time.mode != .dormant then
      { s with time := { s.time with deviceTime := addTo s.time.deviceTime 1, subSecondMs := 0 } }
    else s)

/-- A crystal monitor window ends (R182); the monitor runs in ACTIVE. -/
def execMonitorWindow (cycles : Nat) (s : State) : Result := .next (if s.isActive then s.windowEnd cycles else s)

/-! ## Store, supply and resets -/

/-- The write in flight completes, verified or not (R156, R159). -/
def execWriteCompletion (faulted : Bool) (s : State) : Result :=
  .next
    (match s.store.inFlight with
      | some w => s.writeDone w faulted
      | none => s)

/-- PFW becomes asserted (R161): taken outside a reset and DORMANT. -/
def execPfwAsserted (s : State) : Result :=
  .next
    (if s.lines.pfw then s
    else
      let s1 : State := { s with lines := { s.lines with pfw := true } }
      if s.time.inReset.isNone && s.time.mode != .dormant then s1.takePfw else s1)

/-- PFW becomes released: it ends DORMANT with a warm reset (R188), else the store takes it (R161, R162). -/
def execPfwReleased (s : State) : Result :=
  .next
    (if s.lines.pfw then
      let s1 : State := { s with lines := { s.lines with pfw := false } }
      if s.time.inReset.isSome then s1
      else if s.time.mode == .dormant then s1.beginReset .warm false
      else s1.dropPfw
    else s)

/-- The supply rises from below the power-on level (R189): the whole cold reset, ending in LOADING. -/
def execColdReset (straps : Straps) (cycles : Nat) (s : State) : Result :=
  .next (State.coldStart s.pending s.lines s.store.abandoned straps (windowSelection cycles))

/-- A brown-out above the power-on level: a warm reset begins (R189). -/
def execWarmReset (dip : Dip) (s : State) : Result := .next (s.beginReset .warm (dipSpoils dip))

/-- A warm or commanded reset ends (R183, R190, R191). -/
def execResetEnd (retentionGood recordGood : Bool) (cycles : Nat) (straps : Straps) (s : State) : Result :=
  .next
    (match s.time.inReset with
      | some r => s.finishReset r retentionGood recordGood cycles straps
      | none => s)

/-- The load ends (R154). -/
def execLoadEnd (s : State) : Result :=
  .next
    (match s.store.state, s.time.inReset with
      | .loading k, none => s.finishLoad k
      | _, _ => s)

/-! ## The port (R172, R178, R179) -/

/-- The frame a slot holds (R172). -/
def ClientSlot.heldFrame (c : ClientSlot) : Option Frame :=
  match c.inFlight with
  | some q =>
    match q.phase with
    | .held f => some f
    | .waiting _ _ => none
  | none => none

/-- A freed place given to the lowest slot that is HELD (R172). -/
def State.givePlace (s : State) : State :=
  match ([0, 1, 2, 3] : List SlotIx).find? fun i => (s.engine.slots[i].heldFrame).isSome with
  | some i =>
    match s.engine.slots[i].heldFrame with
    | some f => State.setInFlight { s with port := s.port.push f } i none
    | none => s
  | none => s

/-- The response of RESET DEVICE has been sent: the commanded reset begins, after the write in flight if there is one
(R178, R163). -/
def State.commandReset (s : State) : State :=
  match s.store.inFlight with
  | none => s.beginReset .commanded false
  | some _ => { s with engine := { s.engine with resetPending := false, resetDue := true } }

/-- The oldest frame leaves the queue, its place is given, and a frame that begins the commanded reset does so (R172,
R178). -/
def State.sendFrame (s : State) (f : Frame) (rest : List Frame) : State :=
  let s1 := State.givePlace { s with port := { s.port with tx := rest } }
  if f.startsReset && s.engine.resetPending then s1.commandReset else s1

/-- The oldest frame's transmission completes (R172). -/
def execTransmissionComplete (s : State) : Result :=
  .next
    (if s.onBus then
      match s.port.tx with
      | f :: rest => s.sendFrame f rest
      | [] => s
    else s)

/-- The network takes the port off the bus (R179); the abandonment of a pending reset may end the last hold (R186). -/
def execBusOff (s : State) : Result :=
  .next
    (if s.onBus then
      let s1 : State := { s.dropRequests with port := { tx := [], state := .busOff } }
      if s.engine.resetPending then
        State.parkCheck { s1 with engine := { s1.engine with resetPending := false } }
      else s1
    else s)

/-- Bus-off recovery completes (R179). -/
def execBusOffRecovery (s : State) : Result :=
  .next
    (if s.port.state == .busOff && s.time.mode != .dormant then
      { s with port := { s.port with state := .running } }
    else s)

end Sys2Proof.Machine
end

