-- ==== Sys2Proof/Machine/Tick.lean ====
section
/-! DEFINITION. One millisecond of time, which `step` lets pass on an empty queue in place of idling (DESIGN CHOICE, log 1),
and the expiries it puts into the queue in a fixed order (log 6). -/

namespace Sys2Proof.Machine

/-- A millisecond of age, in every class (R25). -/
def Ageing.older (g : Ageing) : Ageing := { g with age := g.age + 1 }

/-- A millisecond of age for every signal and the group. -/
def Intake.older (x : Intake) : Intake := signalNames.foldl (fun y n => y.setAgeing (y.ageing n).older n) x

/-- The ageing events of a signal that are due (R31). -/
def ageingDue (v : Settings) (x : Intake) (n : SignalName) : List Instr :=
  let g := x.ageing n
  match g.cls with
  | .unknown => []
  | .fresh =>
    if v.holdLimit < g.age then [.signalUnknown n] else if v.freshLimit < g.age then [.signalHeld n] else []
  | .held => if v.holdLimit < g.age then [.signalUnknown n] else []

/-- A millisecond of an attempt; the crank duration counts while the starter is known engaged (R102). -/
def Attempt.older (a : Attempt) (engaged : Bool) : Attempt :=
  { a with sinceOpenMs := a.sinceOpenMs + 1, durationMs := a.durationMs + engaged.toNat }

/-- A millisecond of the Qualifier's timers (R92). -/
def QualifierState.older (q : QualifierState) (engaged : Bool) : QualifierState :=
  match q with
  | .idle => .idle
  | .cranking a w => .cranking (a.older engaged) (w - 1)
  | .confirming a c => .confirming (a.older engaged) (c - 1)
  | .running stop => .running (stop.map (· - 1))

/-- The Qualifier's timer that is due. -/
def QualifierState.due (q : QualifierState) : List Instr :=
  match q with
  | .cranking _ 0 => [.crankWindowExpiry]
  | .confirming _ 0 => [.confirmExpiry]
  | .running (some 0) => [.stopTimerExpiry]
  | .idle | .cranking _ (_ + 1) | .confirming _ (_ + 1) | .running (some (_ + 1)) | .running none => []

/-- An event due when a countdown stands at 0. -/
def countdownDue (t : Option Nat) (c : Instr) : List Instr := if t = some 0 then [c] else []

/-- A millisecond of the current second (R184). -/
def State.tickSecond (s : State) : State := { s with time := { s.time with subSecondMs := s.time.subSecondMs + 1 } }

/-- A millisecond of the linger (R185). -/
def State.tickLinger (s : State) : State := { s with time := { s.time with linger := s.time.linger.map (· - 1) } }

/-- The second that is due. -/
def State.secondDue (s : State) : List Instr := if 1000 ≤ s.time.subSecondMs then [.deviceTimeSecond] else []

/-- A millisecond of every timer that runs in ACTIVE (R181). -/
def State.tickActive (s : State) : State :=
  { s with
    intake := s.intake.older
    qualifier :=
      { s.qualifier with
        state := s.qualifier.state.older (s.qualifier.latch && s.crankActiveNow == some true) }
    meter := { s.meter with timer := s.meter.timer.map (· - 1) }
    store := { s.store with checkpointMs := s.store.checkpointMs + 1 }
    time := { s.time with subSecondMs := s.time.subSecondMs + 1, linger := s.time.linger.map (· - 1) } }

/-- The expiry of the checkpoint timer that is due (R158). -/
def State.checkpointDue (s : State) : List Instr :=
  if s.settings.checkpointInterval * 60000 ≤ s.store.checkpointMs then [.periodicCheckpoint] else []

/-- What is due after a millisecond of ACTIVE, in the order of log 6. -/
def State.dueActive (s : State) : List Instr :=
  s.secondDue ++ signalNames.flatMap (ageingDue s.settings s.intake) ++ s.qualifier.state.due ++
    countdownDue s.meter.timer .meteringExpiry ++ s.checkpointDue ++ countdownDue s.time.linger .lingerExpiry

/-- Commands joining the queue at its newest end. -/
def State.enqueue (s : State) (cs : List Instr) : State := { s with pending := s.pending ++ cs }

/-- A millisecond of a load: ACTIVE with Intake, Meter, Qualifier and checkpoint timer not started (R154), device time and
linger running (R184, R185). -/
def State.tickLoading (s : State) : State := s.tickSecond.tickLinger

/-- What is due after a millisecond of a load, in the order of log 6. -/
def State.dueLoading (s : State) : List Instr := s.secondDue ++ countdownDue s.time.linger .lingerExpiry

/-- One millisecond: all timers in ACTIVE, device time and the linger during a load, device time alone in PARKED, nothing in
DORMANT or in a reset (R181, R184, R185). -/
def State.tick (s : State) : State :=
  if s.time.inReset.isSome || s.time.mode == .dormant then s
  else if s.isRunning then s.tickActive.enqueue s.tickActive.dueActive
  else if s.time.mode == .active then s.tickLoading.enqueue s.tickLoading.dueLoading
  else s.tickSecond.enqueue s.tickSecond.secondDue

end Sys2Proof.Machine
end

