-- ==== Sys2Proof/Machine/Dispatch.lean ====
section
/-! DEFINITION. Dispatch: one arm per constructor of Instr. -/

namespace Sys2Proof.Machine

def exec (i : Instr) (s : State) : Host.Outcome State Fault Refusal :=
  match i with
  | .status slot ops => Sys2Proof.Machine.execStatus slot ops s
  | .read slot ops => Sys2Proof.Machine.execRead slot ops s
  | .next slot ops => Sys2Proof.Machine.execNext slot ops s
  | .openRental slot ops => Sys2Proof.Machine.execOpenRental slot ops s
  | .closeRental slot ops => Sys2Proof.Machine.execCloseRental slot ops s
  | .markExported slot ops => Sys2Proof.Machine.execMarkExported slot ops s
  | .ackAlert slot ops => Sys2Proof.Machine.execAckAlert slot ops s
  | .serviceReset slot ops => Sys2Proof.Machine.execServiceReset slot ops s
  | .restoreField slot ops => Sys2Proof.Machine.execRestoreField slot ops s
  | .restoreDone slot ops => Sys2Proof.Machine.execRestoreDone slot ops s
  | .bandPrimary slot ops => Sys2Proof.Machine.execBandPrimary slot ops s
  | .bandSecondary slot ops => Sys2Proof.Machine.execBandSecondary slot ops s
  | .bandWeight slot ops => Sys2Proof.Machine.execBandWeight slot ops s
  | .bandLock slot ops => Sys2Proof.Machine.execBandLock slot ops s
  | .writeSetting slot ops => Sys2Proof.Machine.execWriteSetting slot ops s
  | .checkpoint slot ops => Sys2Proof.Machine.execCheckpoint slot ops s
  | .resetDevice slot ops => Sys2Proof.Machine.execResetDevice slot ops s
  | .unknownRequest slot data => Sys2Proof.Machine.execUnknownRequest slot data s
  | .engineState id data => Sys2Proof.Machine.execEngineState id data s
  | .drivelineState id data => Sys2Proof.Machine.execDrivelineState id data s
  | .drivelineEvent id data => Sys2Proof.Machine.execDrivelineEvent id data s
  | .wakeFrame => Sys2Proof.Machine.execWakeFrame s
  | .signalHeld signal => Sys2Proof.Machine.execSignalHeld signal s
  | .signalUnknown signal => Sys2Proof.Machine.execSignalUnknown signal s
  | .meteringExpiry => Sys2Proof.Machine.execMeteringExpiry s
  | .crankChange asserted => Sys2Proof.Machine.execCrankChange asserted s
  | .crankWindowExpiry => Sys2Proof.Machine.execCrankWindowExpiry s
  | .confirmExpiry => Sys2Proof.Machine.execConfirmExpiry s
  | .stopTimerExpiry => Sys2Proof.Machine.execStopTimerExpiry s
  | .ignAsserted => Sys2Proof.Machine.execIgnAsserted s
  | .keyOff => Sys2Proof.Machine.execKeyOff s
  | .periodicCheckpoint => Sys2Proof.Machine.execPeriodicCheckpoint s
  | .lingerExpiry => Sys2Proof.Machine.execLingerExpiry s
  | .writeCompletion faulted => Sys2Proof.Machine.execWriteCompletion faulted s
  | .pfwAsserted => Sys2Proof.Machine.execPfwAsserted s
  | .pfwReleased => Sys2Proof.Machine.execPfwReleased s
  | .monitorWindow cycles => Sys2Proof.Machine.execMonitorWindow cycles s
  | .deviceTimeSecond => Sys2Proof.Machine.execDeviceTimeSecond s
  | .coldReset straps cycles => Sys2Proof.Machine.execColdReset straps cycles s
  | .warmReset dip => Sys2Proof.Machine.execWarmReset dip s
  | .resetEnd retentionGood recordGood cycles straps => Sys2Proof.Machine.execResetEnd retentionGood recordGood cycles straps s
  | .loadEnd => Sys2Proof.Machine.execLoadEnd s
  | .transmissionComplete => Sys2Proof.Machine.execTransmissionComplete s
  | .busOff => Sys2Proof.Machine.execBusOff s
  | .busOffRecovery => Sys2Proof.Machine.execBusOffRecovery s

end Sys2Proof.Machine
end

