-- ==== Sys2Proof/Safety.lean ====
section
/-! DEFINITION. What the claims speak of: the facts of the part that no step breaks, and the conditions under which it takes a
request. -/

namespace Sys2Proof.Machine

/-! ## Facts that no step breaks -/

/-- The transmit queue holds at most 8 frames (R172). -/
def State.txBounded (s : State) : Prop := s.port.tx.length ≤ txPlaces

/-- The start history ring holds at most 16 entries (R105). -/
def State.ringBounded (s : State) : Prop := s.qualifier.ring.length ≤ ringPlaces

/-- Fractional credit below 288,000, and a revolution remainder, if any, below 600 (R7). -/
def Account.inScale (a : Account) : Prop := a.credit < creditScale ∧ ∀ r, a.revRemainder = some r → r < revolutionScale

/-- A record content whose account, if it is one, is within the scale. -/
def RecordContent.inScale (c : RecordContent) : Prop := ∀ i a, c = .account i a → a.inScale

/-- Every working copy, every stored image and the image in flight within the scale (R7). -/
def State.remaindersInScale (s : State) : Prop :=
  (∀ i : AccountIx, (s.account i).inScale) ∧
    (∀ k : Fin 46, ∀ c, s.store.array[k] = .whole c → c.inScale) ∧ ∀ w, s.store.inFlight = some w → w.image.inScale

/-- The limits of one oil signal in order (R74). -/
def OilLimits.ordered (l : OilLimits) : Prop := l.cold ≤ l.hot ∧ l.hot ≤ l.critical

/-- Fresh limit at most the hold limit (R32), and both oils' limits in order (R74). -/
def Settings.ordered (v : Settings) : Prop :=
  v.freshLimit ≤ v.holdLimit ∧ v.engineOil.ordered ∧ v.transmissionOil.ordered

/-- A record content whose settings, if it is record 5, are in order. -/
def RecordContent.ordered (c : RecordContent) : Prop := ∀ v, c = .settings v → v.ordered

/-- The working settings, every stored image and the image in flight in order (R32, R74). -/
def State.settingsOrdered (s : State) : Prop :=
  s.settings.ordered ∧ (∀ k : Fin 46, ∀ c, s.store.array[k] = .whole c → c.ordered) ∧
    ∀ w, s.store.inFlight = some w → w.image.ordered

/-- At most one segment of the log is OPEN (R111). -/
def State.oneOpen (s : State) : Prop := (s.log.entries.countP fun e => e.seg.state == .opened) ≤ 1

/-- Every segment of the log has a slot of its own, so that there are at most 24 (R111). -/
def State.slotsDistinct (s : State) : Prop := (s.log.entries.map LogEntry.slot).Nodup

/-- The alert set holds at most one entry of a pair (R134). -/
def State.pairsDistinct (s : State) : Prop := (s.alerts.entries.map AlertEntry.pair).Nodup

/-- The write queue never holds a record twice (R155). -/
def State.queueDistinct (s : State) : Prop := s.store.queue.Nodup

/-- What a store state says of the queue and the write in flight (R152): nothing in flight and nothing queued in a reset;
READY and OFFLINE likewise; WRITING has a write in flight; FLUSHING has one until DORMANT, and an empty queue. -/
def State.storeCoherent (s : State) : Prop :=
  match s.time.inReset, s.store.state with
  | some _, _ => s.store.queue = [] ∧ s.store.inFlight = none
  | none, .loading _ => s.store.inFlight = none
  | none, .ready => s.store.queue = [] ∧ s.store.inFlight = none
  | none, .writing => s.store.inFlight.isSome = true
  | none, .flushing => s.store.queue = [] ∧ (s.store.inFlight.isSome = true ∨ s.time.mode = .dormant)
  | none, .offline => s.store.queue = [] ∧ s.store.inFlight = none

/-- The metering timer and the linger run in ACTIVE only, outside a reset (R62, R185); in a reset and in a load the mode is
ACTIVE (R185). -/
def State.timersCoherent (s : State) : Prop :=
  (s.meter.timer.isSome = true → s.time.mode = .active ∧ s.time.inReset = none) ∧
    (s.time.linger.isSome = true → s.time.mode = .active ∧ s.time.inReset = none) ∧
    (s.time.inReset.isSome = true → s.time.mode = .active) ∧ (s.store.isLoading = true → s.time.mode = .active)

/-! ## What a command leaves unchanged -/

/-- The parts of the state. -/
inductive Part
  | pending | lines | port | intake | settings | bands | meter | accounts | qualifier | log | alerts | store | engine | time
  deriving DecidableEq, Repr

/-- Two states agree on a part. -/
def Part.same (s t : State) : Part → Prop
  | .pending => t.pending = s.pending
  | .lines => t.lines = s.lines
  | .port => t.port = s.port
  | .intake => t.intake = s.intake
  | .settings => t.settings = s.settings
  | .bands => t.bands = s.bands
  | .meter => t.meter = s.meter
  | .accounts => t.accounts = s.accounts
  | .qualifier => t.qualifier = s.qualifier
  | .log => t.log = s.log
  | .alerts => t.alerts = s.alerts
  | .store => t.store = s.store
  | .engine => t.engine = s.engine
  | .time => t.time = s.time

/-- From s to t nothing changes outside the parts named. -/
def State.changesOnly (s t : State) (parts : List Part) : Prop := ∀ p, p ∉ parts → p.same s t

/-- Account copies other than i are as they were; a write that begins may stamp its own account's last write time (R9). -/
def State.keepsOtherAccounts (s t : State) (i : AccountIx) : Prop :=
  ∀ j, j ≠ i → t.account j = s.account j

/-- The request a command carries: slot, kind code and operand bytes (R194). -/
def requestOf : Instr → Option (SlotIx × Byte × List Byte)
  | .status slot ops => some (slot, 0x01#8, ops)
  | .read slot ops => some (slot, 0x02#8, ops)
  | .next slot ops => some (slot, 0x03#8, ops)
  | .openRental slot ops => some (slot, 0x10#8, ops)
  | .closeRental slot ops => some (slot, 0x11#8, ops)
  | .markExported slot ops => some (slot, 0x12#8, ops)
  | .ackAlert slot ops => some (slot, 0x18#8, ops)
  | .serviceReset slot ops => some (slot, 0x20#8, ops)
  | .restoreField slot ops => some (slot, 0x21#8, ops)
  | .restoreDone slot ops => some (slot, 0x22#8, ops)
  | .bandPrimary slot ops => some (slot, 0x30#8, ops)
  | .bandSecondary slot ops => some (slot, 0x31#8, ops)
  | .bandWeight slot ops => some (slot, 0x32#8, ops)
  | .bandLock slot ops => some (slot, 0x33#8, ops)
  | .writeSetting slot ops => some (slot, 0x40#8, ops)
  | .checkpoint slot ops => some (slot, 0x50#8, ops)
  | .resetDevice slot ops => some (slot, 0x5A#8, ops)
  | .unknownRequest _ _ | .engineState _ _ | .drivelineState _ _ | .drivelineEvent _ _ | .wakeFrame | .signalHeld _
  | .signalUnknown _ | .meteringExpiry | .crankChange _ | .crankWindowExpiry | .confirmExpiry | .stopTimerExpiry
  | .ignAsserted | .keyOff | .periodicCheckpoint | .lingerExpiry | .writeCompletion _ | .pfwAsserted | .pfwReleased
  | .monitorWindow _ | .deviceTimeSecond | .coldReset _ _ | .warmReset _ | .resetEnd _ _ _ _ | .loadEnd
  | .transmissionComplete | .busOff | .busOffRecovery => none

/-- The commands that are frames on the network. -/
def isFrame : Instr → Bool
  | .unknownRequest _ _ | .engineState _ _ | .drivelineState _ _ | .drivelineEvent _ _ | .wakeFrame => true
  | c => (requestOf c).isSome

/-! ## When a request is executed -/

/-- A request from this slot is executed: the part ACTIVE on the bus, the slot IDLE (R167). -/
def State.hears (s : State) (slot : SlotIx) : Prop :=
  s.onBus = true ∧ s.time.mode = .active ∧ s.engine.slots[slot].inFlight = none

/-- A change is handed for writing and its response deferred: the store READY with nothing queued, or WRITING (R155). -/
def State.defers (s : State) : Prop :=
  (s.store.state = .ready ∧ s.store.queue = [] ∧ s.store.inFlight = none) ∨
    (s.store.state = .writing ∧ s.store.inFlight.isSome = true)

/-- What waits in a slot: the request, the payload of its deferred response, and one wait for each of these records: for the
write in flight where that began after the record's latest change, else for one that has still to begin (R157, R170). -/
def State.waitsWith (s : State) (slot : SlotIx) (kind : Byte) (payload : List Byte) (records : List RecordId) : Prop :=
  ∃ ops,
    s.engine.slots[slot].inFlight =
      some
        { kind := kind, ops := ops,
          phase := .waiting (records.map fun r => { record := r, begun := s.store.inFlightCovers r }) payload }

/-- From s to t both threshold conditions of account i were evaluated (R16): each is true exactly when its threshold is set
and since-service wear has reached it, and one that changed is reported to the Alert Unit. -/
def State.thresholdsSettled (s t : State) (i : AccountIx) : Prop :=
  let a := t.account i
  t.accounts.serviceDue[i] = decide (a.serviceThreshold ≠ 0 ∧ a.serviceThreshold ≤ a.ssWear) ∧
    t.accounts.lifeLimit[i] = decide (a.lifeThreshold ≠ 0 ∧ a.lifeThreshold ≤ a.ssWear) ∧
    (t.accounts.serviceDue[i] ≠ s.accounts.serviceDue[i] →
      t.alerts.holds (accountPair i .serviceDue) = t.accounts.serviceDue[i]) ∧
    (t.accounts.lifeLimit[i] ≠ s.accounts.lifeLimit[i] →
      t.alerts.holds (accountPair i .lifeLimit) = t.accounts.lifeLimit[i])

/-- From s to t neither threshold condition of account i changed. -/
def State.thresholdsStand (s t : State) (i : AccountIx) : Prop :=
  t.accounts.serviceDue[i] = s.accounts.serviceDue[i] ∧ t.accounts.lifeLimit[i] = s.accounts.lifeLimit[i]

/-- The state with the linger restarted and one response in the transmit queue (R170, R185). -/
def State.responded (s : State) (slot : SlotIx) (kind : Byte) (o : ReqOutcome) (payload : List Byte) : State :=
  { s with
    time := { s.time with linger := some lingerMs }
    port := { s.port with tx := s.port.tx ++ [responseFrame s.time.straps slot kind o payload false] } }

end Sys2Proof.Machine
end

