-- ==== Sys2Proof/WellFormed.lean ====
section
/-! DEFINITION. Which terms of Instr a classical data frame can carry (R192): at most 8 data bytes, of which a request
spends one on its kind code, and an unknown request whose first byte, if any, is no kind code of R194. -/

namespace Sys2Proof

/-- The kind codes of the seventeen request kinds (R194). -/
def kindCodes : List Nat :=
  [0x01, 0x02, 0x03, 0x10, 0x11, 0x12, 0x18, 0x20, 0x21, 0x22, 0x30, 0x31, 0x32, 0x33, 0x40, 0x50, 0x5A]

/-- Operand bytes behind a kind code: at most seven (R192, R194). -/
def operandsFit (ops : List Byte) : Bool := ops.length ≤ 7

/-- The data bytes of one frame: at most eight (R192). -/
def dataFits (data : List Byte) : Bool := data.length ≤ 8

/-- An unknown request has no data byte or an unknown kind code (R167). -/
def kindUnknown : List Byte → Bool
  | [] => true
  | k :: _ => !kindCodes.contains k.toNat

/-- The commands a frame, a line or a timer can give. -/
def Instr.wellFormed : Instr → Bool
  | .status _ ops | .read _ ops | .next _ ops | .openRental _ ops | .closeRental _ ops | .markExported _ ops
  | .ackAlert _ ops | .serviceReset _ ops | .restoreField _ ops | .restoreDone _ ops | .bandPrimary _ ops
  | .bandSecondary _ ops | .bandWeight _ ops | .bandLock _ ops | .writeSetting _ ops | .checkpoint _ ops
  | .resetDevice _ ops => operandsFit ops
  | .unknownRequest _ data => dataFits data && kindUnknown data
  | .engineState _ data | .drivelineState _ data | .drivelineEvent _ data => dataFits data
  | .wakeFrame | .signalHeld _ | .signalUnknown _ | .meteringExpiry | .crankChange _ | .crankWindowExpiry
  | .confirmExpiry | .stopTimerExpiry | .ignAsserted | .keyOff | .periodicCheckpoint | .lingerExpiry
  | .writeCompletion _ | .pfwAsserted | .pfwReleased | .monitorWindow _ | .deviceTimeSecond | .coldReset _ _
  | .warmReset _ | .resetEnd _ _ _ _ | .loadEnd | .transmissionComplete | .busOff | .busOffRecovery => true

end Sys2Proof
end

