-- ==== Sys2Proof/Certificates/Slice0/Obligations.lean ====
section
/-! DEFINITION. The statements for the provers. Each names the rules of spec/ it rests on; OBLIGATIONS.json says which it
states whole. -/

open Sys2Proof Sys2Proof.Machine

/-! ## Steps and the queue -/

/-- A command at the front of the queue is the one a step runs, with the queue's rest. -/
def Obligations.StepRunsFrontCommand : Prop :=
  ∀ (c : Instr) (s : State), step { s with pending := c :: s.pending } = exec c s

/-- Every command answers a next state and leaves the queue to `step`: nothing in the manual stops the part. -/
def Obligations.EveryCommandAnswersNext : Prop :=
  ∀ (c : Instr) (s : State), ∃ t, exec c s = .next t ∧ t.pending = s.pending

/-- The model's choice (log 1): on an empty queue a millisecond passes, and the expiries that fall due join the queue, in the
order of log 6, which is not stated here. In a reset and in DORMANT nothing changes; in PARKED the sub-second count alone
counts (R184); in a load the linger too (R185). Outside a load in ACTIVE every age (R25), the Qualifier's timer (R92, R102),
the metering timer (R62), the checkpoint timer (R158), the linger and the sub-second count do, and each due one queues its own
event: a FRESH signal past the fresh limit, one past the hold limit (R31, R33), a countdown at 0, a whole second. -/
def Obligations.EmptyQueueLetsTimePass : Prop :=
  ∀ s : State, s.pending = [] →
    (s.time.inReset.isSome = true ∨ s.time.mode = .dormant → step s = .next s) ∧
      (s.time.inReset = none ∧ s.time.mode = .parked →
        step s =
          .next
            { s with
              time := { s.time with subSecondMs := s.time.subSecondMs + 1 }
              pending := if 1000 ≤ s.time.subSecondMs + 1 then [.deviceTimeSecond] else [] }) ∧
      (s.time.inReset = none ∧ s.time.mode = .active ∧ s.store.isLoading = true →
        ∃ t, step s = .next t ∧
          t.time = { s.time with subSecondMs := s.time.subSecondMs + 1, linger := s.time.linger.map (· - 1) } ∧
          t.pending.Nodup ∧
          (∀ c, c ∈ t.pending ↔
            (c = .deviceTimeSecond ∧ 1000 ≤ t.time.subSecondMs) ∨ (c = .lingerExpiry ∧ t.time.linger = some 0)) ∧
          s.changesOnly t [.pending, .time]) ∧
      (s.isRunning = true →
        let cranked := if s.qualifier.latch = true ∧ s.crankActiveNow = some true then 1 else 0
        let older (a : Attempt) : Attempt :=
          { a with sinceOpenMs := a.sinceOpenMs + 1, durationMs := a.durationMs + cranked }
        ∃ t, step s = .next t ∧
          (∀ n, t.intake.ageing n = { s.intake.ageing n with age := (s.intake.ageing n).age + 1 }) ∧
          (∀ m, t.intake.metric m = s.intake.metric m) ∧
          t.intake.starterStatus.known = s.intake.starterStatus.known ∧
          t.intake.clutchState.known = s.intake.clutchState.known ∧
          t.intake.shiftBaseline = s.intake.shiftBaseline ∧
          t.intake.engagementBaseline = s.intake.engagementBaseline ∧
          t.qualifier =
            { s.qualifier with
              state :=
                match s.qualifier.state with
                | .idle => .idle
                | .cranking a left => .cranking (older a) (left - 1)
                | .confirming a left => .confirming (older a) (left - 1)
                | .running stop => .running (stop.map (· - 1)) } ∧
          t.meter = { s.meter with timer := s.meter.timer.map (· - 1) } ∧
          t.store = { s.store with checkpointMs := s.store.checkpointMs + 1 } ∧
          t.time = { s.time with subSecondMs := s.time.subSecondMs + 1, linger := s.time.linger.map (· - 1) } ∧
          t.pending.Nodup ∧
          (∀ c, c ∈ t.pending ↔
            match c with
            | .deviceTimeSecond => 1000 ≤ t.time.subSecondMs
            | .signalHeld n =>
              (t.intake.ageing n).cls = .fresh ∧ s.settings.freshLimit < (t.intake.ageing n).age ∧
                (t.intake.ageing n).age ≤ s.settings.holdLimit
            | .signalUnknown n =>
              (t.intake.ageing n).cls ≠ .unknown ∧ s.settings.holdLimit < (t.intake.ageing n).age
            | .crankWindowExpiry => ∃ a, t.qualifier.state = .cranking a 0
            | .confirmExpiry => ∃ a, t.qualifier.state = .confirming a 0
            | .stopTimerExpiry => t.qualifier.state = .running (some 0)
            | .meteringExpiry => t.meter.timer = some 0
            | .periodicCheckpoint => s.settings.checkpointInterval * 60000 ≤ t.store.checkpointMs
            | .lingerExpiry => t.time.linger = some 0
            | _ => False) ∧
          s.changesOnly t [.pending, .intake, .qualifier, .meter, .store, .time])

/-! ## Reset and the facts no step breaks -/

/-- What a cold reset leaves, block by block: store, Intake, Meter, Qualifier, Alert Unit, port, Request Engine, mode and linger
(R164, R180, R44, R86, R109, R149, R185). The array of a new part, the lines and the straps are the model's choice (log 2), and
so is what the Account Table, the Band Table, the Segment Log and the working settings hold until the load forms them: the
values of a BLANK load (log 3). -/
def Obligations.ResetLeavesInitialState : Prop :=
  State.reset.pending = [] ∧ State.reset.store.state = .loading .cold ∧ State.reset.store.queue = [] ∧
    State.reset.store.inFlight = none ∧ State.reset.store.settingsSuspect = false ∧
    State.reset.store.checkpointMs = 0 ∧ State.reset.store.array = Vector.replicate 46 .blank ∧
    State.reset.intake = Intake.afterReset ∧ State.reset.meter.timer = none ∧
    (∀ i : AccountIx, State.reset.meter.lastWinner[i] = none ∧ State.reset.meter.unobservedNow[i] = false) ∧
    State.reset.qualifier.state = .idle ∧ State.reset.qualifier.latch = false ∧ State.reset.qualifier.failures = 0 ∧
    State.reset.qualifier.ring = [] ∧ State.reset.alerts.entries = [] ∧ State.reset.alerts.heldTrue = [] ∧
    State.reset.alerts.suspects = [] ∧ State.reset.alrt = false ∧ State.reset.port.tx = [] ∧
    State.reset.port.state = .running ∧ State.reset.engine.restore = none ∧
    State.reset.engine.resetPending = false ∧
    (∀ k : SlotIx, State.reset.engine.slots[k].inFlight = none ∧ State.reset.engine.slots[k].buffer = none) ∧
    State.reset.time.mode = .active ∧ State.reset.time.inReset = none ∧ State.reset.time.linger = some 30000 ∧
    State.reset.time.goodWindows = 0 ∧ State.reset.time.subSecondMs = 0 ∧
    (∀ i : AccountIx,
      State.reset.account i = Account.blank i ∧ State.reset.accounts.serviceDue[i] = false ∧
        State.reset.accounts.lifeLimit[i] = false) ∧
    (∀ k : Fin 16,
      State.reset.bands.entries[k] = BandEntry.blank ∧ State.reset.bands.suspect[k] = false) ∧
    State.reset.log.entries = [] ∧ State.reset.log.nearFull = false ∧ State.reset.settings = Settings.default

/-- The facts below hold of the state after reset (R172, R105, R7, R74, R111, R134, R155, R152, R185). -/
def Obligations.ResetMeetsEveryFact : Prop :=
  State.reset.txBounded ∧ State.reset.ringBounded ∧ State.reset.remaindersInScale ∧ State.reset.settingsOrdered ∧
    State.reset.oneOpen ∧ State.reset.slotsDistinct ∧ State.reset.pairsDistinct ∧ State.reset.queueDistinct ∧
    State.reset.storeCoherent ∧ State.reset.timersCoherent

/-- The transmit queue holds at most 8 frames (R172), and the start history at most 16 entries (R105). -/
def Obligations.QueueAndHistoryStayBounded : Prop :=
  (∀ s t : State, s.txBounded → step s = .next t → t.txBounded) ∧
    ∀ s t : State, s.ringBounded → step s = .next t → t.ringBounded

/-- In every working copy, stored image and write in flight: F lies in 0..287,999 and the revolution remainder in 0..599
(R7); the fresh limit is at most the hold limit and cold ≤ hot ≤ critical of both oils (R32, R74). -/
def Obligations.StoredValuesStayInRange : Prop :=
  (∀ s t : State, s.remaindersInScale → step s = .next t → t.remaindersInScale) ∧
    ∀ s t : State, s.settingsOrdered → step s = .next t → t.settingsOrdered

/-- At most one segment of the log is OPEN, and each occupies one slot of its own, so that there are at most 24 (R111). -/
def Obligations.SegmentLogStaysSound : Prop :=
  (∀ s t : State, s.oneOpen → step s = .next t → t.oneOpen) ∧
    (∀ s t : State, s.slotsDistinct → step s = .next t → t.slotsDistinct) ∧
    ∀ s : State, s.slotsDistinct → s.log.entries.length ≤ 24

/-- The alert set holds at most one entry per source–cause pair (R134), and the store write queue never the same record id
twice (R155). -/
def Obligations.PairsAndQueueStayDistinct : Prop :=
  (∀ s t : State, s.pairsDistinct → step s = .next t → t.pairsDistinct) ∧
    ∀ s t : State, s.queueDistinct → step s = .next t → t.queueDistinct

/-- READY and OFFLINE have nothing queued or in flight, WRITING has a write in flight, FLUSHING has one until DORMANT (R152,
R156, R161); the metering timer and the linger run in ACTIVE only (R62, R185). -/
def Obligations.StoreAndTimersStayCoherent : Prop :=
  (∀ s t : State, s.storeCoherent → step s = .next t → t.storeCoherent) ∧
    ∀ s t : State, s.storeCoherent → s.timersCoherent → step s = .next t → t.timersCoherent

/-- Once an entry is locked it stays locked through every command but a cold reset and the end of a load, and every edit of it
is refused LOCKED and changes nothing (R58). -/
def Obligations.LockedEntryIsPermanent : Prop :=
  (∀ (c : Instr) (s t : State) (k : Fin 16), c ≠ .loadEnd → (∀ straps cycles, c ≠ .coldReset straps cycles) →
      s.bands.entries[k].locked = true → exec c s = .next t → t.bands.entries[k].locked = true) ∧
    ∀ (s : State) (k : Fin 16), s.bands.entries[k].locked = true → s.hears 3 → s.atRest = true →
      s.port.hasRoom = true →
        (∀ (m l1 l0 h1 h0 : Byte) (metric : Metric), metricOfCode m.toNat = some metric →
          exec (.bandPrimary 3 [byteOf k.val, m, l1, l0, h1, h0]) s = .next (s.responded 3 0x30#8 .locked []) ∧
            exec (.bandSecondary 3 [byteOf k.val, m, l1, l0, h1, h0]) s =
              .next (s.responded 3 0x31#8 .locked [])) ∧
          exec (.bandSecondary 3 [byteOf k.val, 0xFF#8]) s = .next (s.responded 3 0x31#8 .locked []) ∧
          ∀ (a c b w1 w0 n : Byte) (w : WeightPart),
            weightPartOf a.toNat c.toNat b.toNat (nat16 w1 w0) n.toNat = some w →
              exec (.bandWeight 3 [byteOf k.val, a, c, b, w1, w0, n]) s = .next (s.responded 3 0x32#8 .locked [])

/-! ## Credits and the metering pass (R12, R55, R64 to R79) -/

/-- Two credits posted to one account in either order leave the same F, wear and saturation (R12); k credits of N add the
whole part of (F + k × N) / 288,000 units and leave the remainder (R78). -/
def Obligations.CreditsAddInAnyOrder : Prop :=
  (∀ (a : Account) (m n : Nat), (a.addCredit m).addCredit n = (a.addCredit n).addCredit m) ∧
    ∀ (a : Account) (n k : Nat), a.credit < 288000 → a.wear ≤ 4294967295 → a.ssWear ≤ 4294967295 →
      ((fun x : Account => x.addCredit n)^[k] a).credit = (a.credit + k * n) % 288000 ∧
        ((fun x : Account => x.addCredit n)^[k] a).wear = min (a.wear + (a.credit + k * n) / 288000) 4294967295 ∧
        ((fun x : Account => x.addCredit n)^[k] a).ssWear =
          min (a.ssWear + (a.credit + k * n) / 288000) 4294967295

/-- At an expiry each active account gains one period of active time, each undeterminable one with IGN asserted one of
unobserved time, and no other account's times change (R13, R68, R76). Output speed v known adds v to the
revolution remainder and its whole 600s to the count; UNKNOWN leaves both (R79). -/
def Obligations.MeteringCountsPeriods : Prop :=
  ∀ s : State, s.isRunning = true → s.meter.timer.isSome = true →
    ∃ t, exec .meteringExpiry s = .next t ∧ t.meter.timer = some 100 ∧
      (∀ i : AccountIx,
        match activity s.settings s.lines.crank s.intake i with
        | some true =>
          (t.account i).activeTime = min ((s.account i).activeTime + 1) 4294967295 ∧
            (t.account i).ssActiveTime = min ((s.account i).ssActiveTime + 1) 4294967295 ∧
            (t.account i).unobserved = (s.account i).unobserved
        | some false =>
          (t.account i).activeTime = (s.account i).activeTime ∧
            (t.account i).ssActiveTime = (s.account i).ssActiveTime ∧
            (t.account i).unobserved = (s.account i).unobserved
        | none =>
          (t.account i).activeTime = (s.account i).activeTime ∧
            (t.account i).ssActiveTime = (s.account i).ssActiveTime ∧
            (t.account i).unobserved =
              if s.lines.ign then min ((s.account i).unobserved + 1) 4294967295 else (s.account i).unobserved) ∧
      match s.intake.outputSpeed.known, (s.account 4).revRemainder with
      | some v, some r =>
        (t.account 4).revRemainder = some ((r + v.toNat) % 600) ∧
          (t.account 4).revolutions =
            (s.account 4).revolutions.map fun n => min (n + (r + v.toNat) / 600) 4294967295
      | _, _ =>
        (t.account 4).revRemainder = (s.account 4).revRemainder ∧
          (t.account 4).revolutions = (s.account 4).revolutions

/-- The period credit of an account (R50, R77): the selected weight × the period multiplier in an active period, the
fallback weight × 8 in an unobserved one, else none. Of the bins the selected one gains 1 in an active period (R76). The
selection is made with every staged part active (R55). A credit that carries a whole unit has both threshold conditions of the
account evaluated, SERVICE_DUE and LIFE_LIMIT, and a changed one reported (R12, R16); any other leaves them. -/
def Obligations.MeteringCreditsWear : Prop :=
  ∀ s : State, s.isRunning = true → s.meter.timer.isSome = true →
    ∃ t, exec .meteringExpiry s = .next t ∧
      ∀ i : AccountIx,
        let es := s.bands.entries.map BandEntry.activated
        let credited (n : Nat) : Prop :=
          (t.account i).credit = ((s.account i).credit + n) % 288000 ∧
            (t.account i).wear = min ((s.account i).wear + ((s.account i).credit + n) / 288000) 4294967295 ∧
            (t.account i).ssWear = min ((s.account i).ssWear + ((s.account i).credit + n) / 288000) 4294967295 ∧
            if ((s.account i).credit + n) / 288000 = 0 then s.thresholdsStand t i else s.thresholdsSettled t i
        let rested : Prop :=
          (t.account i).credit = (s.account i).credit ∧ (t.account i).wear = (s.account i).wear ∧
            (t.account i).ssWear = (s.account i).ssWear ∧ (t.account i).bins = (s.account i).bins ∧
            s.thresholdsStand t i
        match activity s.settings s.lines.crank s.intake i with
        | some true =>
          let w := winner es s.intake i
          let b := selectedBin es w
          credited
              (selectedWeight es (s.account i).baseWeight w * periodMultiplier s.settings s.intake i) ∧
            (t.account i).bins = (s.account i).bins.set b (min ((s.account i).bins[b] + 1) 4294967295)
        | some false => rested
        | none =>
          if s.lines.ign then
            credited ((s.account i).fallbackWeight * 8) ∧ (t.account i).bins = (s.account i).bins
          else rested

/-- Every staged part becomes active at the expiry, and its entry's record is marked changed (R55, R56). What a pass leaves
unchanged: it touches the Meter, the accounts, the alert set with its notices, the flag UNOBSERVED of the OPEN segment (R69),
the store and, where a part was staged, the bands and the waits of the slots; with no part staged it queues no write (R84). -/
def Obligations.MeteringActivatesAndKeepsRest : Prop :=
  ∀ s : State, s.isRunning = true → s.meter.timer.isSome = true →
    let unflagged (e : LogEntry) : LogEntry :=
      { e with seg := { e.seg with flags := { e.seg.flags with unobserved := false } } }
    ∃ t, exec .meteringExpiry s = .next t ∧
      (∀ k : Fin 16,
        let e := s.bands.entries[k]
        t.bands.entries[k] =
            { e with
              primary := e.stagedPrimary.getD e.primary
              secondary := e.stagedSecondary.getD e.secondary
              weightPart := e.stagedWeight.getD e.weightPart
              stagedPrimary := none
              stagedSecondary := none
              stagedWeight := none } ∧
          (e.hasStaged = true → t.store.isChanged (.band k) = true)) ∧
      s.changesOnly t [.meter, .accounts, .alerts, .port, .log, .store, .bands, .engine] ∧
      ((∀ k : Fin 16, s.bands.entries[k].hasStaged = false) →
        s.changesOnly t [.meter, .accounts, .alerts, .port, .log, .store] ∧ t.store.queue = s.store.queue) ∧
      t.store.array = s.store.array ∧ t.log.nearFull = s.log.nearFull ∧
      t.log.entries.map unflagged = s.log.entries.map unflagged ∧
      ∀ (n : Nat) (e f : LogEntry), s.log.entries[n]? = some e → t.log.entries[n]? = some f →
        (e.seg.flags.unobserved = true → f = e) ∧ (s.slotsDistinct → e.seg.state ≠ .opened → f = e)

/-- An EXCURSION winner other than the last winning entry is raised with its index, and becomes the last winning entry
(R72). The first unobserved period of a run sets the flag and reports UNOBSERVED true, and each sets UNOBSERVED on an OPEN
segment (R69). -/
def Obligations.MeteringRaisesAlerts : Prop :=
  ∀ (s : State) (i : AccountIx), s.isRunning = true → s.meter.timer.isSome = true →
    (∀ k : Fin 16, activity s.settings s.lines.crank s.intake i = some true →
      winner (s.bands.entries.map BandEntry.activated) s.intake i = some k →
      s.bands.entries[k].activated.weightPart.cls = .excursion → s.meter.lastWinner[i] ≠ some k →
        ∃ t e, exec .meteringExpiry s = .next t ∧ t.meter.lastWinner[i] = some k ∧
          t.alerts.entry (accountPair i .excursion) = some e ∧ e.parameter = some (byteOf k.val) ∧
          e.latest = s.time.deviceTime ∧ e.state = .pending) ∧
      (activity s.settings s.lines.crank s.intake i = none → s.lines.ign = true →
        ∃ t, exec .meteringExpiry s = .next t ∧ t.meter.unobservedNow[i] = true ∧
          (s.meter.unobservedNow[i] = false → t.alerts.holds (accountPair i .unobserved) = true) ∧
          ∀ e, t.log.openEntry = some e → e.seg.flags.unobserved = true)

/-- The selection: a matching EXCURSION entry of lowest index, else a matching ORDINARY entry of lowest index, else the
residual (R50). -/
def Obligations.SelectionPrefersExcursion : Prop :=
  ∀ (es : Vector BandEntry 16) (x : Intake) (i : AccountIx),
    (winner es x i = none ↔ ∀ k : Fin 16, es[k].hits x i = false) ∧
      ∀ k : Fin 16, winner es x i = some k →
        es[k].hits x i = true ∧
          (∀ j : Fin 16, j < k → es[j].hits x i = true → es[j].weightPart.cls ≠ es[k].weightPart.cls) ∧
          (es[k].weightPart.cls = .ordinary →
            ∀ j : Fin 16, es[j].hits x i = true → es[j].weightPart.cls = .ordinary)

/-! ## Alerts (R136 to R144) -/

/-- ALRT is asserted exactly when at least one critical alert entry is PENDING (R144). -/
def Obligations.AlrtFollowsPendingCritical : Prop :=
  ∀ s : State, s.alrt = true ↔ ∃ e ∈ s.alerts.entries, e.state = .pending ∧ e.pair.cause.isCritical = true

/-- A condition reported true that was held false creates a PENDING entry, or repeats the PENDING one; with room, RUNNING
and ACTIVE a creation takes a place of the transmit queue for its notice (R136, R145, R146). One reported false that was
held true: an ACKNOWLEDGED entry is removed, a PENDING one stays as it is (R137). -/
def Obligations.ConditionReportsActOnAlerts : Prop :=
  (∀ (s : State) (p : AlertPair) (param : Option Byte), s.alerts.holds p = false →
    (s.report p true param).alerts.holds p = true ∧
      match s.alerts.entry p with
      | none =>
        (s.report p true param).alerts.entry p =
            some
              { pair := p, state := .pending, parameter := param, firstRaised := s.time.deviceTime,
                latest := s.time.deviceTime, repeats := 1 } ∧
          (s.port.tx.length < 8 → s.port.state = .running → s.time.mode = .active →
            ∃ f, (s.report p true param).port.tx = s.port.tx ++ [f] ∧ f.id = noticeId s.time.straps ∧
              f.data.length = 8) ∧
          (8 ≤ s.port.tx.length ∨ s.port.state = .busOff ∨ s.time.mode ≠ .active →
            (s.report p true param).port = s.port)
      | some e =>
        (s.report p true param).alerts.entry p =
            some
              { e with
                state := .pending
                parameter := param
                latest := s.time.deviceTime
                repeats := min (e.repeats + 1) 255 } ∧
          (s.report p true param).port = s.port) ∧
    ∀ (s : State) (p : AlertPair) (param : Option Byte), s.pairsDistinct → s.alerts.holds p = true →
      (s.report p false param).alerts.holds p = false ∧ (s.report p false param).port = s.port ∧
        (s.report p false param).alerts.entry p =
          match s.alerts.entry p with
          | some e => if e.state = .acknowledged then none else some e
          | none => none

/-! ## The life of a request (R167 to R172) -/

/-- For an IDLE slot, in the order of R167: a frame with fewer operands than R194 gives its kind, or a READ of no region, is
answered BAD_REQUEST; a request outside the role's rights DENIED, by the table of R168; one of the eleven kinds of R169 while
the truck is not at rest NOT_AT_REST: IGN is asserted, and output speed is UNKNOWN or not 0. A frame with no data byte (answered
with kind code 0xFF) or an unknown kind code is answered BAD_REQUEST (R195). A refusal changes nothing but the linger and the
transmit queue. The model's `permitted`, `needsRest` and `atRest`, which other statements name, say just this. -/
def Obligations.RequestsAreRefusedInOrder : Prop :=
  (∀ (c : Instr) (s : State) (slot : SlotIx) (kind : Byte) (ops : List Byte), requestOf c = some (slot, kind, ops) →
      let first := (ops.getD 0 0#8).toNat
      let second := (ops.getD 1 0#8).toNat
      let malformed : Prop :=
        match kind.toNat with
        | 0x02 => ops.length < 2 ∨ 6 < first
        | 0x10 | 0x32 => ops.length < 7
        | 0x12 | 0x18 => ops.length < 2
        | 0x20 | 0x22 | 0x33 => ops.length < 1
        | 0x21 | 0x30 | 0x40 => ops.length < 6
        | 0x31 => ops.length < 2 ∨ (second ≠ 255 ∧ ops.length < 6)
        | _ => False
      let owns (n : Nat) : Prop := (slot = 0 ∧ n ≤ 1) ∨ (slot = 1 ∧ 2 ≤ n ∧ n ≤ 4) ∨ slot = 2 ∨ slot = 3
      let rights : Prop :=
        match kind.toNat with
        | 0x01 | 0x03 => True
        | 0x02 =>
          match first with
          | 0 | 5 => True
          | 1 => owns second
          | 4 => slot ≠ 1
          | _ => slot = 2 ∨ slot = 3
        | 0x18 => owns first
        | 0x11 | 0x12 | 0x50 => slot = 2 ∨ slot = 3
        | _ => slot = 3
      let interlocked : Prop :=
        kind.toNat ∈ [0x10, 0x11, 0x20, 0x21, 0x22, 0x30, 0x31, 0x32, 0x33, 0x40, 0x5A]
      let resting : Prop :=
        s.lines.ign = false ∨
          (s.intake.outputSpeed.ageing.cls ≠ .unknown ∧ s.intake.outputSpeed.value = some 0)
      (parseRequest kind.toNat ops = none ↔ malformed) ∧
        (∀ q, parseRequest kind.toNat ops = some q →
          (q.permitted slot = true ↔ rights) ∧ (q.needsRest = true ↔ interlocked)) ∧
        (s.atRest = true ↔ resting) ∧
        (s.hears slot → s.port.hasRoom = true →
          (malformed → exec c s = .next (s.responded slot kind .badRequest [])) ∧
            (¬malformed → ¬rights → exec c s = .next (s.responded slot kind .denied [])) ∧
            (¬malformed → rights → interlocked → ¬resting →
              exec c s = .next (s.responded slot kind .notAtRest [])))) ∧
    ∀ (s : State) (slot : SlotIx) (data : List Byte), kindUnknown data = true → s.hears slot →
      s.port.hasRoom = true →
        exec (.unknownRequest slot data) s = .next (s.responded slot (data.headD 0xFF#8) .badRequest [])

/-- An operand outside its range is answered BAD_REQUEST with nothing changed: an account above 4 in SERVICE RESET (R177), RESTORE
FIELD (R19), RESTORE DONE (R21) and BAND WEIGHT; a field the account does not have in RESTORE FIELD (R18, R19); an entry above
15 in every band edit and in BAND LOCK (R57); a metric 7..254, and 255 too in BAND PRIMARY; a class above 1 and a bin above 6 in
BAND WEIGHT (R52). -/
def Obligations.OutOfRangeOperandIsBad : Prop :=
  ∀ (s : State) (a b : Byte) (rest : List Byte), s.hears 3 → s.atRest = true → s.port.hasRoom = true →
    (5 ≤ a.toNat →
        exec (.serviceReset 3 (a :: rest)) s = .next (s.responded 3 0x20#8 .badRequest []) ∧
          exec (.restoreDone 3 (a :: rest)) s = .next (s.responded 3 0x22#8 .badRequest [])) ∧
      (∀ v3 v2 v1 v0 : Byte,
        5 ≤ a.toNat ∨ (∀ i : AccountIx, a.toNat = i.val → restorable i b.toNat = false) →
          exec (.restoreField 3 (a :: b :: v3 :: v2 :: v1 :: v0 :: rest)) s =
            .next (s.responded 3 0x21#8 .badRequest [])) ∧
      (16 ≤ a.toNat →
        exec (.bandLock 3 (a :: rest)) s = .next (s.responded 3 0x33#8 .badRequest []) ∧
          exec (.bandSecondary 3 (a :: 0xFF#8 :: rest)) s = .next (s.responded 3 0x31#8 .badRequest [])) ∧
      (∀ m l1 l0 h1 h0 : Byte, 16 ≤ a.toNat ∨ 7 ≤ m.toNat →
        exec (.bandPrimary 3 (a :: m :: l1 :: l0 :: h1 :: h0 :: rest)) s =
            .next (s.responded 3 0x30#8 .badRequest []) ∧
          (m.toNat ≠ 255 →
            exec (.bandSecondary 3 (a :: m :: l1 :: l0 :: h1 :: h0 :: rest)) s =
              .next (s.responded 3 0x31#8 .badRequest []))) ∧
      ∀ i c n w1 w0 : Byte, 16 ≤ a.toNat ∨ 5 ≤ i.toNat ∨ 2 ≤ c.toNat ∨ 7 ≤ n.toNat →
        exec (.bandWeight 3 (a :: i :: c :: n :: w1 :: w0 :: b :: rest)) s =
          .next (s.responded 3 0x32#8 .badRequest [])

/-- A request arriving at a slot that is BUSY is not executed: a BUSY answer with its kind code enters the queue if there is a
free place, else it is not answered; the slot is not changed (R171). -/
def Obligations.BusySlotAnswersBusy : Prop :=
  ∀ (c : Instr) (s : State) (slot : SlotIx) (kind : Byte) (q : InFlight),
    (∃ ops, requestOf c = some (slot, kind, ops)) ∨
        (∃ data, c = .unknownRequest slot data ∧ kind = data.headD 0xFF#8) →
      s.onBus = true → s.time.mode = .active → s.engine.slots[slot].inFlight = some q →
        exec c s =
          .next (if s.port.tx.length < 8 then s.responded slot kind .busy [] else s.restartLinger)

/-! ## Requests answered at once (R140, R173 to R175, R19, R178) -/

/-- STATUS is answered OK at once to every role with the summary of R173, laid out as R195 gives; with the transmit queue full
its response is HELD and the slot stays BUSY (R170, R172). -/
def Obligations.StatusIsAnswered : Prop :=
  ∀ (s : State) (slot : SlotIx) (ops : List Byte), s.hears slot →
    let payload :=
      [byteOf (s.time.mode.code + 4 * s.store.state.code + 32 * s.time.selection.code),
        byteOf s.alerts.pendingCritical, byteOf s.alerts.pendingNotice, byteOf (s.log.openNumber / 256),
        byteOf s.log.openNumber]
    exec (.status slot ops) s =
      .next
        (if s.port.tx.length < 8 then s.responded slot 0x01#8 .ok payload
        else
          s.restartLinger.setInFlight slot
            (some
              { kind := 0x01#8, ops := ops,
                phase := .held (responseFrame s.time.straps slot 0x01#8 .ok payload false) }))

/-- READ within the rights copies the image into the slot's buffer with the cursor at 5, and answers its first five bytes;
an index the region does not hold answers EMPTY with an all-zero image of the region's length (R174). -/
def Obligations.ReadFillsBuffer : Prop :=
  ∀ (s : State) (slot : SlotIx) (r n : Byte) (rest : List Byte) (reg : Region), regionOfCode r.toNat = some reg →
    (Request.read reg n.toNat).permitted slot = true → s.hears slot → s.port.hasRoom = true →
      let image := (s.image reg n.toNat).getD (List.replicate reg.imageLength 0#8)
      let o : ReqOutcome := if (s.image reg n.toNat).isSome then .ok else .empty
      exec (.read slot (r :: n :: rest)) s =
        .next
          ((s.responded slot 0x02#8 o (0#8 :: (image ++ List.replicate 5 0#8).take 5)).setBuffer slot
            { region := reg, index := n.toNat, offset := 5, image := image })

/-- NEXT: STATE with no buffer; END with the cursor at or beyond the image; else the next five bytes, 0 beyond the end, and
the cursor moves by 5. An image is as long as its region's, but for the Qualifier status of 10 bytes and the reset record
of 7; a segment's renter reference has 6 bytes (R113, R175). -/
def Obligations.NextWalksBuffer : Prop :=
  (∀ (s : State) (slot : SlotIx) (ops : List Byte), s.hears slot → s.port.hasRoom = true →
      exec (.next slot ops) s =
        .next
          (match s.engine.slots[slot].buffer with
            | none => s.responded slot 0x03#8 .stateRefused []
            | some b =>
              if b.offset < b.image.length then
                (s.responded slot 0x03#8 .ok
                    (byteOf b.offset :: ((b.image.drop b.offset) ++ List.replicate 5 0#8).take 5)).setBuffer slot
                  { b with offset := b.offset + 5 }
              else s.responded slot 0x03#8 .ended [])) ∧
    ∀ (s : State) (r : Region) (n : Nat) (image : List Byte), (∀ e ∈ s.log.entries, e.seg.renter.length = 6) →
      s.image r n = some image →
        image.length =
          match r with
          | .status => if n = 1 then 7 else 17
          | .account | .segment => 95
          | .band => 35
          | .startHistory => if n = 16 then 10 else 12
          | .alert => 15
          | .settings => 55

/-- ACK ALERT of a valid pair from the fleet gateway or the depot terminal, as the table of R140 gives it; from the two
controllers for the sources they may name (R168). Two codes that name no valid pair are answered BAD_REQUEST. -/
def Obligations.AckAlertActs : Prop :=
  (∀ (s : State) (slot : SlotIx) (p : AlertPair) (rest : List Byte), p.valid = true →
      (Request.ackAlert p.source.code p.cause.code).permitted slot = true → s.hears slot → s.port.hasRoom = true →
        exec (.ackAlert slot (byteOf p.source.code :: byteOf p.cause.code :: rest)) s =
          .next
            (match s.alerts.entry p with
              | none => s.responded slot 0x18#8 .empty []
              | some e =>
                if e.state = .acknowledged then s.responded slot 0x18#8 .ok []
                else if p.cause.isCondition = true ∧ s.alerts.holds p = true then
                  { s.responded slot 0x18#8 .ok [] with
                    alerts :=
                      { s.alerts with
                        entries :=
                          s.alerts.entries.map fun x => if x.pair == p then { x with state := .acknowledged } else x } }
                else
                  { s.responded slot 0x18#8 .ok [] with
                    alerts := { s.alerts with entries := s.alerts.entries.filter fun x => x.pair != p } })) ∧
    ∀ (s : State) (slot : SlotIx) (a b : Byte) (rest : List Byte),
      (Request.ackAlert a.toNat b.toNat).permitted slot = true → s.hears slot → s.port.hasRoom = true →
      (∀ p : AlertPair, p.valid = true → ¬(a.toNat = p.source.code ∧ b.toNat = p.cause.code)) →
        exec (.ackAlert slot (a :: b :: rest)) s = .next (s.responded slot 0x18#8 .badRequest [])

/-- RESTORE FIELD for an account that is not NORMAL: OK at once, the buffer names the account and holds the value, the
account is RESTORING and its figures stand (R19); NORMAL is answered STATE. -/
def Obligations.RestoreFieldEntersBuffer : Prop :=
  ∀ (s : State) (i : AccountIx) (f v3 v2 v1 v0 : Byte) (rest : List Byte), restorable i f.toNat = true → s.hears 3 →
    s.atRest = true → s.port.hasRoom = true →
      ∃ t, exec (.restoreField 3 (byteOf i.val :: f :: v3 :: v2 :: v1 :: v0 :: rest)) s = .next t ∧
        if (s.account i).state = .normal then t = s.responded 3 0x21#8 .stateRefused []
        else
          t.port = (s.responded 3 0x21#8 .ok []).port ∧
            t.account i = { s.account i with state := .restoring } ∧ s.keepsOtherAccounts t i ∧
            s.changesOnly t [.time, .port, .accounts, .store, .engine] ∧ t.store.queue = s.store.queue ∧
            ∃ b, t.engine.restore = some b ∧ b.account = i ∧
              (f.toNat, restoreValue f.toNat (nat32 v3 v2 v1 v0)) ∈ b.fields ∧
              ∀ x ∈ b.fields, x.1 = f.toNat → x.2 = restoreValue f.toNat (nat32 v3 v2 v1 v0)

/-- RESET DEVICE with none pending: a commanded reset is pending, and its OK begins the reset once sent; with one pending
OK and nothing added (R178). -/
def Obligations.ResetDeviceMarksPending : Prop :=
  ∀ (s : State) (ops : List Byte), s.hears 3 → s.atRest = true → s.port.hasRoom = true →
    s.engine.resetDue = false →
      exec (.resetDevice 3 ops) s =
        .next
          (if s.engine.resetPending then s.responded 3 0x5A#8 .ok []
          else
            { s.restartLinger with
              port := { s.port with tx := s.port.tx ++ [responseFrame s.time.straps 3 0x5A#8 .ok [] true] }
              engine := { s.engine with resetPending := true } })

/-! ## Requests answered after a write -/

/-- SERVICE RESET of a NORMAL account: the since-service half and F are 0, service count +1 up to 255, last service time now,
both thresholds false and reported where they were true, SERVICED on an OPEN segment, the rest of the account as it was but for the
time of a write that begins; the response waits on the account record (R157). Another account is answered STATE (R17). -/
def Obligations.ServiceResetStartsAnew : Prop :=
  ∀ (s : State) (i : AccountIx) (rest : List Byte), s.hears 3 → s.atRest = true →
    ((s.account i).state ≠ .normal → s.port.hasRoom = true →
        exec (.serviceReset 3 (byteOf i.val :: rest)) s = .next (s.responded 3 0x20#8 .stateRefused [])) ∧
      ((s.account i).state = .normal → s.defers →
        ∃ t, exec (.serviceReset 3 (byteOf i.val :: rest)) s = .next t ∧
          t.account i =
            { s.account i with
              ssActiveTime := 0
              ssEvents := (s.account i).ssEvents.map fun _ => 0
              ssWear := 0
              credit := 0
              serviceCount := min ((s.account i).serviceCount + 1) 255
              lastService := some s.time.deviceTime
              lastWrite := (t.account i).lastWrite } ∧
          s.keepsOtherAccounts t i ∧ t.accounts.serviceDue[i] = false ∧ t.accounts.lifeLimit[i] = false ∧
          s.thresholdsSettled t i ∧
          (∀ e, t.log.openEntry = some e → e.seg.flags.serviced = true) ∧ t.store.isChanged (.account i) = true ∧
          t.store.covered (.account i) = true ∧ t.waitsWith 3 0x20#8 [] [.account i] ∧
          s.changesOnly t [.time, .accounts, .alerts, .log, .store, .engine] ∧ t.time = s.restartLinger.time)

/-- RESTORE DONE of a RESTORING account that the buffer names: the figures of R21, steps 1 to 4, but for the time of a write
that begins; RECORD_SUSPECT false; both thresholds evaluated (R16); the buffer discarded; the response waits on the account
record (R157). Without such a buffer, or on an account in another state, it is answered STATE (R21). Among the figures: wear,
unobserved time and each bin rise by their buffered value, active time is the sum of the bins, and no since-service value exceeds
its lifetime value. The snapshot of an OPEN segment rises by what the restore added to each quantity of the account that it
tracks, at most to 4,294,967,295, and RESTORED is set; its record is changed and no other segment (R21, step 6; R121). -/
def Obligations.RestoreDoneAddsFigures : Prop :=
  ∀ (s : State) (i : AccountIx) (rest : List Byte), s.hears 3 → s.atRest = true →
    ((s.account i).state ≠ .restoring ∨ (∀ b, s.engine.restore = some b → b.account ≠ i) → s.port.hasRoom = true →
        exec (.restoreDone 3 (byteOf i.val :: rest)) s = .next (s.responded 3 0x22#8 .stateRefused [])) ∧
      ∀ b : RestoreBuffer, (s.account i).state = .restoring → s.engine.restore = some b → b.account = i → s.defers →
        ∃ t, exec (.restoreDone 3 (byteOf i.val :: rest)) s = .next t ∧
          t.account i = { (s.account i).restored b.fields with lastWrite := (t.account i).lastWrite } ∧
          (t.account i).state = .normal ∧ (t.account i).credit = (s.account i).credit ∧ s.keepsOtherAccounts t i ∧
          (let raised (field before : Nat) : Nat :=
              match b.fields.lookup field with
              | some v => min (before + v) 4294967295
              | none => before
            (b.fields.map Prod.fst).Nodup →
              (t.account i).wear = raised 1 (s.account i).wear ∧
                (t.account i).unobserved = raised 2 (s.account i).unobserved ∧
                (∀ k : Fin 8, (t.account i).bins[k] = raised (3 + k.val) (s.account i).bins[k])) ∧
          (t.account i).activeTime = min (t.account i).bins.toList.sum 4294967295 ∧
          (t.account i).ssActiveTime ≤ (t.account i).activeTime ∧ (t.account i).ssWear ≤ (t.account i).wear ∧
          t.alerts.holds (accountPair i .recordSuspect) = false ∧ t.engine.restore = none ∧
          s.thresholdsSettled t i ∧ (∀ e, t.log.openEntry = some e → e.seg.flags.restored = true) ∧
          (s.slotsDistinct →
            match s.log.openEntry with
            | none => t.log = s.log
            | some e =>
              let before := s.account i
              let after := t.account i
              let gained (j : AccountIx) (f : Account → Nat) : Nat := if j = i then f after - f before else 0
              t.store.isChanged (.slot e.slot) = true ∧ (∀ k, k ≠ e.slot → t.log.inSlot k = s.log.inSlot k) ∧
                ∃ raised : Tracked,
                  t.log.inSlot e.slot =
                      some { e.seg with tracked := raised, flags := { e.seg.flags with restored := true } } ∧
                    raised.coldStarts =
                      min (e.seg.tracked.coldStarts + (after.coldStarts.getD 0 - before.coldStarts.getD 0))
                        4294967295 ∧
                    raised.revolutions =
                      min (e.seg.tracked.revolutions + (after.revolutions.getD 0 - before.revolutions.getD 0))
                        4294967295 ∧
                    raised.unobserved =
                      min (e.seg.tracked.unobserved + (after.unobserved - before.unobserved)) 4294967295 ∧
                    ∀ j : AccountIx,
                      raised.figures[j].active =
                          min (e.seg.tracked.figures[j].active + gained j Account.activeTime) 4294967295 ∧
                        raised.figures[j].wear =
                          min (e.seg.tracked.figures[j].wear + gained j Account.wear) 4294967295 ∧
                        (j ≠ 4 → (s.account j).events.isSome = true →
                          raised.figures[j].events =
                            e.seg.tracked.figures[j].events.map fun u =>
                              min (u + gained j fun a => a.events.getD 0) 4294967295)) ∧
          t.store.covered (.account i) = true ∧ t.waitsWith 3 0x22#8 [] [.account i] ∧
          s.changesOnly t [.time, .accounts, .alerts, .port, .log, .store, .engine]

/-- OPEN RENTAL by the log as it stands (R116 to R118): STATE with a segment OPEN; a new OPEN segment with the current values
as its snapshot in the lowest unused slot, or in the slot of the oldest EXPORTED or DAMAGED one; else LOG_FULL. Its number
lies in 1..65,535 and no other segment of the log holds it (R115). The response waits on the slot record and record 5 (R157). -/
def Obligations.OpenRentalOpensSegment : Prop :=
  ∀ (s : State) (r0 r1 r2 r3 r4 r5 tariff : Byte), s.hears 3 → s.atRest = true → s.defers →
    s.port.hasRoom = true →
      ∃ t, exec (.openRental 3 [r0, r1, r2, r3, r4, r5, tariff]) s = .next t ∧
        let opensIn (before : List LogEntry) (k : Fin 24) : Prop :=
          ∃ g : Segment, t.log.entries = before ++ [{ slot := k, seg := g }] ∧ g.state = .opened ∧
            g.renter = [r0, r1, r2, r3, r4, r5] ∧ g.tariff = tariff ∧ g.openTime = s.time.deviceTime ∧
            g.closeTime = none ∧ 1 ≤ g.number ∧ g.number ≤ 65535 ∧
            (s.slotsDistinct → ∀ x ∈ before, x.seg.number ≠ g.number) ∧ g.serial = min (s.settings.lastSerial + 1) 4294967295 ∧
            g.tracked = Tracked.current s.accounts.accounts ∧
            g.flags = { SegmentFlags.empty with timebaseDegraded := s.time.selection == .internalRc } ∧
            t.settings = { s.settings with lastSegment := g.number, lastSerial := g.serial } ∧
            t.store.covered (.slot k) = true ∧ t.store.covered .settings = true ∧
            t.waitsWith 3 0x10#8 (bytes16 g.number) [.slot k, .settings] ∧
            s.changesOnly t [.time, .log, .settings, .alerts, .store, .engine]
        match s.log.openEntry, s.log.freeSlot, s.log.reclaimable with
        | some _, _, _ => t = s.responded 3 0x10#8 .stateRefused []
        | none, some k, _ => opensIn s.log.entries k
        | none, none, some e => opensIn (s.log.entries.filter fun x => x.slot != e.slot) e.slot
        | none, none, none => t = s.responded 3 0x10#8 .logFull []

/-- CLOSE RENTAL: with no segment OPEN answered STATE; else the segment is CLOSED now with its deltas, and the response with
its number waits on the slot record (R119, R122, R157). -/
def Obligations.CloseRentalTakesDeltas : Prop :=
  ∀ (s : State) (slot : SlotIx) (ops : List Byte), isOffice slot = true → s.hears slot → s.atRest = true →
    s.defers → s.port.hasRoom = true → s.slotsDistinct →
      ∃ t, exec (.closeRental slot ops) s = .next t ∧
        match s.log.openEntry with
        | none => t = s.responded slot 0x11#8 .stateRefused []
        | some e =>
          t.log.inSlot e.slot =
              some
                { e.seg with
                  state := .closed
                  closeTime := some s.time.deviceTime
                  tracked := Tracked.deltas (Tracked.current s.accounts.accounts) e.seg.tracked
                  flags :=
                    { e.seg.flags with
                      saturated := e.seg.flags.saturated || (Tracked.current s.accounts.accounts).anyAtMax } } ∧
            (∀ k, k ≠ e.slot → t.log.inSlot k = s.log.inSlot k) ∧
            t.log.nearFull = decide (20 ≤ t.log.closedCount) ∧ t.store.covered (.slot e.slot) = true ∧
            t.waitsWith slot 0x11#8 (bytes16 e.seg.number) [.slot e.slot] ∧
            s.changesOnly t [.time, .log, .alerts, .port, .store, .engine]

/-- MARK EXPORTED by the named segment's state; the response to a change waits on the slot record (R124, R157). -/
def Obligations.MarkExportedByState : Prop :=
  ∀ (s : State) (slot : SlotIx) (n1 n0 : Byte) (rest : List Byte), isOffice slot = true → s.hears slot → s.defers →
    s.port.hasRoom = true → s.slotsDistinct →
      ∃ t, exec (.markExported slot (n1 :: n0 :: rest)) s = .next t ∧
        match s.log.named (nat16 n1 n0) with
        | none => t = s.responded slot 0x12#8 .empty []
        | some e =>
          match e.seg.state with
          | .opened | .damaged => t = s.responded slot 0x12#8 .stateRefused []
          | .exported => t = s.responded slot 0x12#8 .ok []
          | .closed =>
            t.log.inSlot e.slot = some { e.seg with state := .exported } ∧
              (∀ k, k ≠ e.slot → t.log.inSlot k = s.log.inSlot k) ∧
              t.log.nearFull = decide (20 ≤ t.log.closedCount) ∧ t.store.covered (.slot e.slot) = true ∧
              t.waitsWith slot 0x12#8 [] [.slot e.slot] ∧ s.changesOnly t [.time, .log, .alerts, .port, .store, .engine]

/-- An accepted edit of an unlocked entry: staged while the entry is enabled, else applied at once; bounds clamped each to
the metric's range; the other entries as they were; the response waits on the band record (R46, R52 to R56, R157). BAND PRIMARY, BAND SECONDARY,
BAND WEIGHT. -/
def Obligations.BandEditsApplyOrStage : Prop :=
  ∀ (s : State) (k : Fin 16), s.bands.entries[k].locked = false → s.hears 3 → s.atRest = true → s.defers →
    let e := s.bands.entries[k]
    let edited (c : Instr) (kind : Byte) (applied staged : BandEntry) : Prop :=
      ∃ t, exec c s = .next t ∧ t.bands.entries[k] = (if e.weightPart.enabled then staged else applied) ∧
        (∀ j : Fin 16, j ≠ k → t.bands.entries[j] = s.bands.entries[j]) ∧ t.store.covered (.band k) = true ∧
        t.waitsWith 3 kind [] [.band k] ∧ s.changesOnly t [.time, .bands, .store, .engine]
    (∀ (m l1 l0 h1 h0 : Byte) (rest : List Byte) (metric : Metric), metricOfCode m.toNat = some metric →
        let c := Condition.clamped metric (int16 l1 l0) (int16 h1 h0)
        edited (.bandPrimary 3 (byteOf k.val :: m :: l1 :: l0 :: h1 :: h0 :: rest)) 0x30#8 { e with primary := c }
            { e with stagedPrimary := some c } ∧
          edited (.bandSecondary 3 (byteOf k.val :: m :: l1 :: l0 :: h1 :: h0 :: rest)) 0x31#8
            { e with secondary := some c } { e with stagedSecondary := some (some c) }) ∧
      (∀ rest : List Byte,
        edited (.bandSecondary 3 (byteOf k.val :: 0xFF#8 :: rest)) 0x31#8 { e with secondary := none }
          { e with stagedSecondary := some none }) ∧
      ∀ (a c b w1 w0 n : Byte) (w : WeightPart),
        weightPartOf a.toNat c.toNat b.toNat (nat16 w1 w0) n.toNat = some w →
          edited (.bandWeight 3 [byteOf k.val, a, c, b, w1, w0, n]) 0x32#8 { e with weightPart := w }
            { e with stagedWeight := some w }

/-- BAND LOCK by the entry as it stands; the response to a change waits on the band record (R57, R157). -/
def Obligations.BandLockByEntry : Prop :=
  ∀ (s : State) (k : Fin 16) (rest : List Byte), s.hears 3 → s.atRest = true → s.defers → s.port.hasRoom = true →
    ∃ t, exec (.bandLock 3 (byteOf k.val :: rest)) s = .next t ∧
      match s.bands.entries[k].weightPart.enabled, s.bands.entries[k].locked with
      | _, true => t = s.responded 3 0x33#8 .ok []
      | false, false => t = s.responded 3 0x33#8 .stateRefused []
      | true, false =>
        t.bands.entries[k] = { s.bands.entries[k] with locked := true } ∧
          (∀ j : Fin 16, j ≠ k → t.bands.entries[j] = s.bands.entries[j]) ∧ t.store.covered (.band k) = true ∧
          t.waitsWith 3 0x33#8 [] [.band k] ∧ s.changesOnly t [.time, .bands, .store, .engine]

/-- WRITE SETTING of a device setting and of a per-account setting: the clamped value stands at once, the record is handed,
the response waits on it (R157); an unknown id and an account above 4 are BAD_REQUEST (R10, R177, R197). A written threshold has
both conditions of its account evaluated (R11, R16). A written fresh or hold limit reclassifies each signal forward by its age, a
group that becomes UNKNOWN losing its baselines (R32, R35); a written crank line mode re-forms the latch with no trigger (R88);
a written checkpoint interval restarts its timer (R158). The
ranges are those of R197, for every id of its table, and a limit also stops at its neighbour (R32, R41, R74, R87). -/
def Obligations.WriteSettingStores : Prop :=
  (∀ (s : State) (id a v3 v2 v1 v0 : Byte) (rest : List Byte), s.hears 3 → s.atRest = true → s.defers →
      s.port.hasRoom = true →
        ∃ t, exec (.writeSetting 3 (id :: a :: v3 :: v2 :: v1 :: v0 :: rest)) s = .next t ∧
          if 0x40 ≤ id.toNat ∧ id.toNat ≤ 0x44 then
            match accountOf a.toNat with
            | none => t = s.responded 3 0x40#8 .badRequest []
            | some i =>
              match (s.account i).writeSetting id.toNat (nat32 v3 v2 v1 v0) with
              | none => t = s.responded 3 0x40#8 .badRequest []
              | some b =>
                t.account i = { b with lastWrite := (t.account i).lastWrite } ∧ s.keepsOtherAccounts t i ∧
                  t.store.covered (.account i) = true ∧ t.waitsWith 3 0x40#8 [] [.account i] ∧
                  (if 0x43 ≤ id.toNat then s.thresholdsSettled t i
                    else s.thresholdsStand t i ∧ t.alerts = s.alerts ∧ t.port = s.port) ∧
                  s.changesOnly t [.time, .accounts, .alerts, .port, .store, .engine]
          else
            match s.settings.write id.toNat (signedOf 32 (nat32 v3 v2 v1 v0)) with
            | none => t = s.responded 3 0x40#8 .badRequest []
            | some v =>
              t.settings = v ∧ t.store.covered .settings = true ∧ t.waitsWith 3 0x40#8 [] [.settings] ∧
                t.bands = s.bands ∧ t.log = s.log ∧ t.lines = s.lines ∧
                match id.toNat with
                | 0x01 | 0x02 =>
                  let lost (n : SignalName) : Prop :=
                    (s.intake.ageing n).cls ≠ .unknown ∧ v.holdLimit < (s.intake.ageing n).age
                  (∀ n,
                      t.intake.ageing n =
                        { s.intake.ageing n with
                          cls :=
                            if lost n then .unknown
                            else if (s.intake.ageing n).cls = .fresh ∧ v.freshLimit < (s.intake.ageing n).age then
                              .held
                            else (s.intake.ageing n).cls }) ∧
                    t.intake.shiftBaseline = (if lost .drivelineEvent then none else s.intake.shiftBaseline) ∧
                    t.intake.engagementBaseline =
                      (if lost .drivelineEvent then none else s.intake.engagementBaseline) ∧
                    t.store.checkpointMs = s.store.checkpointMs
                | 0x0F =>
                  t.qualifier.latch =
                      (crankActive v.crankMode s.lines.crank s.intake.starterStatus.known).getD s.qualifier.latch ∧
                    t.qualifier.ring = s.qualifier.ring ∧ t.qualifier.failures = s.qualifier.failures ∧
                    t.store.checkpointMs = s.store.checkpointMs ∧
                    s.changesOnly t [.time, .settings, .qualifier, .store, .engine]
                | n =>
                  t.store.checkpointMs = (if n = 0x14 then 0 else s.store.checkpointMs) ∧
                    s.changesOnly t [.time, .settings, .store, .engine]) ∧
    (∀ (v : Settings) (x : Int),
      let within (lo hi : Int) : Nat := (max lo (min x hi)).toNat
      let temperature : Int := max (-40) (min x 210)
      v.write 0x01 x = some { v with freshLimit := min (within 100 1000) v.holdLimit } ∧
        v.write 0x02 x = some { v with holdLimit := max (within 250 5000) v.freshLimit } ∧
        v.write 0x03 x = some { v with runThreshold := within 200 2000 } ∧
        v.write 0x04 x = some { v with engineOil := { v.engineOil with cold := min temperature v.engineOil.hot } } ∧
        v.write 0x05 x =
          some
            { v with
              engineOil :=
                { v.engineOil with hot := max v.engineOil.cold (min temperature v.engineOil.critical) } } ∧
        v.write 0x06 x =
          some { v with engineOil := { v.engineOil with critical := max v.engineOil.hot temperature } } ∧
        v.write 0x07 x =
          some
            { v with transmissionOil := { v.transmissionOil with cold := min temperature v.transmissionOil.hot } } ∧
        v.write 0x08 x =
          some
            { v with
              transmissionOil :=
                { v.transmissionOil with
                  hot := max v.transmissionOil.cold (min temperature v.transmissionOil.critical) } } ∧
        v.write 0x09 x =
          some
            { v with
              transmissionOil := { v.transmissionOil with critical := max v.transmissionOil.hot temperature } } ∧
        v.write 0x0A x = some { v with coldMultiplier := within 4 32 } ∧
        v.write 0x0B x = some { v with hotMultiplier := within 4 32 } ∧
        v.write 0x0C x = some { v with criticalMultiplier := within 4 32 } ∧
        v.write 0x0D x = some { v with coldStartLimit := max (-40) (min x 60) } ∧
        v.write 0x0E x = some { v with coldStartMultiplier := within 8 32 } ∧
        v.write 0x0F x = some { v with crankMode := if x ≤ 0 then .off else if x = 1 then .level else .edge } ∧
        v.write 0x10 x = some { v with crankWindow := within 50 600 } ∧
        v.write 0x11 x = some { v with confirmTime := within 5 100 } ∧
        v.write 0x12 x = some { v with stopTime := within 10 300 } ∧
        v.write 0x13 x = some { v with failureLimit := within 1 15 } ∧
        v.write 0x14 x = some { v with checkpointInterval := within 1 60 } ∧
        (∀ k : Fin 4,
          let entry (f : Filter) : Option Settings := some { v with filters := v.filters.set k f }
          v.write (0x20 + 4 * k.val) x = entry { v.filters[k] with base := BitVec.ofNat 11 (within 0 0x7FF) } ∧
            v.write (0x21 + 4 * k.val) x = entry { v.filters[k] with mask := BitVec.ofNat 11 (within 0 0x7FF) } ∧
            v.write (0x22 + 4 * k.val) x =
              entry
                { v.filters[k] with
                  format :=
                    if x ≤ 0 then .engineState else if x = 1 then .drivelineState else .drivelineEvent } ∧
            v.write (0x23 + 4 * k.val) x = entry { v.filters[k] with enabled := decide (1 ≤ x) }) ∧
        ∀ id : Nat, id = 0 ∨ (0x15 ≤ id ∧ id ≤ 0x1F) ∨ 0x30 ≤ id → v.write id x = none) ∧
    ∀ (a : Account) (raw : Nat),
      let weight : Nat := (max 0 (min (signedOf 32 raw) 65535)).toNat
      a.writeSetting 0x40 raw = some { a with baseWeight := weight } ∧
        a.writeSetting 0x41 raw = some { a with fallbackWeight := weight } ∧
        a.writeSetting 0x42 raw = a.eventWeight.map (fun _ => { a with eventWeight := some weight }) ∧
        a.writeSetting 0x43 raw = some { a with serviceThreshold := raw } ∧
        a.writeSetting 0x44 raw = some { a with lifeThreshold := raw }

/-- With the store able to write, every changed record is covered by CHECKPOINT (answered OK at once with none changed, else
when the write in flight, if any, and one write of each record then queued are done) and by the key-off, every changed account record by the expiry of the checkpoint timer (R158);
key-off restarts the linger (R185), the expiry its timer. -/
def Obligations.CheckpointsCoverEveryChange : Prop :=
  (∀ (s : State) (slot : SlotIx) (ops : List Byte), isOffice slot = true → s.hears slot → s.defers →
      s.port.hasRoom = true →
        ∃ t, exec (.checkpoint slot ops) s = .next t ∧
          if s.store.changedRecords = [] then t = s.responded slot 0x50#8 .ok []
          else
            (∀ r, s.store.isChanged r = true → t.store.isChanged r = true ∧ t.store.covered r = true) ∧
              t.engine.slots[slot].inFlight =
                  some
                    { kind := 0x50#8
                      ops := ops
                      phase :=
                        .waiting
                          ((match t.store.inFlight with
                              | some w => [{ record := w.record, begun := true }]
                              | none => []) ++
                            t.store.queue.map fun r => { record := r, begun := false }) [] } ∧
                s.changesOnly t [.time, .accounts, .store, .engine]) ∧
    ∀ s : State, s.isActive = true → s.defers →
      (s.lines.ign = true →
          ∃ t, exec .keyOff s = .next t ∧ t.lines = { s.lines with ign := false } ∧
            t.time = s.restartLinger.time ∧ (∀ r, s.store.isChanged r = true → t.store.covered r = true) ∧
            s.changesOnly t [.lines, .time, .accounts, .store, .engine]) ∧
        ∃ t, exec .periodicCheckpoint s = .next t ∧ t.store.checkpointMs = 0 ∧
          (∀ i : AccountIx, s.store.isChanged (.account i) = true → t.store.covered (.account i) = true) ∧
          s.changesOnly t [.accounts, .store, .engine]

/-- While the store is OFFLINE or FLUSHING every changing request makes its change in the working state and marks its records,
and nothing is queued or written (R155, R160). OFFLINE answers VOLATILE at once, FLUSHING lets the response wait (R157, R160,
R170): SERVICE RESET, RESTORE DONE, OPEN RENTAL, CLOSE RENTAL, MARK EXPORTED, the band edits, BAND LOCK, WRITE SETTING. CHECKPOINT
is answered VOLATILE while OFFLINE; while FLUSHING it is answered OK with nothing changed, else it enqueues nothing and waits on
every record changed (R158). With up to four frames queued the notices of the change leave the response its place. -/
def Obligations.StoreStateDecidesAnswer : Prop :=
  ∀ (s : State) (slot : SlotIx), s.store.state = .offline ∨ s.store.state = .flushing → isOffice slot = true →
    s.hears slot → s.atRest = true → s.port.tx.length ≤ 4 →
      let answered (t : State) (kind : Byte) (payload : List Byte) (records : List RecordId) : Prop :=
        t.store.state = s.store.state ∧ t.store.queue = s.store.queue ∧ t.store.array = s.store.array ∧
          t.store.flushList = s.store.flushList ∧ (∀ r ∈ records, t.store.isChanged r = true) ∧
          (s.store.state = .offline →
            t.port.tx.getLast? = some (responseFrame s.time.straps slot kind .volatileDone payload false) ∧
              t.engine.slots[slot].inFlight = none) ∧
          (s.store.state = .flushing → t.waitsWith slot kind payload records)
      let edited (c : Instr) (kind : Byte) (k : Fin 16) (after : BandEntry) : Prop :=
        ∃ t, exec c s = .next t ∧ t.bands = (s.setBand k after).bands ∧ answered t kind [] [.band k] ∧
          s.changesOnly t [.time, .port, .bands, .store, .engine]
      (s.store.state = .offline →
          ∀ ops, exec (.checkpoint slot ops) s = .next (s.responded slot 0x50#8 .volatileDone [])) ∧
        (s.store.state = .flushing → ∀ ops,
          if s.store.changedRecords = [] then
            exec (.checkpoint slot ops) s = .next (s.responded slot 0x50#8 .ok [])
          else
            ∃ t, exec (.checkpoint slot ops) s = .next t ∧ t.waitsWith slot 0x50#8 [] s.store.changedRecords ∧
              s.changesOnly t [.time, .engine]) ∧
        (∀ (ops : List Byte) (e : LogEntry), s.slotsDistinct → s.log.openEntry = some e →
          ∃ t, exec (.closeRental slot ops) s = .next t ∧
            t.log.inSlot e.slot =
              some (e.seg.closeAt (Tracked.current s.accounts.accounts) s.time.deviceTime) ∧
            (∀ k, k ≠ e.slot → t.log.inSlot k = s.log.inSlot k) ∧
            answered t 0x11#8 (bytes16 e.seg.number) [.slot e.slot] ∧
            s.changesOnly t [.time, .port, .log, .alerts, .store, .engine]) ∧
        (∀ (n1 n0 : Byte) (rest : List Byte) (e : LogEntry), s.slotsDistinct →
          s.log.named (nat16 n1 n0) = some e → e.seg.state = .closed →
          ∃ t, exec (.markExported slot (n1 :: n0 :: rest)) s = .next t ∧
            t.log.inSlot e.slot = some { e.seg with state := .exported } ∧
            (∀ k, k ≠ e.slot → t.log.inSlot k = s.log.inSlot k) ∧ answered t 0x12#8 [] [.slot e.slot] ∧
            s.changesOnly t [.time, .port, .log, .alerts, .store, .engine]) ∧
        (slot = 3 →
          (∀ (i : AccountIx) (rest : List Byte), (s.account i).state = .normal →
              ∃ t, exec (.serviceReset slot (byteOf i.val :: rest)) s = .next t ∧
                t.account i = (s.account i).serviced s.time.deviceTime ∧ s.keepsOtherAccounts t i ∧
                answered t 0x20#8 [] [.account i] ∧
                s.changesOnly t [.time, .port, .accounts, .alerts, .log, .store, .engine]) ∧
            (∀ (i : AccountIx) (rest : List Byte) (b : RestoreBuffer), (s.account i).state = .restoring →
              s.engine.restore = some b → b.account = i →
              ∃ t, exec (.restoreDone slot (byteOf i.val :: rest)) s = .next t ∧
                t.account i = (s.account i).restored b.fields ∧ s.keepsOtherAccounts t i ∧
                t.engine.restore = none ∧ t.alerts.holds (accountPair i .recordSuspect) = false ∧
                answered t 0x22#8 [] [.account i] ∧
                s.changesOnly t [.time, .port, .accounts, .alerts, .log, .store, .engine]) ∧
            (∀ (r0 r1 r2 r3 r4 r5 tariff : Byte) (k : Fin 24) (before : List LogEntry), s.log.openEntry = none →
              (s.log.freeSlot = some k ∧ before = s.log.entries) ∨
                  (s.log.freeSlot = none ∧ ∃ e, s.log.reclaimable = some e ∧ k = e.slot ∧
                    before = s.log.entries.filter fun x => x.slot != e.slot) →
              ∃ t g, exec (.openRental slot [r0, r1, r2, r3, r4, r5, tariff]) s = .next t ∧
                t.log.entries = before ++ [{ slot := k, seg := g }] ∧ g.state = .opened ∧
                g.renter = [r0, r1, r2, r3, r4, r5] ∧ g.tariff = tariff ∧ g.openTime = s.time.deviceTime ∧
                g.tracked = Tracked.current s.accounts.accounts ∧
                t.settings = { s.settings with lastSegment := g.number, lastSerial := g.serial } ∧
                answered t 0x10#8 (bytes16 g.number) [.slot k, .settings] ∧
                s.changesOnly t [.time, .port, .log, .settings, .alerts, .store, .engine]) ∧
            (∀ k : Fin 16, s.bands.entries[k].locked = false →
              let e := s.bands.entries[k]
              let chosen (applied staged : BandEntry) : BandEntry := if e.weightPart.enabled then staged else applied
              (∀ (m l1 l0 h1 h0 : Byte) (rest : List Byte) (metric : Metric), metricOfCode m.toNat = some metric →
                  let c := Condition.clamped metric (int16 l1 l0) (int16 h1 h0)
                  edited (.bandPrimary slot (byteOf k.val :: m :: l1 :: l0 :: h1 :: h0 :: rest)) 0x30#8 k
                      (chosen { e with primary := c } { e with stagedPrimary := some c }) ∧
                    edited (.bandSecondary slot (byteOf k.val :: m :: l1 :: l0 :: h1 :: h0 :: rest)) 0x31#8 k
                      (chosen { e with secondary := some c } { e with stagedSecondary := some (some c) })) ∧
                (∀ rest : List Byte,
                  edited (.bandSecondary slot (byteOf k.val :: 0xFF#8 :: rest)) 0x31#8 k
                    (chosen { e with secondary := none } { e with stagedSecondary := some none })) ∧
                (∀ (a c b w1 w0 n : Byte) (w : WeightPart),
                  weightPartOf a.toNat c.toNat b.toNat (nat16 w1 w0) n.toNat = some w →
                    edited (.bandWeight slot [byteOf k.val, a, c, b, w1, w0, n]) 0x32#8 k
                      (chosen { e with weightPart := w } { e with stagedWeight := some w })) ∧
                (e.weightPart.enabled = true → ∀ rest : List Byte,
                  edited (.bandLock slot (byteOf k.val :: rest)) 0x33#8 k { e with locked := true })) ∧
            (∀ (id a v3 v2 v1 v0 : Byte) (rest : List Byte) (v : Settings),
              s.settings.write id.toNat (signedOf 32 (nat32 v3 v2 v1 v0)) = some v →
              ∃ t, exec (.writeSetting slot (id :: a :: v3 :: v2 :: v1 :: v0 :: rest)) s = .next t ∧
                t.settings = v ∧ answered t 0x40#8 [] [.settings] ∧ t.bands = s.bands ∧ t.log = s.log ∧
                t.lines = s.lines) ∧
            ∀ (id a v3 v2 v1 v0 : Byte) (rest : List Byte) (i : AccountIx) (b : Account), a.toNat = i.val →
              (s.account i).writeSetting id.toNat (nat32 v3 v2 v1 v0) = some b →
              ∃ t, exec (.writeSetting slot (id :: a :: v3 :: v2 :: v1 :: v0 :: rest)) s = .next t ∧
                t.account i = b ∧ s.keepsOtherAccounts t i ∧ answered t 0x40#8 [] [.account i] ∧
                s.changesOnly t [.time, .port, .accounts, .alerts, .store, .engine])

/-! ## Observation frames and ageing (R25 to R40) -/

/-- A frame the filter table gives a format, with the part ACTIVE on the bus, is decoded in that format whichever controller
sent it, and restarts the linger; a frame that is neither a request nor matched has no effect (R26 to R29, R38, R40). -/
def Obligations.ObservationFramesAreDecoded : Prop :=
  ∀ (s : State) (id : CanId) (data : List Byte) (c : Instr),
    c = .engineState id data ∨ c = .drivelineState id data ∨ c = .drivelineEvent id data → s.onBus = true →
    s.time.mode = .active →
      ∃ t, exec c s = .next t ∧
        match routeOf s.time.straps s.settings.filters id, data with
        | .ignored, _ => t = s
        | .request slot, _ => t = s.takeRequestData slot data
        | .observation .engineState, b0 :: b1 :: b2 :: b3 :: b4 :: _ =>
          t.intake =
              { s.intake with
                engineSpeed := s.intake.engineSpeed.refresh (speedField 8000 b0 b1)
                engineTorque := s.intake.engineTorque.refresh (torqueField b2)
                engineOil := s.intake.engineOil.refresh (oilField b3)
                starterStatus := s.intake.starterStatus.refresh (starterField b4) } ∧
            t.time = s.restartLinger.time ∧
            s.changesOnly t [.time, .intake, .qualifier, .accounts, .alerts, .port, .store]
        | .observation .drivelineState, b0 :: b1 :: b2 :: b3 :: b4 :: b5 :: b6 :: _ =>
          t =
            { s.restartLinger with
              intake :=
                { s.intake with
                  gear := s.intake.gear.refresh (gearField b0)
                  clutchState := s.intake.clutchState.refresh (clutchField b1)
                  slipSpeed := s.intake.slipSpeed.refresh (speedField 4000 b2 b3)
                  outputSpeed := s.intake.outputSpeed.refresh (speedField 6000 b4 b5)
                  transmissionOil := s.intake.transmissionOil.refresh (oilField b6) } }
        | .observation .drivelineEvent, shift :: engagement :: _ =>
          t.intake =
              { s.intake with
                eventGroup := { cls := .fresh, age := 0 }
                shiftBaseline := some shift
                engagementBaseline := some engagement } ∧
            t.time = s.restartLinger.time ∧ s.changesOnly t [.time, .intake, .accounts, .alerts, .port, .store]
        | .observation _, _ => t = s.restartLinger

/-- The events of a DRIVELINE EVENT frame: with a baseline and a difference d of 1..64 modulo 256, d events to GEARBOX from
the shift counter and to CLUTCH from the engagement counter; else none, and no alert. The group is refreshed and both
baselines take the frame's values (R34, R36, R37). Each event counts in both event counts and credits the event weight × the
multiplier of the transmission oil × 36,000 / 288,000 (R12, R14, R37, R80, R82; 8 when it is UNKNOWN): d of them at once leave
the same remainder and wear as their sum. With a whole unit carried the thresholds are evaluated (R16). -/
def Obligations.RollingCountersPostEvents : Prop :=
  ∀ (s : State) (id : CanId) (shift engagement : Byte) (rest : List Byte), s.onBus = true → s.time.mode = .active →
    routeOf s.time.straps s.settings.filters id = .observation .drivelineEvent →
      ∃ t, exec (.drivelineEvent id (shift :: engagement :: rest)) s = .next t ∧
        let multiplier : Nat :=
          match s.intake.transmissionOil.known with
          | none => 8
          | some v =>
            if v < s.settings.transmissionOil.cold then s.settings.coldMultiplier
            else if v < s.settings.transmissionOil.hot then 8
            else if v < s.settings.transmissionOil.critical then s.settings.hotMultiplier
            else s.settings.criticalMultiplier
        let posted (i : AccountIx) (baseline : Option Byte) (value : Byte) : Prop :=
          let a := s.account i
          match baseline with
          | none => t.account i = a ∧ s.thresholdsStand t i
          | some b =>
            let d := (value - b).toNat
            let credit := a.credit + d * (a.eventWeight.getD 0 * multiplier * 36000)
            if 1 ≤ d ∧ d ≤ 64 then
              t.account i =
                  { a with
                    events := a.events.map fun n => min (n + d) 4294967295
                    ssEvents := a.ssEvents.map fun n => min (n + d) 4294967295
                    credit := credit % 288000
                    wear := min (a.wear + credit / 288000) 4294967295
                    ssWear := min (a.ssWear + credit / 288000) 4294967295
                    saturated := (t.account i).saturated } ∧
                (a.saturated = true → (t.account i).saturated = true) ∧
                if credit / 288000 = 0 then s.thresholdsStand t i else s.thresholdsSettled t i
            else t.account i = a ∧ s.thresholdsStand t i
        posted 3 s.intake.shiftBaseline shift ∧ posted 2 s.intake.engagementBaseline engagement ∧
          t.account 0 = s.account 0 ∧ t.account 1 = s.account 1 ∧ t.account 4 = s.account 4 ∧
          t.intake =
            { s.intake with
              eventGroup := { cls := .fresh, age := 0 }
              shiftBaseline := some shift
              engagementBaseline := some engagement } ∧
          (counted s.intake.shiftBaseline shift = 0 → counted s.intake.engagementBaseline engagement = 0 →
            t.alerts = s.alerts)

/-- A frame is heard neither off the bus nor in a reset, a load or DORMANT. In PARKED the first frame of any command, a request
too, wakes the part, is not routed, and starts the linger and the metering timer; IGN asserted wakes it with no linger, and
in ACTIVE only its level changes (R43, R179, R187). A wake frame outside PARKED changes nothing (the model's choice, log
12). -/
def Obligations.ParkedPartWakes : Prop :=
  (∀ (s : State) (c : Instr), isFrame c = true →
      (s.onBus = false → exec c s = .next s) ∧
        (s.onBus = true → s.time.mode = .parked →
          ∃ t, exec c s = .next t ∧ t.time = { s.time with mode := .active, linger := some 30000 } ∧
            t.meter = { s.meter with timer := some 100 } ∧
            s.changesOnly t [.time, .meter, .qualifier, .accounts, .alerts, .port, .store]) ∧
        (s.time.mode ≠ .parked → exec .wakeFrame s = .next s)) ∧
    ∀ s : State, s.lines.ign = false → s.time.inReset = none →
      ∃ t, exec .ignAsserted s = .next t ∧ t.lines = { s.lines with ign := true } ∧
        (s.time.mode = .parked →
          t.time = { s.time with mode := .active } ∧ t.meter = { s.meter with timer := some 100 } ∧
            s.changesOnly t [.lines, .time, .meter, .qualifier, .accounts, .alerts, .port, .store]) ∧
        (s.time.mode ≠ .parked → s.changesOnly t [.lines])

/-- A FRESH signal whose age passes the fresh limit becomes HELD (R31). A FRESH or HELD signal whose age passes the hold limit
becomes UNKNOWN, and the DRIVELINE EVENT group takes both baselines with it (R33, R35); engine speed ends a confirmation
UNVERIFIED and starts the stop timer of RUNNING (R97, R101). -/
def Obligations.SignalsGrowOld : Prop :=
  ∀ (s : State) (n : SignalName), s.isRunning = true →
    (∃ t, exec (.signalHeld n) s = .next t ∧
        (t.intake.ageing n).cls = (if (s.intake.ageing n).cls = .fresh then .held else (s.intake.ageing n).cls) ∧
        (∀ m, m ≠ n → t.intake.ageing m = s.intake.ageing m) ∧
        t.intake.engineSpeed.value = s.intake.engineSpeed.value ∧ s.changesOnly t [.intake]) ∧
      ∃ t, exec (.signalUnknown n) s = .next t ∧ (t.intake.ageing n).cls = .unknown ∧
        (∀ m, m ≠ n → t.intake.ageing m = s.intake.ageing m) ∧
        ((s.intake.ageing n).cls = .unknown → t = s) ∧
        ((s.intake.ageing n).cls ≠ .unknown → n = .drivelineEvent →
          t.intake.shiftBaseline = none ∧ t.intake.engagementBaseline = none) ∧
        ((s.intake.ageing n).cls ≠ .unknown → n = .engineSpeed →
          (∀ a c, s.qualifier.state = .confirming a c →
              t.qualifier.state = .idle ∧ t.qualifier.ring.getLast? = some (a.entry .unverified)) ∧
            (s.qualifier.state = .running none →
              t.qualifier.state = .running (some (s.settings.stopTime * 100)))) ∧
        s.changesOnly t [.intake, .qualifier, .accounts, .alerts, .port, .store]

/-! ## The Start Qualifier (R93 to R105) -/

/-- A crank trigger by the CRANK line in IDLE opens an attempt and posts one STARTER event: in LEVEL mode an assertion that
moves the latch, in EDGE mode each rising edge (R89, R93). -/
def Obligations.CrankTriggerOpensAttempt : Prop :=
  ∀ s : State, s.isRunning = true → s.lines.crank = false → s.qualifier.state = .idle →
    s.settings.crankMode = .edge ∨ (s.settings.crankMode = .level ∧ s.qualifier.latch = false) →
      ∃ t, exec (.crankChange true) s = .next t ∧ t.lines = { s.lines with crank := true } ∧
        t.qualifier.state =
          .cranking
            { beginTime := s.time.deviceTime, oil := s.intake.engineOil.known,
              cold := isCold s.settings s.intake.engineOil.known, crankCount := 1, durationMs := 0,
              determined := s.settings.crankMode == .level || s.intake.starterStatus.known.isSome, sinceOpenMs := 0,
              timeToRun := none, window := s.settings.crankWindow, confirm := s.settings.confirmTime,
              threshold := s.settings.runThreshold }
            (s.settings.crankWindow * 100) ∧
        (s.settings.crankMode = .level → t.qualifier.latch = true) ∧ t.qualifier.ring = s.qualifier.ring ∧
        t.qualifier.failures = s.qualifier.failures ∧
        (t.account 1).events = (s.account 1).events.map (fun n => min (n + 1) 4294967295) ∧
        (t.account 1).credit =
          ((s.account 1).credit +
              (s.account 1).eventNumerator (startMultiplier s.settings (isCold s.settings s.intake.engineOil.known))) %
            288000 ∧
        s.keepsOtherAccounts t 1 ∧ s.changesOnly t [.lines, .qualifier, .accounts, .alerts, .port, .store] ∧
        t.store.queue = s.store.queue

/-- A crank trigger while the Qualifier is CRANKING or CONFIRMING is a re-crank: the crank count +1 up to 255, one STARTER
event with the attempt's cold flag, the begin time, the captured values and the timers as they stood (R94). -/
def Obligations.RecrankCountsWithinAttempt : Prop :=
  ∀ (s : State) (a : Attempt) (left : Nat) (q : Attempt → QualifierState),
    q = (fun x => .cranking x left) ∨ q = (fun x => .confirming x left) → s.isRunning = true →
    s.lines.crank = false → s.qualifier.latch = false → s.settings.crankMode = .level → s.qualifier.state = q a →
      ∃ t, exec (.crankChange true) s = .next t ∧
        t.qualifier =
          { s.qualifier with
            latch := true
            state := q { a with crankCount := min (a.crankCount + 1) 255, determined := true } } ∧
        (t.account 1).events = (s.account 1).events.map (fun n => min (n + 1) 4294967295) ∧
        (t.account 1).ssEvents = (s.account 1).ssEvents.map (fun n => min (n + 1) 4294967295) ∧
        (t.account 1).credit =
          ((s.account 1).credit + (s.account 1).eventNumerator (startMultiplier s.settings a.cold)) % 288000 ∧
        s.keepsOtherAccounts t 1 ∧ s.changesOnly t [.lines, .qualifier, .accounts, .alerts, .port, .store]

/-- A crank trigger while the Qualifier is RUNNING posts one STARTER event, cold by the oil at the trigger, adds 1 to
engaged-while-running, opens no attempt and leaves the stop timer (R100). -/
def Obligations.CrankWhileRunningIsCounted : Prop :=
  ∀ (s : State) (stop : Option Nat), s.isRunning = true → s.lines.crank = false → s.qualifier.latch = false →
    s.settings.crankMode = .level → s.qualifier.state = .running stop →
      ∃ t, exec (.crankChange true) s = .next t ∧ t.qualifier = { s.qualifier with latch := true } ∧
        (t.account 1).events = (s.account 1).events.map (fun n => min (n + 1) 4294967295) ∧
        (t.account 1).ssEvents = (s.account 1).ssEvents.map (fun n => min (n + 1) 4294967295) ∧
        (t.account 1).engagedWhileRunning =
          (s.account 1).engagedWhileRunning.map (fun n => min (n + 1) 4294967295) ∧
        (t.account 1).credit =
          ((s.account 1).credit +
              (s.account 1).eventNumerator
                (startMultiplier s.settings (isCold s.settings s.intake.engineOil.known))) % 288000 ∧
        s.keepsOtherAccounts t 1 ∧ s.changesOnly t [.lines, .qualifier, .accounts, .alerts, .port, .store]

/-- An update with engine speed at or above the captured threshold in CRANKING stops the window and starts the confirm timer
(R95); here the starter status field is not available and the latch agrees with crank active. -/
def Obligations.EngineCaughtConfirms : Prop :=
  ∀ (s : State) (id : CanId) (b0 b1 b2 b3 : Byte) (rest : List Byte) (a : Attempt) (left : Nat) (v : Int),
    s.onBus = true → s.time.mode = .active →
    routeOf s.time.straps s.settings.filters id = .observation .engineState → s.qualifier.state = .cranking a left →
    s.crankActiveNow = some s.qualifier.latch → speedField 8000 b0 b1 = some v → (a.threshold : Int) ≤ v →
      ∃ t, exec (.engineState id (b0 :: b1 :: b2 :: b3 :: 0x03#8 :: rest)) s = .next t ∧
        t.qualifier =
          { s.qualifier with
            state :=
              .confirming { a with determined := true, timeToRun := some (min (a.sinceOpenMs / 100) 65534) }
                (a.confirm * 100) } ∧
        t.accounts = s.accounts ∧ t.alerts = s.alerts ∧ t.port = s.port

/-- Expiry of the crank window in CRANKING ends the attempt FAILED with engine speed known, UNVERIFIED with it UNKNOWN: a
history entry, the failure counted, IDLE, the latch as it was; at the limit START_FAILURES is raised (R96, R103 to R105). -/
def Obligations.CrankWindowExpiryEndsAttempt : Prop :=
  ∀ (s : State) (a : Attempt) (left : Nat), s.isRunning = true → s.qualifier.state = .cranking a left →
    ∃ t, exec .crankWindowExpiry s = .next t ∧
      t.qualifier =
        { state := .idle
          latch := s.qualifier.latch
          failures := min (s.qualifier.failures + 1) 255
          ring :=
            (s.qualifier.ring ++
                  [a.entry (if s.intake.engineSpeed.known.isSome then .failed else .unverified)]).drop
              (s.qualifier.ring.length + 1 - 16) } ∧
      (if s.settings.failureLimit ≤ min (s.qualifier.failures + 1) 255 then
        ∃ e, t.alerts.entry (accountPair 1 .startFailures) = some e ∧
          e.parameter = some (byteOf (min (s.qualifier.failures + 1) 255)) ∧ e.state = .pending
      else t.alerts = s.alerts) ∧
      s.changesOnly t [.qualifier, .alerts, .port]

/-- Expiry of the confirm timer: with engine speed known QUALIFIED, one ENGINE event, a cold start if the flag is set, the
count 0, RUNNING with the stop timer not running; with it UNKNOWN, UNVERIFIED and IDLE (R98). The event credits the event
weight × the cold-start multiplier or 8 × 36,000 / 288,000 (R12, R14, R80, R81); with a whole unit carried the thresholds
are evaluated (R16). -/
def Obligations.ConfirmExpiryQualifies : Prop :=
  ∀ (s : State) (a : Attempt) (left : Nat), s.isRunning = true → s.qualifier.state = .confirming a left →
    let x := s.account 0
    let credit :=
      x.credit + x.eventWeight.getD 0 * (if a.cold then s.settings.coldStartMultiplier else 8) * 36000
    ∃ t, exec .confirmExpiry s = .next t ∧ t.qualifier.latch = s.qualifier.latch ∧
      if s.intake.engineSpeed.known.isSome = true then
        t.qualifier.state = .running none ∧ t.qualifier.failures = 0 ∧
          t.qualifier.ring.getLast? = some (a.entry .qualified) ∧
          t.account 0 =
            { x with
              events := x.events.map fun n => min (n + 1) 4294967295
              ssEvents := x.ssEvents.map fun n => min (n + 1) 4294967295
              coldStarts := if a.cold then x.coldStarts.map (fun n => min (n + 1) 4294967295) else x.coldStarts
              credit := credit % 288000
              wear := min (x.wear + credit / 288000) 4294967295
              ssWear := min (x.ssWear + credit / 288000) 4294967295
              saturated := (t.account 0).saturated } ∧
          (x.saturated = true → (t.account 0).saturated = true) ∧
          (if credit / 288000 = 0 then s.thresholdsStand t 0 else s.thresholdsSettled t 0) ∧
          s.keepsOtherAccounts t 0 ∧ s.changesOnly t [.qualifier, .accounts, .alerts, .port, .store]
      else
        t.qualifier.state = .idle ∧ t.qualifier.failures = min (s.qualifier.failures + 1) 255 ∧
          t.qualifier.ring.getLast? = some (a.entry .unverified) ∧ s.changesOnly t [.qualifier, .alerts, .port]

/-! ## Timers and time -/

/-- Expiry of a running stop timer makes the Qualifier IDLE, with no entry and no count (R101); a whole second adds 1 to device
time, holding at the maximum, outside DORMANT and resets (R184). -/
def Obligations.StopTimerAndSecondExpire : Prop :=
  (∀ (s : State) (left : Nat), s.isRunning = true → s.qualifier.state = .running (some left) →
      exec .stopTimerExpiry s = .next { s with qualifier := { s.qualifier with state := .idle } }) ∧
    ∀ s : State, s.time.inReset = none → s.time.mode ≠ .dormant →
      exec .deviceTimeSecond s =
        .next
          { s with
            time := { s.time with deviceTime := min (s.time.deviceTime + 1) 4294967295, subSecondMs := 0 } }

/-- The linger's expiry with no other hold and the store READY: with every account covered or unchanged the part enters PARKED,
with every signal UNKNOWN, the latch FALSE, no frame and no request; with one changed and uncovered it stays ACTIVE and
writes (R185, R186). -/
def Obligations.LingerExpiryParksOrWrites : Prop :=
  ∀ s : State, s.isActive = true → s.time.linger.isSome = true → s.lines.ign = false → s.store.state = .ready →
    s.store.queue = [] → s.store.inFlight = none → s.engine.resetPending = false →
      ∃ t, exec .lingerExpiry s = .next t ∧ t.time.linger = none ∧
        if s.store.accountUncovered = true then
          t.time.mode = .active ∧ t.store.state = .writing ∧ (∀ r, s.store.isChanged r = true → t.store.covered r = true) ∧
            s.changesOnly t [.time, .accounts, .store, .engine]
        else
          t.time.mode = .parked ∧ t.meter.timer = none ∧ (∀ n, (t.intake.ageing n).cls = .unknown) ∧
            t.intake.shiftBaseline = none ∧ t.intake.engagementBaseline = none ∧ t.qualifier.latch = false ∧
            t.port.tx = [] ∧ (∀ k : SlotIx, t.engine.slots[k].inFlight = none) ∧ t.bands = s.bands ∧
            t.settings = s.settings

/-- The end of a monitor window in ACTIVE outside a load (R182). -/
def Obligations.MonitorWindowSelects : Prop :=
  ∀ (s : State) (cycles : Nat), s.isRunning = true →
    ∃ t, exec (.monitorWindow cycles) s = .next t ∧
      match s.time.selection with
      | .crystal =>
        if 72000 ≤ cycles ∧ cycles ≤ 88000 then t = s
        else
          t.time.selection = .internalRc ∧ t.time.goodWindows = 0 ∧ t.time.timebaseHeld = true ∧
            (∀ e, t.log.openEntry = some e → e.seg.flags.timebaseDegraded = true) ∧
            s.changesOnly t [.time, .alerts, .port, .log, .store]
      | .internalRc =>
        if 72000 ≤ cycles ∧ cycles ≤ 88000 then
          if s.time.goodWindows + 1 < 100 then
            t = { s with time := { s.time with goodWindows := s.time.goodWindows + 1 } }
          else
            t.time.selection = .crystal ∧ t.time.timebaseHeld = false ∧ s.changesOnly t [.time, .alerts, .port]
        else t = { s with time := { s.time with goodWindows := 0 } }

/-! ## The store and the supply -/

/-- A completion without fault while WRITING, with IGN asserted, no PFW taken and no reset waiting: the array holds the image,
the mark goes unless the record changed since, the next queued write begins or the store is READY (R151, R156). A deferred
response whose last write it is is released OK with its payload, the slot IDLE (R157, R170). The suspect mark of the band entry
whose record was written, or of record 5, is cleared and the record reported good: it leaves the list of suspect records, and
when the list becomes empty RECORD_SUSPECT becomes false (R61, R135, R153); any other write leaves marks and alerts. -/
def Obligations.GoodWriteCompletes : Prop :=
  (∀ (s : State) (w : Write), s.store.inFlight = some w → s.store.state = .writing → s.store.pfwTaken = false →
      s.engine.resetDue = false → s.lines.ign = true →
        let marked : Prop :=
          (∃ k : Fin 16, w.record = .band k ∧ s.bands.suspect[k] = true) ∨
            (w.record = .settings ∧ s.store.settingsSuspect = true)
        ∃ t, exec (.writeCompletion false) s = .next t ∧
          t.store.array = s.store.array.set w.record.index (.whole w.image) ∧
          t.store.isChanged w.record = (w.dirty && s.store.isChanged w.record) ∧
          (∀ r, r ≠ w.record → t.store.isChanged r = s.store.isChanged r) ∧
          (match s.store.queue with
            | [] => t.store.state = .ready ∧ t.store.inFlight = none ∧ t.store.queue = []
            | r :: rest =>
              t.store.state = .writing ∧ t.store.queue = rest ∧
                ∃ x, t.store.inFlight = some x ∧ x.record = r ∧ x.dirty = false) ∧
          t.bands =
              (match w.record with
                | .band k => { s.bands with suspect := s.bands.suspect.set k false }
                | _ => s.bands) ∧
          t.store.settingsSuspect = (s.store.settingsSuspect && w.record != .settings) ∧
          (¬marked → t.alerts = s.alerts) ∧
          (marked → t.alerts.suspects = s.alerts.suspects.filter fun r => r != w.record) ∧
          (marked → w.record ∈ s.alerts.suspects → t.alerts.suspects = [] →
            t.alerts.holds (devicePair .recordSuspect) = false) ∧
          (marked → t.alerts.suspects ≠ [] →
            t.alerts.entries = s.alerts.entries ∧ t.alerts.heldTrue = s.alerts.heldTrue) ∧
          s.changesOnly t [.port, .bands, .accounts, .alerts, .store, .engine]) ∧
    ∀ (s : State) (w : Write) (slot : SlotIx) (kind : Byte) (ops payload : List Byte), s.store.inFlight = some w →
      s.store.state = .writing → s.store.pfwTaken = false → s.engine.resetDue = false → s.lines.ign = true →
      s.engine.slots[slot].inFlight =
        some { kind := kind, ops := ops, phase := .waiting [{ record := w.record, begun := true }] payload } →
      (∀ k : SlotIx, k ≠ slot → s.engine.slots[k].inFlight = none) → s.port.hasRoom = true →
        ∃ t, exec (.writeCompletion false) s = .next t ∧ t.engine.slots[slot].inFlight = none ∧
          responseFrame s.time.straps slot kind .ok payload false ∈ t.port.tx

/-- A completion with a fault while WRITING, with IGN asserted, no PFW taken and no reset waiting. With no STORE_FAULT entry:
one is raised with the record id, the record is queued again, the mark stays. With one standing: OFFLINE, STORE_OFFLINE true,
nothing queued, no response waiting (R159, R160). -/
def Obligations.WriteFaultRequeuesOrGoesOffline : Prop :=
  ∀ (s : State) (w : Write), s.store.inFlight = some w → s.store.state = .writing → s.store.pfwTaken = false →
    s.engine.resetDue = false → s.lines.ign = true →
      ∃ t e, exec (.writeCompletion true) s = .next t ∧ t.store.array = s.store.array.set w.record.index .bad ∧
        t.store.changed = s.store.changed ∧ t.alerts.entry (devicePair .storeFault) = some e ∧
        e.parameter = some (byteOf w.record.number) ∧
        s.changesOnly t [.port, .accounts, .alerts, .store, .engine] ∧
        match s.alerts.entry (devicePair .storeFault) with
        | none => t.store.state = .writing ∧ t.store.covered w.record = true
        | some _ =>
          t.store.state = .offline ∧ t.store.queue = [] ∧ t.store.inFlight = none ∧
            t.alerts.holds (devicePair .storeOffline) = true ∧
            ∀ (k : SlotIx) (q : InFlight), t.engine.slots[k].inFlight = some q →
              ∀ waits payload, q.phase ≠ .waiting waits payload

/-- PFW asserted (R161): READY fixes the flush list and writes its first account, or with none changed enters DORMANT; WRITING
waits for the write in flight; OFFLINE enters DORMANT; FLUSHING changes nothing, LOADING waits for the load's end. PFW released
(R161, R162, R188): DORMANT ends with a warm reset; FLUSHING notes it; WRITING cancels the flush. In a reset, and an assertion
in DORMANT, change the level alone.
A completion (first fault or none, no commanded reset waiting) in WRITING with PFW taken discards the queue and starts the flush;
one in FLUSHING begins the next write of the list; at its end the part enters DORMANT, or after a release every record still
changed is queued, the store WRITING or READY, an ACTIVE part staying ACTIVE and a PARKED one waking if a record was queued
(R161, steps 1 to 6; R162; R188). A waking part may open an attempt, which changes account 1 again. A second fault takes the
store OFFLINE and the part enters DORMANT, or after a release stays in its mode (R161, step 5).
Three points are the model's reading (DEDUCED, log 16), not R161's words: a release in LOADING leaves nothing to take at the load's
end; a second assertion in FLUSHING lets an earlier release stand; a second fault in WRITING with the assertion still waiting
enters DORMANT in that step. -/
def Obligations.PowerFailFollowsLine : Prop :=
  (∀ s : State, s.lines.pfw = false →
      ∃ t, exec .pfwAsserted s = .next t ∧ t.lines = { s.lines with pfw := true } ∧ t.store.changed = s.store.changed ∧
        (s.time.inReset.isSome = true ∨ s.time.mode = .dormant → s.changesOnly t [.lines]) ∧
        (s.time.inReset = none → s.time.mode ≠ .dormant →
          match s.store.state, s.store.changedAccounts with
          | .ready, i :: rest =>
            t.store.state = .flushing ∧ t.store.queue = [] ∧ t.store.flushList = rest ∧ t.time = s.time ∧
              ∃ w, t.store.inFlight = some w ∧ w.record = .account i ∧ w.dirty = false
          | .ready, [] => t.store.state = .flushing ∧ t.time.mode = .dormant ∧ t.meter.timer = none
          | .writing, _ => t.store = { s.store with pfwTaken := true } ∧ s.changesOnly t [.lines, .store]
          | .offline, _ => t.time.mode = .dormant ∧ t.meter.timer = none ∧ t.store = s.store
          | .flushing, _ => s.changesOnly t [.lines]
          | .loading _, _ => s.changesOnly t [.lines])) ∧
    (∀ s : State, s.lines.pfw = true →
      ∃ t, exec .pfwReleased s = .next t ∧ t.lines = { s.lines with pfw := false } ∧
        (s.time.inReset.isSome = true → s.changesOnly t [.lines]) ∧
        (s.time.inReset = none → s.time.mode = .dormant →
          t.time.mode = .active ∧ t.time.inReset = some { kind := .warm, spoiled := false } ∧
            t.accounts = s.accounts ∧ t.log = s.log ∧ t.alerts = s.alerts ∧ t.qualifier = s.qualifier) ∧
        (s.time.inReset = none → s.time.mode ≠ .dormant →
          s.changesOnly t [.lines, .store] ∧
            t.store =
              match s.store.state with
              | .flushing => { s.store with pfwReleased := true }
              | .writing => { s.store with pfwTaken := false }
              | .loading _ | .ready | .offline => s.store)) ∧
    ∀ (s : State) (w : Write) (faulted : Bool), s.store.inFlight = some w → s.engine.resetDue = false →
      let image : Stored := if faulted then .bad else .whole w.image
      let left (r : RecordId) : Bool := s.store.isChanged r && (faulted || w.dirty || w.record != r)
      let marksStand (t : State) : Prop :=
        t.store.array = s.store.array.set w.record.index image ∧ ∀ r, t.store.isChanged r = left r
      let flushes (t : State) (i : AccountIx) (rest : List AccountIx) : Prop :=
        t.store.state = .flushing ∧ t.store.queue = [] ∧ t.store.flushList = rest ∧
          (∃ x, t.store.inFlight = some x ∧ x.record = .account i ∧ x.dirty = false) ∧
          s.changesOnly t [.port, .bands, .accounts, .alerts, .store, .engine]
      let dormant (t : State) : Prop :=
        t.store.inFlight = none ∧ t.store.queue = [] ∧ t.store.flushList = [] ∧ t.time.mode = .dormant ∧
          t.time.linger = none ∧ t.meter.timer = none ∧ t.engine.resetPending = false
      ((faulted = true → s.alerts.entry (devicePair .storeFault) = none) →
        (s.store.state = .writing → s.store.pfwTaken = true →
          ∃ t, exec (.writeCompletion faulted) s = .next t ∧ marksStand t ∧
            match (List.finRange 5).filter fun i : AccountIx => left (.account i) with
            | i :: rest => flushes t i rest
            | [] => t.store.state = .flushing ∧ dormant t) ∧
          (s.store.state = .flushing → s.store.queue = [] →
            ∃ t, exec (.writeCompletion faulted) s = .next t ∧
              match s.store.flushList, s.store.pfwReleased with
              | i :: rest, released => marksStand t ∧ flushes t i rest ∧ t.store.pfwReleased = released
              | [], false => marksStand t ∧ t.store.state = .flushing ∧ dormant t
              | [], true =>
                t.store.pfwReleased = false ∧ (∀ r, left r = true → t.store.isChanged r = true) ∧
                  if allRecords.any left = true then
                    t.store.state = .writing ∧
                      (∀ r, left r = true → s.time.mode ≠ .parked ∨ r ≠ .account 1 → t.store.covered r = true) ∧
                      (s.time.mode = .active → marksStand t ∧ t.time = s.time ∧ t.meter = s.meter) ∧
                      (s.time.mode = .parked →
                        t.time = { s.time with mode := .active } ∧ t.meter = { s.meter with timer := some 100 })
                  else
                    marksStand t ∧ t.store.state = .ready ∧ t.store.inFlight = none ∧ t.store.queue = [] ∧
                      t.time = s.time ∧ t.meter = s.meter)) ∧
        (faulted = true → (s.alerts.entry (devicePair .storeFault)).isSome = true →
          (s.store.state = .writing ∧ s.store.pfwTaken = true) ∨ s.store.state = .flushing →
            ∃ t, exec (.writeCompletion faulted) s = .next t ∧ marksStand t ∧ t.store.state = .offline ∧
              t.alerts.holds (devicePair .storeOffline) = true ∧
              if s.store.state = .flushing ∧ s.store.pfwReleased = true then
                t.store.inFlight = none ∧ t.store.queue = [] ∧ s.changesOnly t [.port, .alerts, .store, .engine]
              else dormant t)

/-! ## Resets and the load -/

/-- A cold reset (R149, R164, R180, R185) and a warm reset (R163, R189, R190): what each clears and keeps. A write in flight
leaves its record BAD. A dip below the retention level, or one that an interrupted reset had already seen, leaves the retained area
spoiled for the check at the reset's end (R189). The window the cold reset ends with decides the selection (R183). That COLD_RESET is the whole cold reset, with the straps and the window it ends with, is the model's choice
(log 14). -/
def Obligations.ResetsClearAndKeep : Prop :=
  ∀ (s : State) (straps : Straps) (cycles : Nat) (dip : Dip),
    let array :=
      match s.store.inFlight with
      | some w => s.store.array.set w.record.index .bad
      | none => s.store.array
    (∃ t, exec (.coldReset straps cycles) s = .next t ∧ t.store.state = .loading .cold ∧ t.store.queue = [] ∧
        t.store.array = array ∧ t.store.inFlight = none ∧ t.intake = Intake.afterReset ∧ t.meter = Meter.afterReset ∧
        t.qualifier = Qualifier.initial ∧ t.alerts = AlertUnit.initial ∧ t.port.tx = [] ∧ t.port.state = .running ∧
        t.engine = RequestEngine.afterReset ∧ t.time.mode = .active ∧ t.time.linger = some 30000 ∧
        t.time.straps = straps ∧ t.lines = s.lines ∧
        t.time.selection = (if 72000 ≤ cycles ∧ cycles ≤ 88000 then .crystal else .internalRc) ∧
        t.time.goodWindows = 0 ∧ t.time.timebaseHeld = false ∧ t.time.inReset = none) ∧
      ∃ t, exec (.warmReset dip) s = .next t ∧ t.store.array = array ∧ t.store.queue = [] ∧ t.store.inFlight = none ∧
        t.intake = Intake.afterReset ∧ t.meter = Meter.afterReset ∧ t.port.tx = [] ∧ t.port.state = .running ∧
        t.engine = RequestEngine.afterReset ∧ t.time.mode = .active ∧ t.time.linger = none ∧
        t.time.deviceTime = s.time.deviceTime ∧ t.time.subSecondMs = s.time.subSecondMs ∧
        t.time.timebaseHeld = s.time.timebaseHeld ∧
        (∃ r, t.time.inReset = some r ∧ r.kind = .warm ∧
          (r.spoiled = true ↔
            dip = .belowRetention ∨ ∃ before, s.time.inReset = some before ∧ before.spoiled = true)) ∧
        s.changesOnly t [.port, .intake, .meter, .store, .engine, .time]

/-- The end of a warm or commanded reset. Good check (R163, R183, R185, R190, R191): the window decides the selection, the reset
record counts, every record but those of empty slots is changed and covered, an OPEN segment carries WARM_RESET. Bad check, or a
retained area spoiled (R185, R189, R190, R191): LOADING with the linger started, the Qualifier and the Alert Unit in their initial
state, retention lost, bands, settings and suspect marks kept, the accounts left to the load. A reset that began while LOADING is
ended so whatever the check, and the load it interrupted begins again as it was, cold or after a failed check (R190). -/
def Obligations.ResetEndFollowsCheck : Prop :=
  (∀ (s : State) (kind : ResetKind) (recordGood : Bool) (cycles : Nat) (straps : Straps),
      s.time.inReset = some { kind := kind, spoiled := false } → kind ≠ .cold → s.store.isLoading = false →
      s.store.inFlight = none →
        ∃ t, exec (.resetEnd true recordGood cycles straps) s = .next t ∧ t.time.inReset = none ∧
          t.time.selection = (if 72000 ≤ cycles ∧ cycles ≤ 88000 then .crystal else .internalRc) ∧
          t.time.goodWindows = 0 ∧ t.time.subSecondMs = 0 ∧ t.time.straps = straps ∧
          t.time.deviceTime = s.time.deviceTime ∧ t.time.linger = some 30000 ∧ t.meter.timer = some 100 ∧
          t.time.resetRecord =
            { kind := kind
              retentionLost := false
              warmCount :=
                if kind = .warm then
                  min ((if recordGood then s.time.resetRecord.warmCount else 0) + 1) 255
                else if recordGood then s.time.resetRecord.warmCount else 0
              deviceTime := s.time.deviceTime } ∧
          t.store.state = .writing ∧ t.bands = s.bands ∧ t.settings = s.settings ∧
          (∀ r, (∀ k, r = .slot k → (s.log.inSlot k).isSome = true) →
            t.store.isChanged r = true ∧ t.store.covered r = true) ∧
          (∀ e, t.log.openEntry = some e → e.seg.flags.warmReset = true) ∧
          t.alerts.holds (devicePair .storeOffline) = false) ∧
    ∀ (s : State) (r : ResetInProgress) (good recordGood : Bool) (cycles : Nat) (straps : Straps),
      s.time.inReset = some r → good = false ∨ r.spoiled = true ∨ s.store.isLoading = true →
        let count := if recordGood then s.time.resetRecord.warmCount else 0
        ∃ t, exec (.resetEnd good recordGood cycles straps) s = .next t ∧
          t.store =
              { s.store with
                state :=
                  match s.store.state with
                  | .loading kind => .loading kind
                  | .ready | .writing | .flushing | .offline => .loading .failedCheck
                queue := [] } ∧
          t.qualifier = Qualifier.initial ∧ t.alerts = AlertUnit.initial ∧
          t.time =
              { s.time with
                inReset := none
                selection := if 72000 ≤ cycles ∧ cycles ≤ 88000 then .crystal else .internalRc
                goodWindows := 0
                timebaseHeld := false
                subSecondMs := 0
                linger := some 30000
                resetRecord :=
                  { kind := r.kind
                    retentionLost := true
                    warmCount :=
                      match r.kind with
                      | .warm => min (count + 1) 255
                      | .commanded => count
                      | .cold => 0
                    deviceTime := s.time.resetRecord.deviceTime }
                straps := straps } ∧
          s.changesOnly t [.qualifier, .alerts, .store, .time]

/-- The end of a load, cold or after a failed check, with CRANK and PFW released, after its reset (R24, R42, R60, R130, R153, R154,
R190): each account formed from its record, a field outside its range making the record BAD, and its thresholds evaluated and
reported (R16, R149); at a cold load the settings and each band entry formed from theirs, after a failed check the kept ones and
their suspect marks standing; the two counters those of the newest segment that is not DAMAGED where its serial is the greater
(R130). Each suspect mark and each DAMAGED segment is reported, and nothing else (R61, R129, R135). Device time is the greatest last
write time read, the reset record takes it (R191), the timers are started, the linger running on from the end of the reset (the
model's choice, log 5). The sub-second count becomes 0 (the model's choice, log 28). -/
def Obligations.ColdLoadFormsState : Prop :=
  ∀ (s : State) (kind : LoadKind), s.store.state = .loading kind → s.store.inFlight = none → s.time.inReset = none →
    s.time.mode = .active → s.intake = Intake.afterReset → s.qualifier = Qualifier.initial →
    s.alerts = AlertUnit.initial → s.lines.crank = false → s.lines.pfw = false →
      ∃ t, exec .loadEnd s = .next t ∧
        (∀ i : AccountIx,
          t.account i =
              (match (s.store.stored (.account i)).judgeAccount i with
                | .blank => Account.blank i
                | .good a => if a.state = .normal then a else { a with state := .suspect }
                | .bad => { Account.blank i with state := .suspect }) ∧
            (∀ a : Account, s.store.stored (.account i) = .whole (.account i a) →
              288000 ≤ a.credit ∨ 255 < a.serviceCount ∨ 65535 < a.baseWeight ∨ 4294967295 < a.wear →
                t.account i = { Account.blank i with state := .suspect }) ∧
            ((t.account i).state ≠ .normal → t.alerts.holds (accountPair i .recordSuspect) = true) ∧
            t.accounts.serviceDue[i] =
              decide ((t.account i).serviceThreshold ≠ 0 ∧ (t.account i).serviceThreshold ≤ (t.account i).ssWear) ∧
            t.accounts.lifeLimit[i] =
              decide ((t.account i).lifeThreshold ≠ 0 ∧ (t.account i).lifeThreshold ≤ (t.account i).ssWear) ∧
            t.alerts.holds (accountPair i .serviceDue) = t.accounts.serviceDue[i] ∧
            t.alerts.holds (accountPair i .lifeLimit) = t.accounts.lifeLimit[i]) ∧
        (let v :=
            match kind, (s.store.stored .settings).judgeSettings with
            | .failedCheck, _ => s.settings
            | .cold, .good v => v
            | .cold, .blank | .cold, .bad => Settings.default
          t.settings =
            match s.store.loadLog.reverse.find? fun e => e.seg.state != .damaged with
            | some e =>
              if v.lastSerial < e.seg.serial then
                { v with lastSegment := e.seg.number, lastSerial := e.seg.serial }
              else v
            | none => v) ∧
        t.store.settingsSuspect =
          (match kind, (s.store.stored .settings).judgeSettings with
            | .failedCheck, _ => s.store.settingsSuspect
            | .cold, .bad => true
            | .cold, .blank | .cold, .good _ => false) ∧
        (kind = .cold → ∀ v : Settings, s.store.stored .settings = .whole (.settings v) →
          v.holdLimit < 250 ∨ 5000 < v.holdLimit ∨ v.freshLimit < 100 ∨ 1000 < v.freshLimit →
            t.store.settingsSuspect = true) ∧
        (kind = .failedCheck → t.bands = s.bands) ∧
        (kind = .cold → ∀ k : Fin 16,
          (t.bands.entries[k], t.bands.suspect[k]) =
              (match (s.store.stored (.band k)).judgeBand k with
                | .blank => (BandEntry.blank, false)
                | .good e => (e, false)
                | .bad => (BandEntry.blank, true)) ∧
            ∀ e : BandEntry, s.store.stored (.band k) = .whole (.band k e) → 65535 < e.weightPart.weight →
              t.bands.suspect[k] = true) ∧
        (∀ r, r ∈ t.alerts.suspects ↔
          match r with
          | .account _ => False
          | .settings => t.store.settingsSuspect = true
          | .band k => t.bands.suspect[k] = true
          | .slot k => ∃ g, t.log.inSlot k = some g ∧ g.state = .damaged) ∧
        t.alerts.holds (devicePair .recordSuspect) = !t.alerts.suspects.isEmpty ∧
        t.time.deviceTime = s.store.loadedTime ∧ t.time.subSecondMs = 0 ∧ t.store.array = s.store.array ∧
        t.time.resetRecord = { s.time.resetRecord with deviceTime := s.store.loadedTime } ∧
        (t.store.state = .ready ∨ t.store.state = .writing) ∧ t.meter.timer = some 100 ∧
        t.time.linger = s.time.linger ∧ t.store.checkpointMs = s.store.checkpointMs

/-- The end of a load, cold or after a failed check (R129 to R131): the log holds what the slot records load, in order of opening
serial and then of slot, and a segment not OPEN stands as loaded. The newest OPEN one stays OPEN with POWER_GAP, no snapshot value
(event counts too) above its current value from the accounts as loaded; an older one is CLOSED with POWER_GAP, every delta 0, at
the open time of the next newer segment. Both records are covered, and POWER_GAP is raised. On the internal RC with TIMEBASE
held false the segment left OPEN gets TIMEBASE_DEGRADED (R183). -/
def Obligations.LoadHandlesOpenSegments : Prop :=
  ∀ (s : State) (kind : LoadKind), s.store.state = .loading kind → s.time.inReset = none →
    let asLoaded (i : AccountIx) : Account :=
      match (s.store.stored (.account i)).judgeAccount i with
      | .blank => Account.blank i
      | .good a => if a.state = .normal then a else { a with state := .suspect }
      | .bad => { Account.blank i with state := .suspect }
    let current := Tracked.current #v[asLoaded 0, asLoaded 1, asLoaded 2, asLoaded 3, asLoaded 4]
    let l := s.store.loadLog
    let newestOpen (n : Nat) : Prop := ∀ (m : Nat) (x : LogEntry), n < m → l[m]? = some x → x.seg.state ≠ .opened
    (∀ e : LogEntry, e ∈ l ↔
        match (s.store.stored (.slot e.slot)).judgeSlot e.slot with
        | .blank => False
        | .good g => e.seg = g
        | .bad => e.seg = Segment.damaged) ∧
      (l.Pairwise fun a b => a.seg.serial < b.seg.serial ∨ a.seg.serial = b.seg.serial ∧ a.slot < b.slot) ∧
      ∃ t, exec .loadEnd s = .next t ∧ t.log.entries.length = l.length ∧
        ∀ (n : Nat) (e f : LogEntry), l[n]? = some e → t.log.entries[n]? = some f →
          (e.seg.state ≠ .opened → f = e) ∧
            (e.seg.state = .opened →
              (t.alerts.entry (devicePair .powerGap)).isSome = true ∧ t.store.covered (.slot e.slot) = true) ∧
            (e.seg.state = .opened → ¬newestOpen n →
              f =
                { e with
                  seg :=
                    { e.seg with
                      state := .closed
                      closeTime := (l[n + 1]?).map fun x => x.seg.openTime
                      tracked := Tracked.zero
                      flags := { e.seg.flags with powerGap := true } } }) ∧
            (e.seg.state = .opened → newestOpen n →
              f =
                  { e with
                    seg :=
                      { e.seg with
                        tracked := f.seg.tracked
                        flags :=
                          { e.seg.flags with
                            powerGap := true
                            timebaseDegraded :=
                              e.seg.flags.timebaseDegraded ||
                                (s.time.selection == .internalRc && !s.time.timebaseHeld) } } } ∧
                f.seg.tracked.coldStarts = min e.seg.tracked.coldStarts current.coldStarts ∧
                f.seg.tracked.revolutions = min e.seg.tracked.revolutions current.revolutions ∧
                f.seg.tracked.unobserved = min e.seg.tracked.unobserved current.unobserved ∧
                ∀ i : AccountIx,
                  f.seg.tracked.figures[i].active = min e.seg.tracked.figures[i].active current.figures[i].active ∧
                    f.seg.tracked.figures[i].wear = min e.seg.tracked.figures[i].wear current.figures[i].wear ∧
                    f.seg.tracked.figures[i].events =
                      match e.seg.tracked.figures[i].events, current.figures[i].events with
                      | some u, some v => some (min u v)
                      | _, _ => none)

/-! ## The port (R172, R178, R179) -/

/-- The oldest frame leaves when its transmission completes: the place goes to the lowest HELD slot, else stays free; the response
of RESET DEVICE begins the commanded reset, with no write in flight at once (R172, R178). -/
def Obligations.TransmissionFreesPlace : Prop :=
  ∀ (s : State) (f : Frame) (rest : List Frame), s.onBus = true → s.port.tx = f :: rest →
    ((f.startsReset && s.engine.resetPending) = false → (∀ k : SlotIx, s.engine.slots[k].heldFrame = none) →
        exec .transmissionComplete s = .next { s with port := { s.port with tx := rest } }) ∧
      (∀ (k : SlotIx) (g : Frame), (f.startsReset && s.engine.resetPending) = false →
        s.engine.slots[k].heldFrame = some g → (∀ j : SlotIx, j < k → s.engine.slots[j].heldFrame = none) →
          exec .transmissionComplete s =
            .next (State.setInFlight { s with port := { s.port with tx := rest ++ [g] } } k none)) ∧
      (f.startsReset = true → s.engine.resetPending = true → s.store.inFlight = none →
        ∃ t, exec .transmissionComplete s = .next t ∧
          t.time.inReset = some { kind := .commanded, spoiled := false } ∧ t.port.tx = [] ∧ t.accounts = s.accounts)

/-- The port goes BUS_OFF: the queue emptied, every slot IDLE with its buffer kept, the restore buffer kept; recovery returns it
to RUNNING (R179). -/
def Obligations.BusOffAndRecovery : Prop :=
  (∀ s : State, s.onBus = true → s.engine.resetPending = false →
      ∃ t, exec .busOff s = .next t ∧ t.port = { tx := [], state := .busOff } ∧
        (∀ k : SlotIx, t.engine.slots[k] = { inFlight := none, buffer := s.engine.slots[k].buffer }) ∧
        t.engine.restore = s.engine.restore ∧ s.changesOnly t [.port, .engine]) ∧
    (∀ s : State, s.onBus = true → s.engine.resetPending = true → s.lines.ign = true →
      ∃ t, exec .busOff s = .next t ∧ t.engine.resetPending = false ∧ t.port = { tx := [], state := .busOff } ∧
        s.changesOnly t [.port, .engine]) ∧
    ∀ s : State, s.port.state = .busOff → s.time.mode ≠ .dormant →
      exec .busOffRecovery s = .next { s with port := { s.port with state := .running } }
end

