-- ==== Sys2Proof/Laws/State.lean ====
section
/-! SUPPORT. What every named update of the state leaves in every part: one lemma per part per update, each true by
definition, so that no proof unfolds an update. -/

namespace Sys2Proof.Machine

/-! ### setQualifier -/

@[simp] theorem State.setQualifier_pending (s : State) (q : QualifierState) :
    (s.setQualifier q).pending = s.pending := rfl

@[simp] theorem State.setQualifier_lines (s : State) (q : QualifierState) : (s.setQualifier q).lines = s.lines := rfl

@[simp] theorem State.setQualifier_port (s : State) (q : QualifierState) : (s.setQualifier q).port = s.port := rfl

@[simp] theorem State.setQualifier_intake (s : State) (q : QualifierState) : (s.setQualifier q).intake = s.intake := rfl

@[simp] theorem State.setQualifier_settings (s : State) (q : QualifierState) :
    (s.setQualifier q).settings = s.settings := rfl

@[simp] theorem State.setQualifier_bands (s : State) (q : QualifierState) : (s.setQualifier q).bands = s.bands := rfl

@[simp] theorem State.setQualifier_meter (s : State) (q : QualifierState) : (s.setQualifier q).meter = s.meter := rfl

@[simp] theorem State.setQualifier_accounts (s : State) (q : QualifierState) :
    (s.setQualifier q).accounts = s.accounts := rfl

@[simp] theorem State.setQualifier_qualifier (s : State) (q : QualifierState) :
    (s.setQualifier q).qualifier = { s.qualifier with state := q } := rfl

@[simp] theorem State.setQualifier_log (s : State) (q : QualifierState) : (s.setQualifier q).log = s.log := rfl

@[simp] theorem State.setQualifier_alerts (s : State) (q : QualifierState) : (s.setQualifier q).alerts = s.alerts := rfl

@[simp] theorem State.setQualifier_store (s : State) (q : QualifierState) : (s.setQualifier q).store = s.store := rfl

@[simp] theorem State.setQualifier_engine (s : State) (q : QualifierState) : (s.setQualifier q).engine = s.engine := rfl

@[simp] theorem State.setQualifier_time (s : State) (q : QualifierState) : (s.setQualifier q).time = s.time := rfl

/-! ### setAccount -/

@[simp] theorem State.setAccount_pending (s : State) (i : AccountIx) (a : Account) :
    (s.setAccount i a).pending = s.pending := rfl

@[simp] theorem State.setAccount_lines (s : State) (i : AccountIx) (a : Account) :
    (s.setAccount i a).lines = s.lines := rfl

@[simp] theorem State.setAccount_port (s : State) (i : AccountIx) (a : Account) :
    (s.setAccount i a).port = s.port := rfl

@[simp] theorem State.setAccount_intake (s : State) (i : AccountIx) (a : Account) :
    (s.setAccount i a).intake = s.intake := rfl

@[simp] theorem State.setAccount_settings (s : State) (i : AccountIx) (a : Account) :
    (s.setAccount i a).settings = s.settings := rfl

@[simp] theorem State.setAccount_bands (s : State) (i : AccountIx) (a : Account) :
    (s.setAccount i a).bands = s.bands := rfl

@[simp] theorem State.setAccount_meter (s : State) (i : AccountIx) (a : Account) :
    (s.setAccount i a).meter = s.meter := rfl

@[simp] theorem State.setAccount_accounts (s : State) (i : AccountIx) (a : Account) :
    (s.setAccount i a).accounts = { s.accounts with accounts := s.accounts.accounts.set i a } := rfl

@[simp] theorem State.setAccount_qualifier (s : State) (i : AccountIx) (a : Account) :
    (s.setAccount i a).qualifier = s.qualifier := rfl

@[simp] theorem State.setAccount_log (s : State) (i : AccountIx) (a : Account) : (s.setAccount i a).log = s.log := rfl

@[simp] theorem State.setAccount_alerts (s : State) (i : AccountIx) (a : Account) :
    (s.setAccount i a).alerts = s.alerts := rfl

@[simp] theorem State.setAccount_store (s : State) (i : AccountIx) (a : Account) :
    (s.setAccount i a).store = s.store := rfl

@[simp] theorem State.setAccount_engine (s : State) (i : AccountIx) (a : Account) :
    (s.setAccount i a).engine = s.engine := rfl

@[simp] theorem State.setAccount_time (s : State) (i : AccountIx) (a : Account) :
    (s.setAccount i a).time = s.time := rfl

/-! ### setBand -/

@[simp] theorem State.setBand_pending (s : State) (k : Fin 16) (e : BandEntry) :
    (s.setBand k e).pending = s.pending := rfl

@[simp] theorem State.setBand_lines (s : State) (k : Fin 16) (e : BandEntry) : (s.setBand k e).lines = s.lines := rfl

@[simp] theorem State.setBand_port (s : State) (k : Fin 16) (e : BandEntry) : (s.setBand k e).port = s.port := rfl

@[simp] theorem State.setBand_intake (s : State) (k : Fin 16) (e : BandEntry) : (s.setBand k e).intake = s.intake := rfl

@[simp] theorem State.setBand_settings (s : State) (k : Fin 16) (e : BandEntry) :
    (s.setBand k e).settings = s.settings := rfl

@[simp] theorem State.setBand_bands (s : State) (k : Fin 16) (e : BandEntry) :
    (s.setBand k e).bands = { s.bands with entries := s.bands.entries.set k e } := rfl

@[simp] theorem State.setBand_meter (s : State) (k : Fin 16) (e : BandEntry) : (s.setBand k e).meter = s.meter := rfl

@[simp] theorem State.setBand_accounts (s : State) (k : Fin 16) (e : BandEntry) :
    (s.setBand k e).accounts = s.accounts := rfl

@[simp] theorem State.setBand_qualifier (s : State) (k : Fin 16) (e : BandEntry) :
    (s.setBand k e).qualifier = s.qualifier := rfl

@[simp] theorem State.setBand_log (s : State) (k : Fin 16) (e : BandEntry) : (s.setBand k e).log = s.log := rfl

@[simp] theorem State.setBand_alerts (s : State) (k : Fin 16) (e : BandEntry) : (s.setBand k e).alerts = s.alerts := rfl

@[simp] theorem State.setBand_store (s : State) (k : Fin 16) (e : BandEntry) : (s.setBand k e).store = s.store := rfl

@[simp] theorem State.setBand_engine (s : State) (k : Fin 16) (e : BandEntry) : (s.setBand k e).engine = s.engine := rfl

@[simp] theorem State.setBand_time (s : State) (k : Fin 16) (e : BandEntry) : (s.setBand k e).time = s.time := rfl

/-! ### setAgeing -/

@[simp] theorem State.setAgeing_pending (s : State) (n : SignalName) (g : Ageing) :
    (s.setAgeing n g).pending = s.pending := rfl

@[simp] theorem State.setAgeing_lines (s : State) (n : SignalName) (g : Ageing) :
    (s.setAgeing n g).lines = s.lines := rfl

@[simp] theorem State.setAgeing_port (s : State) (n : SignalName) (g : Ageing) : (s.setAgeing n g).port = s.port := rfl

@[simp] theorem State.setAgeing_intake (s : State) (n : SignalName) (g : Ageing) :
    (s.setAgeing n g).intake = s.intake.setAgeing g n := rfl

@[simp] theorem State.setAgeing_settings (s : State) (n : SignalName) (g : Ageing) :
    (s.setAgeing n g).settings = s.settings := rfl

@[simp] theorem State.setAgeing_bands (s : State) (n : SignalName) (g : Ageing) :
    (s.setAgeing n g).bands = s.bands := rfl

@[simp] theorem State.setAgeing_meter (s : State) (n : SignalName) (g : Ageing) :
    (s.setAgeing n g).meter = s.meter := rfl

@[simp] theorem State.setAgeing_accounts (s : State) (n : SignalName) (g : Ageing) :
    (s.setAgeing n g).accounts = s.accounts := rfl

@[simp] theorem State.setAgeing_qualifier (s : State) (n : SignalName) (g : Ageing) :
    (s.setAgeing n g).qualifier = s.qualifier := rfl

@[simp] theorem State.setAgeing_log (s : State) (n : SignalName) (g : Ageing) : (s.setAgeing n g).log = s.log := rfl

@[simp] theorem State.setAgeing_alerts (s : State) (n : SignalName) (g : Ageing) :
    (s.setAgeing n g).alerts = s.alerts := rfl

@[simp] theorem State.setAgeing_store (s : State) (n : SignalName) (g : Ageing) :
    (s.setAgeing n g).store = s.store := rfl

@[simp] theorem State.setAgeing_engine (s : State) (n : SignalName) (g : Ageing) :
    (s.setAgeing n g).engine = s.engine := rfl

@[simp] theorem State.setAgeing_time (s : State) (n : SignalName) (g : Ageing) : (s.setAgeing n g).time = s.time := rfl

/-! ### setInFlight -/

@[simp] theorem State.setInFlight_pending (s : State) (k : SlotIx) (q : Option InFlight) :
    (s.setInFlight k q).pending = s.pending := rfl

@[simp] theorem State.setInFlight_lines (s : State) (k : SlotIx) (q : Option InFlight) :
    (s.setInFlight k q).lines = s.lines := rfl

@[simp] theorem State.setInFlight_port (s : State) (k : SlotIx) (q : Option InFlight) :
    (s.setInFlight k q).port = s.port := rfl

@[simp] theorem State.setInFlight_intake (s : State) (k : SlotIx) (q : Option InFlight) :
    (s.setInFlight k q).intake = s.intake := rfl

@[simp] theorem State.setInFlight_settings (s : State) (k : SlotIx) (q : Option InFlight) :
    (s.setInFlight k q).settings = s.settings := rfl

@[simp] theorem State.setInFlight_bands (s : State) (k : SlotIx) (q : Option InFlight) :
    (s.setInFlight k q).bands = s.bands := rfl

@[simp] theorem State.setInFlight_meter (s : State) (k : SlotIx) (q : Option InFlight) :
    (s.setInFlight k q).meter = s.meter := rfl

@[simp] theorem State.setInFlight_accounts (s : State) (k : SlotIx) (q : Option InFlight) :
    (s.setInFlight k q).accounts = s.accounts := rfl

@[simp] theorem State.setInFlight_qualifier (s : State) (k : SlotIx) (q : Option InFlight) :
    (s.setInFlight k q).qualifier = s.qualifier := rfl

@[simp] theorem State.setInFlight_log (s : State) (k : SlotIx) (q : Option InFlight) :
    (s.setInFlight k q).log = s.log := rfl

@[simp] theorem State.setInFlight_alerts (s : State) (k : SlotIx) (q : Option InFlight) :
    (s.setInFlight k q).alerts = s.alerts := rfl

@[simp] theorem State.setInFlight_store (s : State) (k : SlotIx) (q : Option InFlight) :
    (s.setInFlight k q).store = s.store := rfl

@[simp] theorem State.setInFlight_engine (s : State) (k : SlotIx) (q : Option InFlight) :
    (s.setInFlight k q).engine = { s.engine with slots := s.engine.slots.set k { s.engine.slots[k] with inFlight := q } } := rfl

@[simp] theorem State.setInFlight_time (s : State) (k : SlotIx) (q : Option InFlight) :
    (s.setInFlight k q).time = s.time := rfl

/-! ### setBuffer -/

@[simp] theorem State.setBuffer_pending (s : State) (k : SlotIx) (b : ReadBuffer) :
    (s.setBuffer k b).pending = s.pending := rfl

@[simp] theorem State.setBuffer_lines (s : State) (k : SlotIx) (b : ReadBuffer) :
    (s.setBuffer k b).lines = s.lines := rfl

@[simp] theorem State.setBuffer_port (s : State) (k : SlotIx) (b : ReadBuffer) : (s.setBuffer k b).port = s.port := rfl

@[simp] theorem State.setBuffer_intake (s : State) (k : SlotIx) (b : ReadBuffer) :
    (s.setBuffer k b).intake = s.intake := rfl

@[simp] theorem State.setBuffer_settings (s : State) (k : SlotIx) (b : ReadBuffer) :
    (s.setBuffer k b).settings = s.settings := rfl

@[simp] theorem State.setBuffer_bands (s : State) (k : SlotIx) (b : ReadBuffer) :
    (s.setBuffer k b).bands = s.bands := rfl

@[simp] theorem State.setBuffer_meter (s : State) (k : SlotIx) (b : ReadBuffer) :
    (s.setBuffer k b).meter = s.meter := rfl

@[simp] theorem State.setBuffer_accounts (s : State) (k : SlotIx) (b : ReadBuffer) :
    (s.setBuffer k b).accounts = s.accounts := rfl

@[simp] theorem State.setBuffer_qualifier (s : State) (k : SlotIx) (b : ReadBuffer) :
    (s.setBuffer k b).qualifier = s.qualifier := rfl

@[simp] theorem State.setBuffer_log (s : State) (k : SlotIx) (b : ReadBuffer) : (s.setBuffer k b).log = s.log := rfl

@[simp] theorem State.setBuffer_alerts (s : State) (k : SlotIx) (b : ReadBuffer) :
    (s.setBuffer k b).alerts = s.alerts := rfl

@[simp] theorem State.setBuffer_store (s : State) (k : SlotIx) (b : ReadBuffer) :
    (s.setBuffer k b).store = s.store := rfl

@[simp] theorem State.setBuffer_engine (s : State) (k : SlotIx) (b : ReadBuffer) :
    (s.setBuffer k b).engine = { s.engine with slots := s.engine.slots.set k { s.engine.slots[k] with buffer := some b } } := rfl

@[simp] theorem State.setBuffer_time (s : State) (k : SlotIx) (b : ReadBuffer) : (s.setBuffer k b).time = s.time := rfl

/-! ### setRestore -/

@[simp] theorem State.setRestore_pending (s : State) (b : Option RestoreBuffer) :
    (s.setRestore b).pending = s.pending := rfl

@[simp] theorem State.setRestore_lines (s : State) (b : Option RestoreBuffer) : (s.setRestore b).lines = s.lines := rfl

@[simp] theorem State.setRestore_port (s : State) (b : Option RestoreBuffer) : (s.setRestore b).port = s.port := rfl

@[simp] theorem State.setRestore_intake (s : State) (b : Option RestoreBuffer) :
    (s.setRestore b).intake = s.intake := rfl

@[simp] theorem State.setRestore_settings (s : State) (b : Option RestoreBuffer) :
    (s.setRestore b).settings = s.settings := rfl

@[simp] theorem State.setRestore_bands (s : State) (b : Option RestoreBuffer) : (s.setRestore b).bands = s.bands := rfl

@[simp] theorem State.setRestore_meter (s : State) (b : Option RestoreBuffer) : (s.setRestore b).meter = s.meter := rfl

@[simp] theorem State.setRestore_accounts (s : State) (b : Option RestoreBuffer) :
    (s.setRestore b).accounts = s.accounts := rfl

@[simp] theorem State.setRestore_qualifier (s : State) (b : Option RestoreBuffer) :
    (s.setRestore b).qualifier = s.qualifier := rfl

@[simp] theorem State.setRestore_log (s : State) (b : Option RestoreBuffer) : (s.setRestore b).log = s.log := rfl

@[simp] theorem State.setRestore_alerts (s : State) (b : Option RestoreBuffer) :
    (s.setRestore b).alerts = s.alerts := rfl

@[simp] theorem State.setRestore_store (s : State) (b : Option RestoreBuffer) : (s.setRestore b).store = s.store := rfl

@[simp] theorem State.setRestore_engine (s : State) (b : Option RestoreBuffer) :
    (s.setRestore b).engine = { s.engine with restore := b } := rfl

@[simp] theorem State.setRestore_time (s : State) (b : Option RestoreBuffer) : (s.setRestore b).time = s.time := rfl

/-! ### setUnobservedNow -/

@[simp] theorem State.setUnobservedNow_pending (s : State) (i : AccountIx) (v : Bool) :
    (s.setUnobservedNow i v).pending = s.pending := rfl

@[simp] theorem State.setUnobservedNow_lines (s : State) (i : AccountIx) (v : Bool) :
    (s.setUnobservedNow i v).lines = s.lines := rfl

@[simp] theorem State.setUnobservedNow_port (s : State) (i : AccountIx) (v : Bool) :
    (s.setUnobservedNow i v).port = s.port := rfl

@[simp] theorem State.setUnobservedNow_intake (s : State) (i : AccountIx) (v : Bool) :
    (s.setUnobservedNow i v).intake = s.intake := rfl

@[simp] theorem State.setUnobservedNow_settings (s : State) (i : AccountIx) (v : Bool) :
    (s.setUnobservedNow i v).settings = s.settings := rfl

@[simp] theorem State.setUnobservedNow_bands (s : State) (i : AccountIx) (v : Bool) :
    (s.setUnobservedNow i v).bands = s.bands := rfl

@[simp] theorem State.setUnobservedNow_meter (s : State) (i : AccountIx) (v : Bool) :
    (s.setUnobservedNow i v).meter = { s.meter with unobservedNow := s.meter.unobservedNow.set i v } := rfl

@[simp] theorem State.setUnobservedNow_accounts (s : State) (i : AccountIx) (v : Bool) :
    (s.setUnobservedNow i v).accounts = s.accounts := rfl

@[simp] theorem State.setUnobservedNow_qualifier (s : State) (i : AccountIx) (v : Bool) :
    (s.setUnobservedNow i v).qualifier = s.qualifier := rfl

@[simp] theorem State.setUnobservedNow_log (s : State) (i : AccountIx) (v : Bool) :
    (s.setUnobservedNow i v).log = s.log := rfl

@[simp] theorem State.setUnobservedNow_alerts (s : State) (i : AccountIx) (v : Bool) :
    (s.setUnobservedNow i v).alerts = s.alerts := rfl

@[simp] theorem State.setUnobservedNow_store (s : State) (i : AccountIx) (v : Bool) :
    (s.setUnobservedNow i v).store = s.store := rfl

@[simp] theorem State.setUnobservedNow_engine (s : State) (i : AccountIx) (v : Bool) :
    (s.setUnobservedNow i v).engine = s.engine := rfl

@[simp] theorem State.setUnobservedNow_time (s : State) (i : AccountIx) (v : Bool) :
    (s.setUnobservedNow i v).time = s.time := rfl

/-! ### modifySegment -/

@[simp] theorem State.modifySegment_pending (s : State) (k : Fin 24) (f : Segment → Segment) :
    (s.modifySegment k f).pending = s.pending := rfl

@[simp] theorem State.modifySegment_lines (s : State) (k : Fin 24) (f : Segment → Segment) :
    (s.modifySegment k f).lines = s.lines := rfl

@[simp] theorem State.modifySegment_port (s : State) (k : Fin 24) (f : Segment → Segment) :
    (s.modifySegment k f).port = s.port := rfl

@[simp] theorem State.modifySegment_intake (s : State) (k : Fin 24) (f : Segment → Segment) :
    (s.modifySegment k f).intake = s.intake := rfl

@[simp] theorem State.modifySegment_settings (s : State) (k : Fin 24) (f : Segment → Segment) :
    (s.modifySegment k f).settings = s.settings := rfl

@[simp] theorem State.modifySegment_bands (s : State) (k : Fin 24) (f : Segment → Segment) :
    (s.modifySegment k f).bands = s.bands := rfl

@[simp] theorem State.modifySegment_meter (s : State) (k : Fin 24) (f : Segment → Segment) :
    (s.modifySegment k f).meter = s.meter := rfl

@[simp] theorem State.modifySegment_accounts (s : State) (k : Fin 24) (f : Segment → Segment) :
    (s.modifySegment k f).accounts = s.accounts := rfl

@[simp] theorem State.modifySegment_qualifier (s : State) (k : Fin 24) (f : Segment → Segment) :
    (s.modifySegment k f).qualifier = s.qualifier := rfl

@[simp] theorem State.modifySegment_log (s : State) (k : Fin 24) (f : Segment → Segment) :
    (s.modifySegment k f).log = s.log.modify k f := rfl

@[simp] theorem State.modifySegment_alerts (s : State) (k : Fin 24) (f : Segment → Segment) :
    (s.modifySegment k f).alerts = s.alerts := rfl

@[simp] theorem State.modifySegment_store (s : State) (k : Fin 24) (f : Segment → Segment) :
    (s.modifySegment k f).store = s.store := rfl

@[simp] theorem State.modifySegment_engine (s : State) (k : Fin 24) (f : Segment → Segment) :
    (s.modifySegment k f).engine = s.engine := rfl

@[simp] theorem State.modifySegment_time (s : State) (k : Fin 24) (f : Segment → Segment) :
    (s.modifySegment k f).time = s.time := rfl

/-! ### restartLinger -/

@[simp] theorem State.restartLinger_pending (s : State) : s.restartLinger.pending = s.pending := rfl

@[simp] theorem State.restartLinger_lines (s : State) : s.restartLinger.lines = s.lines := rfl

@[simp] theorem State.restartLinger_port (s : State) : s.restartLinger.port = s.port := rfl

@[simp] theorem State.restartLinger_intake (s : State) : s.restartLinger.intake = s.intake := rfl

@[simp] theorem State.restartLinger_settings (s : State) : s.restartLinger.settings = s.settings := rfl

@[simp] theorem State.restartLinger_bands (s : State) : s.restartLinger.bands = s.bands := rfl

@[simp] theorem State.restartLinger_meter (s : State) : s.restartLinger.meter = s.meter := rfl

@[simp] theorem State.restartLinger_accounts (s : State) : s.restartLinger.accounts = s.accounts := rfl

@[simp] theorem State.restartLinger_qualifier (s : State) : s.restartLinger.qualifier = s.qualifier := rfl

@[simp] theorem State.restartLinger_log (s : State) : s.restartLinger.log = s.log := rfl

@[simp] theorem State.restartLinger_alerts (s : State) : s.restartLinger.alerts = s.alerts := rfl

@[simp] theorem State.restartLinger_store (s : State) : s.restartLinger.store = s.store := rfl

@[simp] theorem State.restartLinger_engine (s : State) : s.restartLinger.engine = s.engine := rfl

@[simp] theorem State.restartLinger_time (s : State) :
    s.restartLinger.time = { s.time with linger := some lingerMs } := rfl

/-! ### setSelection -/

@[simp] theorem State.setSelection_pending (s : State) (v : Selection) (n : Nat) :
    (s.setSelection v n).pending = s.pending := rfl

@[simp] theorem State.setSelection_lines (s : State) (v : Selection) (n : Nat) :
    (s.setSelection v n).lines = s.lines := rfl

@[simp] theorem State.setSelection_port (s : State) (v : Selection) (n : Nat) :
    (s.setSelection v n).port = s.port := rfl

@[simp] theorem State.setSelection_intake (s : State) (v : Selection) (n : Nat) :
    (s.setSelection v n).intake = s.intake := rfl

@[simp] theorem State.setSelection_settings (s : State) (v : Selection) (n : Nat) :
    (s.setSelection v n).settings = s.settings := rfl

@[simp] theorem State.setSelection_bands (s : State) (v : Selection) (n : Nat) :
    (s.setSelection v n).bands = s.bands := rfl

@[simp] theorem State.setSelection_meter (s : State) (v : Selection) (n : Nat) :
    (s.setSelection v n).meter = s.meter := rfl

@[simp] theorem State.setSelection_accounts (s : State) (v : Selection) (n : Nat) :
    (s.setSelection v n).accounts = s.accounts := rfl

@[simp] theorem State.setSelection_qualifier (s : State) (v : Selection) (n : Nat) :
    (s.setSelection v n).qualifier = s.qualifier := rfl

@[simp] theorem State.setSelection_log (s : State) (v : Selection) (n : Nat) : (s.setSelection v n).log = s.log := rfl

@[simp] theorem State.setSelection_alerts (s : State) (v : Selection) (n : Nat) :
    (s.setSelection v n).alerts = s.alerts := rfl

@[simp] theorem State.setSelection_store (s : State) (v : Selection) (n : Nat) :
    (s.setSelection v n).store = s.store := rfl

@[simp] theorem State.setSelection_engine (s : State) (v : Selection) (n : Nat) :
    (s.setSelection v n).engine = s.engine := rfl

@[simp] theorem State.setSelection_time (s : State) (v : Selection) (n : Nat) :
    (s.setSelection v n).time = { s.time with selection := v, goodWindows := n } := rfl

/-! ### mapWaits -/

@[simp] theorem State.mapWaits_pending (s : State) (f : List Wait → List Wait) :
    (s.mapWaits f).pending = s.pending := rfl

@[simp] theorem State.mapWaits_lines (s : State) (f : List Wait → List Wait) : (s.mapWaits f).lines = s.lines := rfl

@[simp] theorem State.mapWaits_port (s : State) (f : List Wait → List Wait) : (s.mapWaits f).port = s.port := rfl

@[simp] theorem State.mapWaits_intake (s : State) (f : List Wait → List Wait) : (s.mapWaits f).intake = s.intake := rfl

@[simp] theorem State.mapWaits_settings (s : State) (f : List Wait → List Wait) :
    (s.mapWaits f).settings = s.settings := rfl

@[simp] theorem State.mapWaits_bands (s : State) (f : List Wait → List Wait) : (s.mapWaits f).bands = s.bands := rfl

@[simp] theorem State.mapWaits_meter (s : State) (f : List Wait → List Wait) : (s.mapWaits f).meter = s.meter := rfl

@[simp] theorem State.mapWaits_accounts (s : State) (f : List Wait → List Wait) :
    (s.mapWaits f).accounts = s.accounts := rfl

@[simp] theorem State.mapWaits_qualifier (s : State) (f : List Wait → List Wait) :
    (s.mapWaits f).qualifier = s.qualifier := rfl

@[simp] theorem State.mapWaits_log (s : State) (f : List Wait → List Wait) : (s.mapWaits f).log = s.log := rfl

@[simp] theorem State.mapWaits_alerts (s : State) (f : List Wait → List Wait) : (s.mapWaits f).alerts = s.alerts := rfl

@[simp] theorem State.mapWaits_store (s : State) (f : List Wait → List Wait) : (s.mapWaits f).store = s.store := rfl

@[simp] theorem State.mapWaits_engine (s : State) (f : List Wait → List Wait) :
    (s.mapWaits f).engine = s.engine.mapSlots (ClientSlot.mapWaits f) := rfl

@[simp] theorem State.mapWaits_time (s : State) (f : List Wait → List Wait) : (s.mapWaits f).time = s.time := rfl

/-! ### markRecord -/

@[simp] theorem State.markRecord_pending (s : State) (r : RecordId) : (s.markRecord r).pending = s.pending := rfl

@[simp] theorem State.markRecord_lines (s : State) (r : RecordId) : (s.markRecord r).lines = s.lines := rfl

@[simp] theorem State.markRecord_port (s : State) (r : RecordId) : (s.markRecord r).port = s.port := rfl

@[simp] theorem State.markRecord_intake (s : State) (r : RecordId) : (s.markRecord r).intake = s.intake := rfl

@[simp] theorem State.markRecord_settings (s : State) (r : RecordId) : (s.markRecord r).settings = s.settings := rfl

@[simp] theorem State.markRecord_bands (s : State) (r : RecordId) : (s.markRecord r).bands = s.bands := rfl

@[simp] theorem State.markRecord_meter (s : State) (r : RecordId) : (s.markRecord r).meter = s.meter := rfl

@[simp] theorem State.markRecord_accounts (s : State) (r : RecordId) : (s.markRecord r).accounts = s.accounts := rfl

@[simp] theorem State.markRecord_qualifier (s : State) (r : RecordId) : (s.markRecord r).qualifier = s.qualifier := rfl

@[simp] theorem State.markRecord_log (s : State) (r : RecordId) : (s.markRecord r).log = s.log := rfl

@[simp] theorem State.markRecord_alerts (s : State) (r : RecordId) : (s.markRecord r).alerts = s.alerts := rfl

@[simp] theorem State.markRecord_store (s : State) (r : RecordId) : (s.markRecord r).store = s.store.mark r := rfl

@[simp] theorem State.markRecord_engine (s : State) (r : RecordId) : (s.markRecord r).engine = s.engine := rfl

@[simp] theorem State.markRecord_time (s : State) (r : RecordId) : (s.markRecord r).time = s.time := rfl

/-! ### enqueue -/

@[simp] theorem State.enqueue_pending (s : State) (cs : List Instr) : (s.enqueue cs).pending = s.pending ++ cs := rfl

@[simp] theorem State.enqueue_lines (s : State) (cs : List Instr) : (s.enqueue cs).lines = s.lines := rfl

@[simp] theorem State.enqueue_port (s : State) (cs : List Instr) : (s.enqueue cs).port = s.port := rfl

@[simp] theorem State.enqueue_intake (s : State) (cs : List Instr) : (s.enqueue cs).intake = s.intake := rfl

@[simp] theorem State.enqueue_settings (s : State) (cs : List Instr) : (s.enqueue cs).settings = s.settings := rfl

@[simp] theorem State.enqueue_bands (s : State) (cs : List Instr) : (s.enqueue cs).bands = s.bands := rfl

@[simp] theorem State.enqueue_meter (s : State) (cs : List Instr) : (s.enqueue cs).meter = s.meter := rfl

@[simp] theorem State.enqueue_accounts (s : State) (cs : List Instr) : (s.enqueue cs).accounts = s.accounts := rfl

@[simp] theorem State.enqueue_qualifier (s : State) (cs : List Instr) : (s.enqueue cs).qualifier = s.qualifier := rfl

@[simp] theorem State.enqueue_log (s : State) (cs : List Instr) : (s.enqueue cs).log = s.log := rfl

@[simp] theorem State.enqueue_alerts (s : State) (cs : List Instr) : (s.enqueue cs).alerts = s.alerts := rfl

@[simp] theorem State.enqueue_store (s : State) (cs : List Instr) : (s.enqueue cs).store = s.store := rfl

@[simp] theorem State.enqueue_engine (s : State) (cs : List Instr) : (s.enqueue cs).engine = s.engine := rfl

@[simp] theorem State.enqueue_time (s : State) (cs : List Instr) : (s.enqueue cs).time = s.time := rfl

/-! ### tickSecond -/

@[simp] theorem State.tickSecond_pending (s : State) : s.tickSecond.pending = s.pending := rfl

@[simp] theorem State.tickSecond_lines (s : State) : s.tickSecond.lines = s.lines := rfl

@[simp] theorem State.tickSecond_port (s : State) : s.tickSecond.port = s.port := rfl

@[simp] theorem State.tickSecond_intake (s : State) : s.tickSecond.intake = s.intake := rfl

@[simp] theorem State.tickSecond_settings (s : State) : s.tickSecond.settings = s.settings := rfl

@[simp] theorem State.tickSecond_bands (s : State) : s.tickSecond.bands = s.bands := rfl

@[simp] theorem State.tickSecond_meter (s : State) : s.tickSecond.meter = s.meter := rfl

@[simp] theorem State.tickSecond_accounts (s : State) : s.tickSecond.accounts = s.accounts := rfl

@[simp] theorem State.tickSecond_qualifier (s : State) : s.tickSecond.qualifier = s.qualifier := rfl

@[simp] theorem State.tickSecond_log (s : State) : s.tickSecond.log = s.log := rfl

@[simp] theorem State.tickSecond_alerts (s : State) : s.tickSecond.alerts = s.alerts := rfl

@[simp] theorem State.tickSecond_store (s : State) : s.tickSecond.store = s.store := rfl

@[simp] theorem State.tickSecond_engine (s : State) : s.tickSecond.engine = s.engine := rfl

@[simp] theorem State.tickSecond_time (s : State) :
    s.tickSecond.time = { s.time with subSecondMs := s.time.subSecondMs + 1 } := rfl

/-! ### tickLinger -/

@[simp] theorem State.tickLinger_pending (s : State) : s.tickLinger.pending = s.pending := rfl

@[simp] theorem State.tickLinger_lines (s : State) : s.tickLinger.lines = s.lines := rfl

@[simp] theorem State.tickLinger_port (s : State) : s.tickLinger.port = s.port := rfl

@[simp] theorem State.tickLinger_intake (s : State) : s.tickLinger.intake = s.intake := rfl

@[simp] theorem State.tickLinger_settings (s : State) : s.tickLinger.settings = s.settings := rfl

@[simp] theorem State.tickLinger_bands (s : State) : s.tickLinger.bands = s.bands := rfl

@[simp] theorem State.tickLinger_meter (s : State) : s.tickLinger.meter = s.meter := rfl

@[simp] theorem State.tickLinger_accounts (s : State) : s.tickLinger.accounts = s.accounts := rfl

@[simp] theorem State.tickLinger_qualifier (s : State) : s.tickLinger.qualifier = s.qualifier := rfl

@[simp] theorem State.tickLinger_log (s : State) : s.tickLinger.log = s.log := rfl

@[simp] theorem State.tickLinger_alerts (s : State) : s.tickLinger.alerts = s.alerts := rfl

@[simp] theorem State.tickLinger_store (s : State) : s.tickLinger.store = s.store := rfl

@[simp] theorem State.tickLinger_engine (s : State) : s.tickLinger.engine = s.engine := rfl

@[simp] theorem State.tickLinger_time (s : State) :
    s.tickLinger.time = { s.time with linger := s.time.linger.map (· - 1) } := rfl

/-! ### withAlerts -/

@[simp] theorem State.withAlerts_pending (s : State) (r : AlertUnit × Option AlertEntry) :
    (s.withAlerts r).pending = s.pending := rfl

@[simp] theorem State.withAlerts_lines (s : State) (r : AlertUnit × Option AlertEntry) :
    (s.withAlerts r).lines = s.lines := rfl

@[simp] theorem State.withAlerts_intake (s : State) (r : AlertUnit × Option AlertEntry) :
    (s.withAlerts r).intake = s.intake := rfl

@[simp] theorem State.withAlerts_settings (s : State) (r : AlertUnit × Option AlertEntry) :
    (s.withAlerts r).settings = s.settings := rfl

@[simp] theorem State.withAlerts_bands (s : State) (r : AlertUnit × Option AlertEntry) :
    (s.withAlerts r).bands = s.bands := rfl

@[simp] theorem State.withAlerts_meter (s : State) (r : AlertUnit × Option AlertEntry) :
    (s.withAlerts r).meter = s.meter := rfl

@[simp] theorem State.withAlerts_accounts (s : State) (r : AlertUnit × Option AlertEntry) :
    (s.withAlerts r).accounts = s.accounts := rfl

@[simp] theorem State.withAlerts_qualifier (s : State) (r : AlertUnit × Option AlertEntry) :
    (s.withAlerts r).qualifier = s.qualifier := rfl

@[simp] theorem State.withAlerts_log (s : State) (r : AlertUnit × Option AlertEntry) :
    (s.withAlerts r).log = s.log := rfl

@[simp] theorem State.withAlerts_alerts (s : State) (r : AlertUnit × Option AlertEntry) :
    (s.withAlerts r).alerts = r.1 := rfl

@[simp] theorem State.withAlerts_store (s : State) (r : AlertUnit × Option AlertEntry) :
    (s.withAlerts r).store = s.store := rfl

@[simp] theorem State.withAlerts_engine (s : State) (r : AlertUnit × Option AlertEntry) :
    (s.withAlerts r).engine = s.engine := rfl

@[simp] theorem State.withAlerts_time (s : State) (r : AlertUnit × Option AlertEntry) :
    (s.withAlerts r).time = s.time := rfl

/-! ### Reading what was just written -/

@[simp] theorem State.account_setAccount_same (s : State) (i : AccountIx) (a : Account) :
    (s.setAccount i a).account i = a := by
  simp [State.account]

@[simp] theorem State.account_setAccount_other (s : State) {i j : AccountIx} (a : Account) (h : i ≠ j) :
    (s.setAccount i a).account j = s.account j := by
  simp [State.account, Fin.val_inj, h]

@[simp] theorem State.account_markRecord (s : State) (r : RecordId) (i : AccountIx) :
    (s.markRecord r).account i = s.account i := rfl

@[simp] theorem State.inFlight_setInFlight_same (s : State) (k : SlotIx) (q : Option InFlight) :
    (s.setInFlight k q).engine.slots[k].inFlight = q := by
  simp

@[simp] theorem State.slot_setInFlight_other (s : State) {k j : SlotIx} (q : Option InFlight) (h : k ≠ j) :
    (s.setInFlight k q).engine.slots[j] = s.engine.slots[j] := by
  simp [Fin.val_inj, h]

@[simp] theorem State.band_setBand_same (s : State) (k : Fin 16) (e : BandEntry) :
    (s.setBand k e).bands.entries[k] = e := by
  simp

@[simp] theorem State.band_setBand_other (s : State) {k j : Fin 16} (e : BandEntry) (h : k ≠ j) :
    (s.setBand k e).bands.entries[j] = s.bands.entries[j] := by
  simp [Fin.val_inj, h]

@[simp] theorem Intake.ageing_setAgeing_same (x : Intake) (g : Ageing) (n : SignalName) :
    (x.setAgeing g n).ageing n = g := by
  cases n <;> rfl

theorem Intake.ageing_setAgeing_other (x : Intake) (g : Ageing) {n m : SignalName} (h : n ≠ m) :
    (x.setAgeing g n).ageing m = x.ageing m := by
  cases n <;> cases m <;> first | rfl | exact absurd rfl h

end Sys2Proof.Machine
end

