-- ==== Sys2Proof/Laws/Frame.lean ====
section
/-! SUPPORT. What every shared operation leaves unchanged: one `changesOnly` fact per operation, in the order the operations
are built on one another. A proof weakens one by `changesOnly_mono` and joins two by `changesOnly_trans`. -/

namespace Sys2Proof.Machine

/-! ## The relation -/

theorem State.changesOnly_refl (s : State) (ps : List Part) : s.changesOnly s ps := by
  intro p _
  cases p <;> rfl

theorem State.changesOnly_mono {s t : State} {ps qs : List Part} (h : s.changesOnly t ps) (sub : ps ⊆ qs) :
    s.changesOnly t qs :=
  fun p hp => h p fun hq => hp (sub hq)

theorem State.changesOnly_trans {s t u : State} {ps : List Part} (h : s.changesOnly t ps) (k : t.changesOnly u ps) :
    s.changesOnly u ps := by
  intro p hp
  have a := h p hp
  have b := k p hp
  cases p <;> exact Eq.trans b a

/-- Two operations in succession. -/
theorem State.changesOnly_then {s t u : State} {ps qs rs : List Part} (h : s.changesOnly t ps) (k : t.changesOnly u qs)
    (hp : ps ⊆ rs) (hq : qs ⊆ rs) : s.changesOnly u rs :=
  State.changesOnly_trans (State.changesOnly_mono h hp) (State.changesOnly_mono k hq)

theorem State.changesOnly_ite {s t u : State} {ps : List Part} {c : Prop} [Decidable c] (h : s.changesOnly t ps)
    (k : s.changesOnly u ps) : s.changesOnly (if c then t else u) ps := by
  split
  · exact h
  · exact k

theorem State.changesOnly_foldl {α : Type} {f : State → α → State} {ps : List Part}
    (h : ∀ (x : State) (a : α), x.changesOnly (f x a) ps) (l : List α) (s : State) : s.changesOnly (l.foldl f s) ps := by
  induction l generalizing s with
  | nil => exact State.changesOnly_refl s ps
  | cons a l ih => exact State.changesOnly_trans (h s a) (ih (f s a))

/-! ## Alerts -/

theorem State.withAlerts_changesOnly (s : State) (r : AlertUnit × Option AlertEntry) :
    s.changesOnly (s.withAlerts r) [.alerts, .port] := by
  intro p hp
  cases p <;> first | rfl | simp at hp

theorem State.report_changesOnly (s : State) (p : AlertPair) (v : Bool) (param : Option Byte) :
    s.changesOnly (s.report p v param) [.alerts, .port] :=
  s.withAlerts_changesOnly _

/-- A report of false offers no notice. -/
@[simp] theorem State.report_false_port (s : State) (p : AlertPair) (param : Option Byte) :
    (s.report p false param).port = s.port := rfl

theorem State.raiseEvent_changesOnly (s : State) (p : AlertPair) (param : Option Byte) :
    s.changesOnly (s.raiseEvent p param) [.alerts, .port] :=
  s.withAlerts_changesOnly _

theorem State.reportSuspect_changesOnly (s : State) (r : RecordId) : s.changesOnly (s.reportSuspect r) [.alerts, .port] :=
  s.withAlerts_changesOnly _

theorem State.reportGood_changesOnly (s : State) (r : RecordId) : s.changesOnly (s.reportGood r) [.alerts] := by
  intro p hp
  cases p <;> first | rfl | simp at hp

/-! ## Records and writes -/

theorem State.markRecord_changesOnly (s : State) (r : RecordId) : s.changesOnly (s.markRecord r) [.store] := by
  intro p hp
  cases p <;> first | rfl | simp at hp

theorem State.setAccount_changesOnly (s : State) (i : AccountIx) (a : Account) :
    s.changesOnly (s.setAccount i a) [.accounts] := by
  intro p hp
  cases p <;> first | rfl | simp at hp

theorem State.stampLastWrite_changesOnly (s : State) (r : RecordId) : s.changesOnly (s.stampLastWrite r) [.accounts] := by
  cases r <;> first | exact s.setAccount_changesOnly _ _ | exact s.changesOnly_refl _

theorem State.startWrite_changesOnly (s : State) (r : RecordId) :
    s.changesOnly (s.startWrite r) [.accounts, .store, .engine] := by
  refine State.changesOnly_then (s.stampLastWrite_changesOnly r) (qs := [.store, .engine]) ?_ (by simp) (by simp)
  intro p hp
  cases p <;> first | rfl | simp at hp

/-- Of the accounts, the begin of a write sets the last write time of its own account and nothing else (R9). -/
theorem State.startWrite_account (s : State) (r : RecordId) (i : AccountIx) :
    (s.startWrite r).account i =
      if r = .account i then { s.account i with lastWrite := some s.time.deviceTime } else s.account i := by
  cases r with
  | account j =>
    by_cases h : j = i
    · subst h
      simp [State.startWrite, State.stampLastWrite, State.account, State.setAccount]
    · simp [State.startWrite, State.stampLastWrite, State.account, State.setAccount, h, Fin.val_inj]
  | settings => simp [State.startWrite, State.stampLastWrite, State.account]
  | band k => simp [State.startWrite, State.stampLastWrite, State.account]
  | slot k => simp [State.startWrite, State.stampLastWrite, State.account]

theorem State.nextWrite_changesOnly (s : State) : s.changesOnly s.nextWrite [.accounts, .store, .engine] := by
  unfold State.nextWrite
  split
  · intro p hp
    cases p <;> first | rfl | simp at hp
  · refine State.changesOnly_then (ps := [.store]) ?_ (State.startWrite_changesOnly _ _) (by simp) (by simp)
    intro p hp
    cases p <;> first | rfl | simp at hp

theorem State.startIfReady_changesOnly (s : State) : s.changesOnly s.startIfReady [.accounts, .store, .engine] := by
  unfold State.startIfReady
  split <;> first | exact s.nextWrite_changesOnly | exact s.changesOnly_refl _

theorem State.hand_changesOnly (s : State) (r : RecordId) : s.changesOnly (s.hand r) [.accounts, .store, .engine] := by
  have m : s.changesOnly (s.markRecord r) [.accounts, .store, .engine] :=
    State.changesOnly_mono (s.markRecord_changesOnly r) (by simp)
  have a : ∀ st : Store,
      s.changesOnly (State.startIfReady { s.markRecord r with store := st }) [.accounts, .store, .engine] := by
    intro st
    refine State.changesOnly_then (ps := [.store]) ?_ (State.startIfReady_changesOnly _) (by simp) (by simp)
    intro p hp
    cases p <;> first | rfl | simp at hp
  unfold State.hand
  dsimp only
  split <;> first | exact m | exact a _

theorem State.bulkEnqueue_changesOnly (s : State) (rs : List RecordId) :
    s.changesOnly (s.bulkEnqueue rs) [.accounts, .store, .engine] := by
  refine State.changesOnly_then (ps := [.store]) ?_ (State.startIfReady_changesOnly _) (by simp) (by simp)
  intro p hp
  cases p <;> first | rfl | simp at hp

/-! ## Accounts -/

theorem State.changeAccount_changesOnly (s : State) (i : AccountIx) (f : Account → Account) :
    s.changesOnly (s.changeAccount i f) [.accounts, .store] :=
  State.changesOnly_ite (s.changesOnly_refl _)
    (State.changesOnly_then (s.setAccount_changesOnly i _) (State.markRecord_changesOnly _ _) (by simp) (by simp))

/-- A change of account i leaves it as the change makes it. -/
@[simp] theorem State.account_changeAccount_same (s : State) (i : AccountIx) (f : Account → Account) :
    (s.changeAccount i f).account i = f (s.account i) := by
  unfold State.changeAccount
  split
  · next h => exact h.symm
  · simp

theorem State.account_changeAccount_other (s : State) {i j : AccountIx} (f : Account → Account) (h : i ≠ j) :
    (s.changeAccount i f).account j = s.account j := by
  unfold State.changeAccount
  split
  · rfl
  · simp [h]

theorem State.evalServiceDue_changesOnly (s : State) (i : AccountIx) :
    s.changesOnly (s.evalServiceDue i) [.accounts, .alerts, .port] := by
  refine State.changesOnly_ite (s.changesOnly_refl _) ?_
  refine State.changesOnly_then (ps := [.accounts]) ?_ (State.report_changesOnly _ _ _ _) (by simp) (by simp)
  intro p hp
  cases p <;> first | rfl | simp at hp

theorem State.evalLifeLimit_changesOnly (s : State) (i : AccountIx) :
    s.changesOnly (s.evalLifeLimit i) [.accounts, .alerts, .port] := by
  refine State.changesOnly_ite (s.changesOnly_refl _) ?_
  refine State.changesOnly_then (ps := [.accounts]) ?_ (State.report_changesOnly _ _ _ _) (by simp) (by simp)
  intro p hp
  cases p <;> first | rfl | simp at hp

theorem State.evalThresholds_changesOnly (s : State) (i : AccountIx) :
    s.changesOnly (s.evalThresholds i) [.accounts, .alerts, .port] :=
  State.changesOnly_trans (s.evalServiceDue_changesOnly i) (State.evalLifeLimit_changesOnly _ i)

/-- An evaluation of the thresholds changes no working copy. -/
@[simp] theorem State.account_evalThresholds (s : State) (i j : AccountIx) :
    (s.evalThresholds i).account j = s.account j := by
  unfold State.evalThresholds State.evalLifeLimit State.evalServiceDue
  dsimp only
  split <;> split <;> rfl

theorem State.evalCarried_changesOnly (s : State) (i : AccountIx) (n : Nat) :
    s.changesOnly (s.evalCarried i n) [.accounts, .alerts, .port] :=
  State.changesOnly_ite (s.changesOnly_refl _) (s.evalThresholds_changesOnly i)

@[simp] theorem State.account_evalCarried (s : State) (i j : AccountIx) (n : Nat) :
    (s.evalCarried i n).account j = s.account j := by
  unfold State.evalCarried
  split <;> simp

theorem State.credit_changesOnly (s : State) (i : AccountIx) (n : Nat) :
    s.changesOnly (s.credit i n) [.accounts, .store, .alerts, .port] :=
  State.changesOnly_then (s.changeAccount_changesOnly i _) (State.evalCarried_changesOnly _ i _) (by simp) (by simp)

/-- A credit leaves the account with the credit added (R12). -/
@[simp] theorem State.account_credit_same (s : State) (i : AccountIx) (n : Nat) :
    (s.credit i n).account i = (s.account i).addCredit n := by
  simp [State.credit]

theorem State.account_credit_other (s : State) {i j : AccountIx} (n : Nat) (h : i ≠ j) :
    (s.credit i n).account j = s.account j := by
  simp [State.credit, State.account_changeAccount_other, h]

theorem State.credits_changesOnly (s : State) (i : AccountIx) (n k : Nat) :
    s.changesOnly (s.credits i n k) [.accounts, .store, .alerts, .port] := by
  induction k generalizing s with
  | zero => exact s.changesOnly_refl _
  | succ k ih => exact State.changesOnly_trans (s.credit_changesOnly i n) (ih _)

theorem State.account_credits_other (s : State) {i j : AccountIx} (n k : Nat) (h : i ≠ j) :
    (s.credits i n k).account j = s.account j := by
  induction k generalizing s with
  | zero => rfl
  | succ k ih => exact (ih _).trans (s.account_credit_other n h)

/-- k credits of one numerator are k additions of it. -/
theorem State.account_credits_same (s : State) (i : AccountIx) (n k : Nat) :
    (s.credits i n k).account i = (fun a : Account => a.addCredit n)^[k] (s.account i) := by
  induction k generalizing s with
  | zero => rfl
  | succ k ih => rw [State.credits, ih, State.account_credit_same, Function.iterate_succ_apply]

theorem State.postEvents_changesOnly (s : State) (i : AccountIx) (n m : Nat) :
    s.changesOnly (s.postEvents i n m) [.accounts, .store, .alerts, .port] :=
  State.changesOnly_then (s.changeAccount_changesOnly i _) (State.credits_changesOnly _ i _ n) (by simp) (by simp)

/-- A posting leaves the account with the events counted and their credits added (R14). -/
theorem State.account_postEvents_same (s : State) (i : AccountIx) (n m : Nat) :
    (s.postEvents i n m).account i =
      (fun a : Account => a.addCredit ((s.account i).eventNumerator m))^[n] ((s.account i).addEvents n) := by
  unfold State.postEvents
  rw [State.account_credits_same, State.account_changeAccount_same]

theorem State.account_postEvents_other (s : State) {i j : AccountIx} (n m : Nat) (h : i ≠ j) :
    (s.postEvents i n m).account j = s.account j := by
  unfold State.postEvents
  rw [State.account_credits_other _ _ _ h, State.account_changeAccount_other _ _ h]

/-! ## The OPEN segment -/

theorem State.flagOpen_changesOnly (s : State) (f : SegmentFlags → SegmentFlags) :
    s.changesOnly (s.flagOpen f) [.log, .store] := by
  unfold State.flagOpen
  split
  · exact s.changesOnly_refl _
  · refine State.changesOnly_ite (s.changesOnly_refl _) ?_
    intro p hp
    cases p <;> first | rfl | simp at hp

theorem State.evalNearFull_changesOnly (s : State) : s.changesOnly s.evalNearFull [.log, .alerts, .port] := by
  refine State.changesOnly_ite (s.changesOnly_refl _) ?_
  refine State.changesOnly_then (ps := [.log]) ?_ (State.report_changesOnly _ _ _ _) (by simp) (by simp)
  intro p hp
  cases p <;> first | rfl | simp at hp

/-! ## Answers -/

theorem State.setInFlight_changesOnly (s : State) (k : SlotIx) (q : Option InFlight) :
    s.changesOnly (s.setInFlight k q) [.engine] := by
  intro p hp
  cases p <;> first | rfl | simp at hp

theorem State.offer_changesOnly (s : State) (k : SlotIx) (kind : Byte) (ops : List Byte) (f : Frame) :
    s.changesOnly (s.offer k kind ops f) [.port, .engine] := by
  refine State.changesOnly_ite ?_ (State.changesOnly_mono (s.setInFlight_changesOnly k _) (by simp))
  intro p hp
  cases p <;> first | rfl | simp at hp

theorem State.releaseSlot_changesOnly (s : State) (k : SlotIx) (o : ReqOutcome) :
    s.changesOnly (s.releaseSlot k o) [.port, .engine] := by
  unfold State.releaseSlot
  split
  · split
    · exact s.offer_changesOnly _ _ _ _
    · exact s.changesOnly_refl _
  · exact s.changesOnly_refl _

theorem State.releaseSatisfied_changesOnly (s : State) : s.changesOnly s.releaseSatisfied [.port, .engine] :=
  State.changesOnly_foldl (fun x i => State.changesOnly_ite (x.releaseSlot_changesOnly i _) (x.changesOnly_refl _)) _ s

theorem State.releaseVolatile_changesOnly (s : State) : s.changesOnly s.releaseVolatile [.port, .engine] :=
  State.changesOnly_foldl (fun x i => x.releaseSlot_changesOnly i _) _ s

/-! ## The Start Qualifier -/

theorem State.setQualifier_changesOnly (s : State) (q : QualifierState) :
    s.changesOnly (s.setQualifier q) [.qualifier] := by
  intro p hp
  cases p <;> first | rfl | simp at hp

theorem State.reformLatch_changesOnly (s : State) : s.changesOnly s.reformLatch [.qualifier] := by
  unfold State.reformLatch
  split
  · exact s.changesOnly_refl _
  · intro p hp
    cases p <;> first | rfl | simp at hp

/-- What a crank trigger and everything the Qualifier does at an update may change. -/
abbrev qualifierParts : List Part := [.qualifier, .accounts, .store, .alerts, .port]

theorem State.postStarter_changesOnly (s : State) (cold : Bool) :
    s.changesOnly (s.postStarter cold) [.accounts, .store, .alerts, .port] :=
  s.postEvents_changesOnly _ _ _

theorem State.crankTrigger_changesOnly (s : State) : s.changesOnly s.crankTrigger qualifierParts := by
  unfold State.crankTrigger
  split
  · exact State.changesOnly_then (s.postStarter_changesOnly _) (State.setQualifier_changesOnly _ _) (by simp) (by simp)
  · exact State.changesOnly_then (s.postStarter_changesOnly _) (State.setQualifier_changesOnly _ _) (by simp) (by simp)
  · exact State.changesOnly_then (s.postStarter_changesOnly _) (State.setQualifier_changesOnly _ _) (by simp) (by simp)
  · exact State.changesOnly_then (s.postStarter_changesOnly _) (State.changeAccount_changesOnly _ _ _) (by simp) (by simp)

theorem State.reformCrank_changesOnly (s : State) : s.changesOnly s.reformCrank qualifierParts :=
  State.changesOnly_ite
    (State.changesOnly_then s.reformLatch_changesOnly (State.crankTrigger_changesOnly _) (by simp) (by simp))
    (State.changesOnly_mono s.reformLatch_changesOnly (by simp))

theorem State.endAttempt_changesOnly (s : State) (a : Attempt) (o : AttemptOutcome) (q : QualifierState) :
    s.changesOnly (s.endAttempt a o q) [.qualifier, .alerts, .port] := by
  unfold State.endAttempt State.raiseFailures
  refine State.changesOnly_then (ps := [.qualifier]) (qs := [.alerts, .port]) ?_
    (State.changesOnly_ite (State.raiseEvent_changesOnly _ _ _) (State.changesOnly_refl _ _)) (by simp) (by simp)
  intro p hp
  cases p <;> first | rfl | simp at hp

theorem State.startStop_changesOnly (s : State) (stop : Option Nat) : s.changesOnly (s.startStop stop) [.qualifier] :=
  s.setQualifier_changesOnly _

theorem State.speedUpdate_changesOnly (s : State) : s.changesOnly s.speedUpdate qualifierParts := by
  have q : ∀ x, s.changesOnly (s.setQualifier x) qualifierParts := fun x =>
    State.changesOnly_mono (s.setQualifier_changesOnly x) (by simp)
  have e : ∀ a o x, s.changesOnly (s.endAttempt a o x) qualifierParts := fun a o x =>
    State.changesOnly_mono (s.endAttempt_changesOnly a o x) (by simp)
  unfold State.speedUpdate
  split
  · exact State.changesOnly_ite
      (State.changesOnly_then (s.changeAccount_changesOnly 0 _) (State.setQualifier_changesOnly _ _) (by simp) (by simp))
      (s.changesOnly_refl _)
  · exact s.changesOnly_refl _
  · exact State.changesOnly_ite (q _) (s.changesOnly_refl _)
  · exact s.changesOnly_refl _
  · exact State.changesOnly_ite (e _ _ _) (s.changesOnly_refl _)
  · exact s.changesOnly_refl _
  · exact State.changesOnly_ite (q _) (q _)
  · exact q _

theorem State.speedLost_changesOnly (s : State) : s.changesOnly s.speedLost [.qualifier, .alerts, .port] := by
  unfold State.speedLost
  split
  · exact s.endAttempt_changesOnly _ _ _
  · exact State.changesOnly_mono (s.startStop_changesOnly _) (by simp)
  · exact s.changesOnly_refl _
  · exact s.changesOnly_refl _

theorem State.windowExpiry_changesOnly (s : State) : s.changesOnly s.windowExpiry [.qualifier, .alerts, .port] := by
  unfold State.windowExpiry
  split <;> first | exact s.endAttempt_changesOnly _ _ _ | exact s.changesOnly_refl _

theorem State.postQualified_changesOnly (s : State) (a : Attempt) :
    s.changesOnly (s.postQualified a) [.accounts, .store, .alerts, .port] := by
  unfold State.postQualified
  exact State.changesOnly_ite
    (State.changesOnly_then (s.postEvents_changesOnly _ _ _) (State.changeAccount_changesOnly _ _ _) (by simp) (by simp))
    (s.postEvents_changesOnly _ _ _)

theorem State.confirmDone_changesOnly (s : State) : s.changesOnly s.confirmDone qualifierParts := by
  unfold State.confirmDone
  split
  · exact State.changesOnly_ite
      (State.changesOnly_then (s.postQualified_changesOnly _) (State.endAttempt_changesOnly _ _ _ _) (by simp) (by simp))
      (State.changesOnly_mono (s.endAttempt_changesOnly _ _ _) (by simp))
  all_goals exact s.changesOnly_refl _

theorem State.endForMode_changesOnly (s : State) : s.changesOnly s.endForMode [.qualifier, .alerts, .port] := by
  unfold State.endForMode
  split
  · exact s.endAttempt_changesOnly _ _ _
  · exact s.endAttempt_changesOnly _ _ _
  · exact State.changesOnly_mono (s.setQualifier_changesOnly _) (by simp)
  · exact s.changesOnly_refl _

theorem State.stopQualifier_changesOnly (s : State) : s.changesOnly s.stopQualifier [.qualifier, .alerts, .port] := by
  refine State.changesOnly_trans s.endForMode_changesOnly ?_
  intro p hp
  cases p <;> first | rfl | simp at hp

/-! ## Signal Intake -/

/-- What the ageing and the decoding of signals may change. -/
abbrev intakeParts : List Part := [.intake, .qualifier, .accounts, .store, .alerts, .port]

theorem State.setAgeing_changesOnly (s : State) (n : SignalName) (g : Ageing) :
    s.changesOnly (s.setAgeing n g) [.intake] := by
  intro p hp
  cases p <;> first | rfl | simp at hp

theorem State.handUnknown_changesOnly (s : State) (n : SignalName) : s.changesOnly (s.handUnknown n) intakeParts := by
  cases n
  case engineSpeed => exact State.changesOnly_mono s.speedLost_changesOnly (by simp)
  case starterStatus => exact State.changesOnly_mono s.reformCrank_changesOnly (by simp)
  case drivelineEvent =>
    intro p hp
    cases p <;> first | rfl | simp at hp
  all_goals exact s.changesOnly_refl _

theorem State.passUnknown_changesOnly (s : State) (n : SignalName) (age : Nat) :
    s.changesOnly (s.passUnknown n age) intakeParts := by
  unfold State.passUnknown
  split
  · exact s.changesOnly_refl _
  all_goals
    exact State.changesOnly_then (s.setAgeing_changesOnly n _) (State.handUnknown_changesOnly _ n) (by simp) (by simp)

theorem State.reclassify_changesOnly (s : State) (n : SignalName) : s.changesOnly (s.reclassify n) intakeParts :=
  State.changesOnly_ite (s.passUnknown_changesOnly n _)
    (State.changesOnly_ite (State.changesOnly_mono (s.setAgeing_changesOnly n _) (by simp)) (s.changesOnly_refl _))

theorem State.reclassifyAll_changesOnly (s : State) : s.changesOnly s.reclassifyAll intakeParts :=
  State.changesOnly_foldl (fun x n => x.reclassify_changesOnly n) _ s

theorem State.intakeParked_changesOnly (s : State) : s.changesOnly s.intakeParked intakeParts := by
  refine State.changesOnly_then
    (State.changesOnly_foldl (fun x n => x.passUnknown_changesOnly n (x.intake.ageing n).age) signalNames s)
    (qs := [.intake]) ?_ (by simp) (by simp)
  intro p hp
  cases p <;> first | rfl | simp at hp

/-! ## The metering pass -/

/-- What the metering of an account may change. -/
abbrev meterParts : List Part := [.meter, .accounts, .store, .alerts, .port, .log]

theorem State.activateBand_changesOnly (s : State) (k : Fin 16) :
    s.changesOnly (s.activateBand k) [.bands, .accounts, .store, .engine] := by
  refine State.changesOnly_ite
    (State.changesOnly_then (ps := [.bands]) ?_ (State.hand_changesOnly _ _) (by simp) (by simp)) (s.changesOnly_refl _)
  intro p hp
  cases p <;> first | rfl | simp at hp

theorem State.activateStaged_changesOnly (s : State) :
    s.changesOnly s.activateStaged [.bands, .accounts, .store, .engine] :=
  State.changesOnly_foldl (fun x k => x.activateBand_changesOnly k) _ s

theorem State.setUnobservedNow_changesOnly (s : State) (i : AccountIx) (v : Bool) :
    s.changesOnly (s.setUnobservedNow i v) [.meter] := by
  intro p hp
  cases p <;> first | rfl | simp at hp

theorem State.clearUnobserved_changesOnly (s : State) (i : AccountIx) :
    s.changesOnly (s.clearUnobserved i) [.meter, .alerts, .port] :=
  State.changesOnly_ite
    (State.changesOnly_then (s.setUnobservedNow_changesOnly i false) (State.report_changesOnly _ _ _ _) (by simp) (by simp))
    (s.changesOnly_refl _)

theorem State.noteUnobserved_changesOnly (s : State) (i : AccountIx) :
    s.changesOnly (s.noteUnobserved i) [.meter, .alerts, .port] :=
  State.changesOnly_ite (s.changesOnly_refl _)
    (State.changesOnly_then (s.setUnobservedNow_changesOnly i true) (State.report_changesOnly _ _ _ _) (by simp) (by simp))

theorem State.noteWinner_changesOnly (s : State) (i : AccountIx) (w : Option (Fin 16)) :
    s.changesOnly (s.noteWinner i w) [.meter, .alerts, .port] := by
  have m : s.changesOnly { s with meter := { s.meter with lastWinner := s.meter.lastWinner.set i w } } [.meter] := by
    intro p hp
    cases p <;> first | rfl | simp at hp
  unfold State.noteWinner
  dsimp only
  split
  · exact State.changesOnly_ite (State.changesOnly_then m (State.raiseEvent_changesOnly _ _ _) (by simp) (by simp))
      (State.changesOnly_mono m (by simp))
  · exact State.changesOnly_mono m (by simp)

theorem State.unobservedPeriod_changesOnly (s : State) (i : AccountIx) :
    s.changesOnly (s.unobservedPeriod i) meterParts := by
  refine State.changesOnly_then (ps := meterParts) (qs := [.accounts, .alerts, .port])
    (State.changesOnly_then (ps := [.accounts, .store]) (qs := meterParts) (s.changeAccount_changesOnly i _)
      (State.changesOnly_then (State.noteUnobserved_changesOnly _ i) (State.flagOpen_changesOnly _ _) (by simp)
        (by simp)) (by simp) (by simp))
    (State.evalCarried_changesOnly _ i _) (by simp) (by simp)

theorem State.activePeriod_changesOnly (s : State) (i : AccountIx) : s.changesOnly (s.activePeriod i) meterParts := by
  refine State.changesOnly_then (ps := [.meter, .alerts, .port]) (qs := [.accounts, .store, .alerts, .port])
    (State.changesOnly_trans (s.clearUnobserved_changesOnly i) (State.noteWinner_changesOnly _ i _))
    (State.changesOnly_then (State.changeAccount_changesOnly _ i _) (State.credit_changesOnly _ i _) (by simp) (by simp))
    (by simp) (by simp)

theorem State.meterAccount_changesOnly (s : State) (i : AccountIx) : s.changesOnly (s.meterAccount i) meterParts := by
  unfold State.meterAccount
  split
  · exact s.activePeriod_changesOnly i
  · exact State.changesOnly_mono (s.clearUnobserved_changesOnly i) (by simp)
  · exact State.changesOnly_ite (s.unobservedPeriod_changesOnly i) (s.changesOnly_refl _)

theorem State.revolutions_changesOnly (s : State) : s.changesOnly s.revolutions [.accounts, .store] := by
  unfold State.revolutions
  split
  · exact s.changeAccount_changesOnly _ _
  · exact s.changesOnly_refl _

/-! ## Modes -/

theorem State.dropRequests_changesOnly (s : State) : s.changesOnly s.dropRequests [.port, .engine] := by
  intro p hp
  cases p <;> first | rfl | simp at hp

theorem State.wake_changesOnly (s : State) : s.changesOnly s.wake ([.time, .meter] ++ qualifierParts) := by
  refine State.changesOnly_then (ps := [.time, .meter]) ?_ (State.reformCrank_changesOnly _) (by simp) (by simp)
  intro p hp
  cases p <;> first | rfl | simp at hp

theorem State.enterDormant_changesOnly (s : State) :
    s.changesOnly s.enterDormant [.time, .meter, .engine, .qualifier, .alerts, .port] := by
  refine State.changesOnly_then (ps := [.time, .meter, .engine]) ?_ (State.stopQualifier_changesOnly _) (by simp) (by simp)
  intro p hp
  cases p <;> first | rfl | simp at hp

theorem State.timebaseBad_changesOnly (s : State) : s.changesOnly s.timebaseBad [.time, .alerts, .port, .log, .store] := by
  refine State.changesOnly_then (ps := [.time, .alerts, .port]) (State.changesOnly_ite (s.changesOnly_refl _) ?_)
    (State.flagOpen_changesOnly _ _) (by simp) (by simp)
  intro p hp
  cases p <;> first | rfl | simp at hp

end Sys2Proof.Machine
end

