-- ==== Sys2Proof/Laws/Alerts.lean ====
section
/-! SUPPORT. The Alert Unit: what a raise and a report do to the entries and the held values, one entry per pair, and the
transmit queue's bound through notices and responses. -/

namespace Sys2Proof.Machine

/-! ## Held values -/

theorem AlertUnit.holds_reportTrue (u : AlertUnit) (p : AlertPair) (param : Option Byte) (now : Nat) :
    (u.reportTrue p param now).1.holds p = true := by
  unfold AlertUnit.reportTrue
  split
  · assumption
  · unfold AlertUnit.raise
    split <;> simp [AlertUnit.holds]

theorem AlertUnit.holds_reportFalse (u : AlertUnit) (p : AlertPair) : (u.reportFalse p).holds p = false := by
  unfold AlertUnit.reportFalse
  split
  · simp [AlertUnit.holds]
  · simpa using ‹¬u.holds p = true›

/-- A raise leaves every held value. -/
@[simp] theorem AlertUnit.holds_raise (u : AlertUnit) (p q : AlertPair) (param : Option Byte) (now : Nat) :
    (u.raise p param now).1.holds q = u.holds q := by
  unfold AlertUnit.raise
  split <;> rfl

/-- A report leaves the value reported held (R135). -/
@[simp] theorem State.holds_report_same (s : State) (p : AlertPair) (v : Bool) (param : Option Byte) :
    (s.report p v param).alerts.holds p = v := by
  cases v
  · exact AlertUnit.holds_reportFalse _ p
  · exact AlertUnit.holds_reportTrue _ p param _

/-- A report leaves every other pair's held value. -/
theorem State.holds_report_other (s : State) {p q : AlertPair} (v : Bool) (param : Option Byte) (h : q ≠ p) :
    (s.report p v param).alerts.holds q = s.alerts.holds q := by
  cases v
  · show (s.alerts.reportFalse p).holds q = _
    unfold AlertUnit.reportFalse
    split <;> simp [AlertUnit.holds, h]
  · show (s.alerts.reportTrue p param s.time.deviceTime).1.holds q = _
    unfold AlertUnit.reportTrue
    split
    · rfl
    · rw [AlertUnit.holds_raise]
      simp [AlertUnit.holds, h]

/-! ## Thresholds (R16) -/

theorem State.evalServiceDue_kept (s : State) (i : AccountIx) :
    (s.evalServiceDue i).accounts.serviceDue[i] = (s.account i).serviceDueNow ∧
      (s.evalServiceDue i).accounts.lifeLimit = s.accounts.lifeLimit ∧
      ((s.account i).serviceDueNow ≠ s.accounts.serviceDue[i] →
        (s.evalServiceDue i).alerts.holds (accountPair i .serviceDue) = (s.account i).serviceDueNow) := by
  unfold State.evalServiceDue
  dsimp only
  split
  · next same => exact ⟨same.symm, rfl, fun h => absurd same h⟩
  · refine ⟨?_, rfl, fun _ => State.holds_report_same _ _ _ _⟩
    simp [State.report, State.withAlerts]

theorem State.evalLifeLimit_kept (s : State) (i : AccountIx) :
    (s.evalLifeLimit i).accounts.lifeLimit[i] = (s.account i).lifeLimitNow ∧
      (s.evalLifeLimit i).accounts.serviceDue = s.accounts.serviceDue ∧
      (s.evalLifeLimit i).alerts.holds (accountPair i .serviceDue) = s.alerts.holds (accountPair i .serviceDue) ∧
      ((s.account i).lifeLimitNow ≠ s.accounts.lifeLimit[i] →
        (s.evalLifeLimit i).alerts.holds (accountPair i .lifeLimit) = (s.account i).lifeLimitNow) := by
  unfold State.evalLifeLimit
  dsimp only
  split
  · next same => exact ⟨same.symm, rfl, rfl, fun h => absurd same h⟩
  · refine ⟨?_, rfl, ?_, fun _ => State.holds_report_same _ _ _ _⟩
    · simp [State.report, State.withAlerts]
    · exact State.holds_report_other _ _ _ (by simp [accountPair])

theorem State.account_evalServiceDue (s : State) (i j : AccountIx) : (s.evalServiceDue i).account j = s.account j := by
  unfold State.evalServiceDue
  dsimp only
  split <;> rfl

/-- An evaluation of the thresholds settles them: each condition as its threshold and the wear give it, a change of it held
by the Alert Unit. -/
theorem State.evalThresholds_settled (s : State) (i : AccountIx) : s.thresholdsSettled (s.evalThresholds i) i := by
  obtain ⟨due, life, dueHeld⟩ := s.evalServiceDue_kept i
  obtain ⟨lifeNow, dueStands, heldStands, lifeHeld⟩ := (s.evalServiceDue i).evalLifeLimit_kept i
  rw [State.account_evalServiceDue] at lifeNow lifeHeld
  unfold State.thresholdsSettled
  rw [State.account_evalThresholds]
  unfold State.evalThresholds
  dsimp only
  rw [lifeNow, dueStands, heldStands, due]
  rw [life] at lifeHeld
  exact ⟨by simp [Account.serviceDueNow, bne, beq_eq_decide], by simp [Account.lifeLimitNow, bne, beq_eq_decide], dueHeld,
    lifeHeld⟩

/-- A credit that carries nothing leaves the thresholds; one that carries settles them (R12). -/
theorem State.evalCarried_settles (s : State) (i : AccountIx) (n : Nat) :
    if n = 0 then s.thresholdsStand (s.evalCarried i n) i else s.thresholdsSettled (s.evalCarried i n) i := by
  unfold State.evalCarried
  split
  · exact ⟨rfl, rfl⟩
  · exact s.evalThresholds_settled i

/-! ## One entry per pair -/

theorem AlertUnit.raise_pairs_nodup (u : AlertUnit) (p : AlertPair) (param : Option Byte) (now : Nat)
    (h : (u.entries.map AlertEntry.pair).Nodup) : ((u.raise p param now).1.entries.map AlertEntry.pair).Nodup := by
  unfold AlertUnit.raise
  split
  · next none_ =>
    have out : ∀ e ∈ u.entries, e.pair ≠ p := by
      intro e m q
      have := List.find?_eq_none.mp none_ e m
      simp [q] at this
    simp only [List.map_append, List.map_cons, List.map_nil]
    refine List.nodup_append.mpr ⟨h, List.nodup_singleton _, fun a m b q => ?_⟩
    obtain ⟨e, there, rfl⟩ := List.mem_map.mp m
    rw [List.mem_singleton.mp q]
    exact out e there
  · have same : (u.entries.map fun e => if e.pair == p then e.repeated param now else e).map AlertEntry.pair =
        u.entries.map AlertEntry.pair := by
      rw [List.map_map]
      apply List.map_congr_left
      intro e _
      simp only [Function.comp_apply]
      split <;> rfl
    exact same ▸ h

/-- Removing entries leaves at most one per pair. -/
theorem AlertUnit.filter_pairs_nodup (u : AlertUnit) (f : AlertEntry → Bool)
    (h : (u.entries.map AlertEntry.pair).Nodup) : ((u.entries.filter f).map AlertEntry.pair).Nodup :=
  (List.filter_sublist.map AlertEntry.pair).nodup h

theorem AlertUnit.reportTrue_pairs_nodup (u : AlertUnit) (p : AlertPair) (param : Option Byte) (now : Nat)
    (h : (u.entries.map AlertEntry.pair).Nodup) :
    ((u.reportTrue p param now).1.entries.map AlertEntry.pair).Nodup := by
  unfold AlertUnit.reportTrue
  split
  · exact h
  · exact AlertUnit.raise_pairs_nodup _ p param now h

theorem AlertUnit.reportFalse_pairs_nodup (u : AlertUnit) (p : AlertPair)
    (h : (u.entries.map AlertEntry.pair).Nodup) : ((u.reportFalse p).entries.map AlertEntry.pair).Nodup := by
  unfold AlertUnit.reportFalse
  split
  · exact u.filter_pairs_nodup _ h
  · exact h

theorem State.report_pairsDistinct (s : State) (p : AlertPair) (v : Bool) (param : Option Byte)
    (h : s.pairsDistinct) : (s.report p v param).pairsDistinct := by
  cases v
  · exact AlertUnit.reportFalse_pairs_nodup _ p h
  · exact AlertUnit.reportTrue_pairs_nodup _ p param _ h

theorem State.raiseEvent_pairsDistinct (s : State) (p : AlertPair) (param : Option Byte) (h : s.pairsDistinct) :
    (s.raiseEvent p param).pairsDistinct :=
  AlertUnit.raise_pairs_nodup _ p param _ h

/-! ## The bound of the transmit queue -/

theorem Port.push_bounded (p : Port) (f : Frame) (h : p.hasRoom = true) : (p.push f).tx.length ≤ txPlaces := by
  have lt : p.tx.length < txPlaces := by simpa [Port.hasRoom] using h
  simpa [Port.push] using lt

theorem State.withAlerts_txBounded (s : State) (r : AlertUnit × Option AlertEntry) (h : s.txBounded) :
    (s.withAlerts r).txBounded := by
  unfold State.txBounded State.withAlerts
  dsimp only
  split
  · split
    · next t =>
      refine Port.push_bounded _ _ ?_
      simp only [State.takesNotice, Bool.and_eq_true] at t
      exact t.1.1
    · exact h
  · exact h

theorem State.offer_txBounded (s : State) (k : SlotIx) (kind : Byte) (ops : List Byte) (f : Frame) (h : s.txBounded) :
    (s.offer k kind ops f).txBounded := by
  unfold State.offer
  split
  · next room => exact Port.push_bounded _ _ room
  · exact h

/-- A response of which the queue has room enters it, and its slot is IDLE (R170). -/
theorem State.offer_room (s : State) (k : SlotIx) (kind : Byte) (ops : List Byte) (f : Frame)
    (room : s.port.hasRoom = true) :
    s.offer k kind ops f = State.setInFlight { s with port := s.port.push f } k none := by
  simp [State.offer, room]

/-- Making an IDLE slot IDLE changes nothing. -/
theorem State.setInFlight_idle (s : State) (k : SlotIx) (h : s.engine.slots[k].inFlight = none) :
    s.setInFlight k none = s := by
  have slot : { s.engine.slots[k] with inFlight := none } = s.engine.slots[k] := by
    cases e : s.engine.slots[k]
    rw [e] at h
    simp_all
  unfold State.setInFlight
  rw [slot]
  simp

end Sys2Proof.Machine
end

