-- ==== Sys2Proof/Laws/Store.lean ====
section
/-! SUPPORT. The Record Store: marks and coverage, the queue without repeats, what handing and a bulk enqueue cover, and the
operations that only mark. -/

namespace Sys2Proof.Machine

/-! ## Marks -/

theorem RecordId.index_injective {a b : RecordId} (h : a.index = b.index) : a = b := by
  have v : a.index.val = b.index.val := congrArg Fin.val h
  cases a with
  | account i =>
    cases b with
    | account j => exact congrArg RecordId.account (Fin.ext v)
    | settings => exact absurd (show i.val = 5 from v) (by omega)
    | band j => exact absurd (show i.val = 6 + j.val from v) (by omega)
    | slot j => exact absurd (show i.val = 22 + j.val from v) (by omega)
  | settings =>
    cases b with
    | account j => exact absurd (show 5 = j.val from v) (by omega)
    | settings => rfl
    | band j => exact absurd (show 5 = 6 + j.val from v) (by omega)
    | slot j => exact absurd (show 5 = 22 + j.val from v) (by omega)
  | band i =>
    cases b with
    | account j => exact absurd (show 6 + i.val = j.val from v) (by omega)
    | settings => exact absurd (show 6 + i.val = 5 from v) (by omega)
    | band j => exact congrArg RecordId.band (Fin.ext (by have e : 6 + i.val = 6 + j.val := v; omega))
    | slot j => exact absurd (show 6 + i.val = 22 + j.val from v) (by omega)
  | slot i =>
    cases b with
    | account j => exact absurd (show 22 + i.val = j.val from v) (by omega)
    | settings => exact absurd (show 22 + i.val = 5 from v) (by omega)
    | band j => exact absurd (show 22 + i.val = 6 + j.val from v) (by omega)
    | slot j => exact congrArg RecordId.slot (Fin.ext (by have e : 22 + i.val = 22 + j.val := v; omega))

@[simp] theorem Store.mark_state (st : Store) (r : RecordId) : (st.mark r).state = st.state := rfl

@[simp] theorem Store.mark_queue (st : Store) (r : RecordId) : (st.mark r).queue = st.queue := rfl

@[simp] theorem Store.mark_array (st : Store) (r : RecordId) : (st.mark r).array = st.array := rfl

@[simp] theorem Store.isChanged_mark_same (st : Store) (r : RecordId) : (st.mark r).isChanged r = true := by
  simp [Store.mark, Store.isChanged]

theorem Store.isChanged_mark_other (st : Store) {r q : RecordId} (h : r ≠ q) :
    (st.mark r).isChanged q = st.isChanged q := by
  have n : r.index.val ≠ q.index.val := fun e => h (RecordId.index_injective (Fin.ext e))
  simp [Store.mark, Store.isChanged, n]

/-- A mark never takes off a mark. -/
theorem Store.isChanged_mark_mono (st : Store) (r q : RecordId) (h : st.isChanged q = true) :
    (st.mark r).isChanged q = true := by
  by_cases e : r = q
  · subst e; exact st.isChanged_mark_same r
  · rw [st.isChanged_mark_other e]; exact h

/-! ## Coverage and the queue -/

theorem Store.append_covers (st : Store) (r : RecordId) : (st.append r).covered r = true := by
  unfold Store.append
  split
  · assumption
  · simp [Store.covered]

theorem Store.append_queue_nodup (st : Store) (r : RecordId) (h : st.queue.Nodup) : (st.append r).queue.Nodup := by
  unfold Store.append
  split
  · exact h
  · next c =>
    have out : r ∉ st.queue := by
      intro m
      exact c (by simp [Store.covered, m])
    exact List.nodup_append.mpr ⟨h, List.nodup_singleton r, fun a m b e => by
      rw [List.mem_singleton.mp e]
      exact fun q => out (q ▸ m)⟩

theorem allRecords_nodup : allRecords.Nodup := by decide +kernel

theorem mem_allRecords (r : RecordId) : r ∈ allRecords := by
  cases r <;> simp [allRecords, accountRecords]

/-- A bulk enqueue appends no record twice. -/
theorem Store.uncovered_queue_nodup (st : Store) (rs : List RecordId) (h : st.queue.Nodup) (d : rs.Nodup) :
    (st.queue ++ st.uncovered rs).Nodup := by
  refine List.nodup_append.mpr ⟨h, d.filter _, fun a m b e => ?_⟩
  intro q
  subst q
  have c := (List.mem_filter.mp e).2
  simp [Store.covered, m] at c

/-! ## Beginning writes -/

@[simp] theorem State.startWrite_queue (s : State) (r : RecordId) : (s.startWrite r).store.queue = s.store.queue := by
  cases r <;> rfl

@[simp] theorem State.startWrite_state (s : State) (r : RecordId) : (s.startWrite r).store.state = s.store.state := by
  cases r <;> rfl

@[simp] theorem State.startWrite_changed (s : State) (r : RecordId) :
    (s.startWrite r).store.changed = s.store.changed := by
  cases r <;> rfl

@[simp] theorem State.startWrite_array (s : State) (r : RecordId) : (s.startWrite r).store.array = s.store.array := by
  cases r <;> rfl

/-- The write that begins is of its record and carries the record's content. -/
theorem State.startWrite_inFlight (s : State) (r : RecordId) :
    (s.startWrite r).store.inFlight =
      some { record := r, image := (s.stampLastWrite r).compose r, dirty := false } := rfl

theorem State.startWrite_covers (s : State) (r : RecordId) : (s.startWrite r).store.covered r = true := by
  simp [Store.covered, Store.inFlightCovers, State.startWrite_inFlight]

/-- A begin takes nothing out of the queue and no mark away. -/
theorem State.nextWrite_covers (s : State) (q : RecordId) (h : q ∈ s.store.queue) :
    s.nextWrite.store.covered q = true := by
  unfold State.nextWrite
  split
  · next e => rw [e] at h; cases h
  · next r rest e =>
    rw [e] at h
    rcases List.mem_cons.mp h with rfl | m
    · exact State.startWrite_covers _ _
    · simp [Store.covered, m]

@[simp] theorem State.nextWrite_changed (s : State) : s.nextWrite.store.changed = s.store.changed := by
  unfold State.nextWrite
  split
  · rfl
  · exact State.startWrite_changed _ _

@[simp] theorem State.startIfReady_changed (s : State) : s.startIfReady.store.changed = s.store.changed := by
  unfold State.startIfReady
  split <;> first | exact s.nextWrite_changed | rfl

/-- The queue, one shorter if a write begins. -/
theorem State.nextWrite_queue (s : State) : s.nextWrite.store.queue = s.store.queue.tail := by
  unfold State.nextWrite
  split
  · next e => exact e.trans (by rw [e]; rfl)
  · next r rest e => rw [State.startWrite_queue, e]; rfl

theorem State.startIfReady_queue_nodup (s : State) (h : s.store.queue.Nodup) : s.startIfReady.store.queue.Nodup := by
  unfold State.startIfReady
  split <;> first | exact h | (rw [State.nextWrite_queue]; exact h.tail)

theorem State.hand_queue_nodup (s : State) (r : RecordId) (h : s.store.queue.Nodup) :
    (s.hand r).store.queue.Nodup := by
  unfold State.hand
  dsimp only
  split <;>
    first
    | exact h
    | exact State.startIfReady_queue_nodup _ (Store.append_queue_nodup _ r h)

theorem State.bulkEnqueue_queue_nodup (s : State) (rs : List RecordId) (h : s.store.queue.Nodup) (d : rs.Nodup) :
    (s.bulkEnqueue rs).store.queue.Nodup :=
  State.startIfReady_queue_nodup _ (Store.uncovered_queue_nodup s.store rs h d)

/-- Handing marks the record, whatever the store does. -/
theorem State.hand_isChanged (s : State) (r : RecordId) : (s.hand r).store.isChanged r = true := by
  have m := s.store.isChanged_mark_same r
  unfold State.hand
  dsimp only
  split
  · exact m
  · exact m
  all_goals
    unfold Store.isChanged
    rw [State.startIfReady_changed]
    unfold Store.append
    split <;> exact m

/-- A store WRITING covers what it is handed. -/
theorem State.hand_covers_writing (s : State) (r : RecordId) (h : s.store.state = .writing) :
    (s.hand r).store.covered r = true := by
  have a : (s.store.mark r).append r = ((s.store.mark r).append r) := rfl
  have st : ((s.store.mark r).append r).state = .writing := by
    unfold Store.append
    split <;> exact h
  have e : s.hand r = { s.markRecord r with store := (s.store.mark r).append r } := by
    unfold State.hand
    simp only [State.markRecord, Store.mark_state, h]
    unfold State.startIfReady
    simp only [st]
  rw [e]
  exact Store.append_covers _ r

/-- A store READY with nothing queued or in flight begins the write of what it is handed. -/
theorem State.hand_ready (s : State) (r : RecordId) (h : s.store.state = .ready) (q : s.store.queue = [])
    (f : s.store.inFlight = none) :
    s.hand r = State.startWrite { s.markRecord r with store := { s.store.mark r with state := .writing } } r := by
  have ap : (s.store.mark r).append r = { s.store.mark r with queue := [r] } := by
    simp [Store.append, Store.covered, Store.inFlightCovers, Store.mark, q, f]
  unfold State.hand
  simp only [State.markRecord, Store.mark_state, h, ap]
  unfold State.startIfReady State.nextWrite
  dsimp only
  simp [Store.mark, q]

theorem State.hand_covers_ready (s : State) (r : RecordId) (h : s.store.state = .ready) (q : s.store.queue = [])
    (f : s.store.inFlight = none) : (s.hand r).store.covered r = true := by
  rw [s.hand_ready r h q f]
  exact State.startWrite_covers _ _

/-- After a bulk enqueue a READY store with nothing in flight covers every changed record named (R155). -/
theorem State.bulkEnqueue_covers_ready (s : State) (rs : List RecordId) (r : RecordId) (h : s.store.state = .ready)
    (f : s.store.inFlight = none) (m : r ∈ rs) (c : s.store.isChanged r = true) :
    (s.bulkEnqueue rs).store.covered r = true := by
  have q : r ∈ s.store.queue ++ s.store.uncovered rs := by
    by_cases v : s.store.covered r = true
    · exact List.mem_append_left _ (by simpa [Store.covered, Store.inFlightCovers, f] using v)
    · exact List.mem_append_right _ (List.mem_filter.mpr ⟨m, by simp [c, v]⟩)
  have e : s.bulkEnqueue rs =
      State.nextWrite { s with store := { s.store with queue := s.store.queue ++ s.store.uncovered rs } } := by
    unfold State.bulkEnqueue State.startIfReady
    simp only [h]
  rw [e]
  exact State.nextWrite_covers _ r q

/-- After a bulk enqueue a WRITING store covers every changed record named (R155). -/
theorem State.bulkEnqueue_covers_writing (s : State) (rs : List RecordId) (r : RecordId) (h : s.store.state = .writing)
    (m : r ∈ rs) (c : s.store.isChanged r = true) : (s.bulkEnqueue rs).store.covered r = true := by
  have e : s.bulkEnqueue rs = { s with store := { s.store with queue := s.store.queue ++ s.store.uncovered rs } } := by
    unfold State.bulkEnqueue State.startIfReady
    simp only [h]
  rw [e]
  by_cases v : s.store.covered r = true
  · unfold Store.covered at v ⊢
    simp only [List.contains_eq_mem, Bool.or_eq_true, decide_eq_true_eq, List.mem_append] at v ⊢
    rcases v with q | i
    · exact .inl (.inl q)
    · exact .inr i
  · have u : r ∈ s.store.uncovered rs := List.mem_filter.mpr ⟨m, by simp [c, v]⟩
    simp [Store.covered, u]

/-! ## The flush (R161, R162) -/

/-- The next write of the flush list. -/
theorem State.flushNext_next (s : State) {i : AccountIx} {rest : List AccountIx} (h : s.store.flushList = i :: rest) :
    s.flushNext = State.startWrite { s with store := { s.store with flushList := rest } } (.account i) := by
  unfold State.flushNext
  simp only [h]

/-- The end of a flush that a release cut short. -/
theorem State.flushNext_released (s : State) (h : s.store.flushList = []) (r : s.store.pfwReleased = true) :
    s.flushNext = s.recover := by
  unfold State.flushNext
  simp [h, r]

/-- The end of a flush with PFW standing. -/
theorem State.flushNext_done (s : State) (h : s.store.flushList = []) (r : s.store.pfwReleased = false) :
    s.flushNext = s.enterDormant := by
  unfold State.flushNext
  simp [h, r]

/-- After a completion in FLUSHING the flush goes on, with no examination of the holds. -/
theorem State.afterWrite_flushing (s : State) (before : Store) (d : s.engine.resetDue = false)
    (h : s.store.state = .flushing) : s.afterWrite before = s.flushNext := by
  unfold State.afterWrite
  simp [d, h]

/-- A second fault in a released flush leaves the part as the fault left it. -/
theorem State.afterWrite_offline_released (s : State) (before : Store) (d : s.engine.resetDue = false)
    (h : s.store.state = .offline) (b : before.state = .flushing) (r : before.pfwReleased = true) :
    s.afterWrite before = s := by
  unfold State.afterWrite
  simp [d, h, b, r]

/-! ## Operations that only mark -/

/-- From s to t the store only gains marks: the queue, the state, the array and the record in flight stand, and no mark goes. -/
structure State.onlyMarks (s t : State) : Prop where
  queue : t.store.queue = s.store.queue
  state : t.store.state = s.store.state
  array : t.store.array = s.store.array
  flushList : t.store.flushList = s.store.flushList
  pfwTaken : t.store.pfwTaken = s.store.pfwTaken
  pfwReleased : t.store.pfwReleased = s.store.pfwReleased
  settingsSuspect : t.store.settingsSuspect = s.store.settingsSuspect
  checkpointMs : t.store.checkpointMs = s.store.checkpointMs
  inFlight : t.store.inFlight.map Write.record = s.store.inFlight.map Write.record
  image : t.store.inFlight.map Write.image = s.store.inFlight.map Write.image
  changed : ∀ r, s.store.isChanged r = true → t.store.isChanged r = true

theorem State.onlyMarks_of_same {s t : State} (h : t.store = s.store) : s.onlyMarks t := by
  constructor <;> rw [h]
  exact fun _ x => x

theorem State.onlyMarks_trans {s t u : State} (h : s.onlyMarks t) (k : t.onlyMarks u) : s.onlyMarks u where
  queue := k.queue.trans h.queue
  state := k.state.trans h.state
  array := k.array.trans h.array
  flushList := k.flushList.trans h.flushList
  pfwTaken := k.pfwTaken.trans h.pfwTaken
  pfwReleased := k.pfwReleased.trans h.pfwReleased
  settingsSuspect := k.settingsSuspect.trans h.settingsSuspect
  checkpointMs := k.checkpointMs.trans h.checkpointMs
  inFlight := k.inFlight.trans h.inFlight
  image := k.image.trans h.image
  changed := fun r x => k.changed r (h.changed r x)

/-- An update outside the store, then an operation that only marks. -/
theorem State.onlyMarks_after {s t u : State} (k : t.onlyMarks u) (h : t.store = s.store) : s.onlyMarks u :=
  State.onlyMarks_trans (State.onlyMarks_of_same h) k

theorem State.onlyMarks_ite {s t u : State} {c : Prop} [Decidable c] (h : s.onlyMarks t) (k : s.onlyMarks u) :
    s.onlyMarks (if c then t else u) := by
  split
  · exact h
  · exact k

/-- An operation that keeps the store only marks. -/
theorem State.onlyMarks_of_changesOnly {s t : State} {ps : List Part} (h : s.changesOnly t ps) (n : Part.store ∉ ps) :
    s.onlyMarks t :=
  State.onlyMarks_of_same (h .store n)

theorem State.markRecord_onlyMarks (s : State) (r : RecordId) : s.onlyMarks (s.markRecord r) where
  queue := rfl
  state := rfl
  array := rfl
  flushList := rfl
  pfwTaken := rfl
  pfwReleased := rfl
  settingsSuspect := rfl
  checkpointMs := rfl
  inFlight := by cases h : s.store.inFlight <;> simp [State.markRecord, Store.mark, h]
  image := by cases h : s.store.inFlight <;> simp [State.markRecord, Store.mark, h]
  changed := fun q x => s.store.isChanged_mark_mono r q x

theorem State.changeAccount_onlyMarks (s : State) (i : AccountIx) (f : Account → Account) :
    s.onlyMarks (s.changeAccount i f) :=
  State.onlyMarks_ite (State.onlyMarks_of_same rfl)
    (State.onlyMarks_after (State.markRecord_onlyMarks _ _) rfl)

theorem State.evalThresholds_onlyMarks (s : State) (i : AccountIx) : s.onlyMarks (s.evalThresholds i) :=
  State.onlyMarks_of_changesOnly (s.evalThresholds_changesOnly i) (by decide)

theorem State.evalCarried_onlyMarks (s : State) (i : AccountIx) (n : Nat) : s.onlyMarks (s.evalCarried i n) :=
  State.onlyMarks_of_changesOnly (s.evalCarried_changesOnly i n) (by decide)

theorem State.credit_onlyMarks (s : State) (i : AccountIx) (n : Nat) : s.onlyMarks (s.credit i n) :=
  State.onlyMarks_trans (s.changeAccount_onlyMarks i _) (State.evalCarried_onlyMarks _ i _)

theorem State.credits_onlyMarks (s : State) (i : AccountIx) (n k : Nat) : s.onlyMarks (s.credits i n k) := by
  induction k generalizing s with
  | zero => exact State.onlyMarks_of_same rfl
  | succ k ih => exact State.onlyMarks_trans (s.credit_onlyMarks i n) (ih _)

theorem State.postEvents_onlyMarks (s : State) (i : AccountIx) (n m : Nat) : s.onlyMarks (s.postEvents i n m) :=
  State.onlyMarks_trans (s.changeAccount_onlyMarks i _) (State.credits_onlyMarks _ i _ n)

theorem State.flagOpen_onlyMarks (s : State) (f : SegmentFlags → SegmentFlags) : s.onlyMarks (s.flagOpen f) := by
  unfold State.flagOpen
  split
  · exact State.onlyMarks_of_same rfl
  · exact State.onlyMarks_ite (State.onlyMarks_of_same rfl)
      (State.onlyMarks_after (State.markRecord_onlyMarks _ _) rfl)

theorem State.evalNearFull_onlyMarks (s : State) : s.onlyMarks s.evalNearFull :=
  State.onlyMarks_of_changesOnly s.evalNearFull_changesOnly (by decide)

theorem State.crankTrigger_onlyMarks (s : State) : s.onlyMarks s.crankTrigger := by
  have p : ∀ c q, s.onlyMarks ((s.postStarter c).setQualifier q) := fun c q =>
    State.onlyMarks_trans (s.postEvents_onlyMarks _ _ _) (State.onlyMarks_of_same rfl)
  unfold State.crankTrigger
  split
  · exact p _ _
  · exact p _ _
  · exact p _ _
  · exact State.onlyMarks_trans (s.postEvents_onlyMarks _ _ _) (State.changeAccount_onlyMarks _ _ _)

theorem State.reformCrank_onlyMarks (s : State) : s.onlyMarks s.reformCrank :=
  have l := State.onlyMarks_of_changesOnly s.reformLatch_changesOnly (by decide)
  State.onlyMarks_ite (State.onlyMarks_trans l (State.crankTrigger_onlyMarks _)) l

theorem State.endAttempt_onlyMarks (s : State) (a : Attempt) (o : AttemptOutcome) (q : QualifierState) :
    s.onlyMarks (s.endAttempt a o q) :=
  State.onlyMarks_of_changesOnly (s.endAttempt_changesOnly a o q) (by decide)

theorem State.speedUpdate_onlyMarks (s : State) : s.onlyMarks s.speedUpdate := by
  have z : s.onlyMarks s := State.onlyMarks_of_same rfl
  have q : ∀ x, s.onlyMarks (s.setQualifier x) := fun x => State.onlyMarks_of_same rfl
  unfold State.speedUpdate
  split
  · exact State.onlyMarks_ite
      (State.onlyMarks_trans (s.changeAccount_onlyMarks 0 _) (State.onlyMarks_of_same rfl)) z
  · exact z
  · exact State.onlyMarks_ite (q _) z
  · exact z
  · exact State.onlyMarks_ite (s.endAttempt_onlyMarks _ _ _) z
  · exact z
  · exact State.onlyMarks_ite (q _) (q _)
  · exact q _

theorem State.confirmDone_onlyMarks (s : State) : s.onlyMarks s.confirmDone := by
  unfold State.confirmDone
  split
  · refine State.onlyMarks_ite (State.onlyMarks_trans ?_ (State.endAttempt_onlyMarks _ _ _ _))
      (s.endAttempt_onlyMarks _ _ _)
    unfold State.postQualified
    exact State.onlyMarks_ite
      (State.onlyMarks_trans (s.postEvents_onlyMarks _ _ _) (State.changeAccount_onlyMarks _ _ _))
      (s.postEvents_onlyMarks _ _ _)
  all_goals exact State.onlyMarks_of_same rfl

theorem State.handUnknown_onlyMarks (s : State) (n : SignalName) : s.onlyMarks (s.handUnknown n) := by
  cases n
  case engineSpeed => exact State.onlyMarks_of_changesOnly s.speedLost_changesOnly (by decide)
  case starterStatus => exact s.reformCrank_onlyMarks
  all_goals exact State.onlyMarks_of_same rfl

theorem State.passUnknown_onlyMarks (s : State) (n : SignalName) (age : Nat) : s.onlyMarks (s.passUnknown n age) := by
  unfold State.passUnknown
  split
  · exact State.onlyMarks_of_same rfl
  all_goals exact State.onlyMarks_after (State.handUnknown_onlyMarks _ n) rfl

theorem State.meterAccount_onlyMarks (s : State) (i : AccountIx) : s.onlyMarks (s.meterAccount i) := by
  unfold State.meterAccount
  split
  · refine State.onlyMarks_trans (State.onlyMarks_of_changesOnly
      (State.changesOnly_trans (s.clearUnobserved_changesOnly i) (State.noteWinner_changesOnly _ i
        (winner s.bands.entries s.intake i))) (by decide)) ?_
    exact State.onlyMarks_trans (State.changeAccount_onlyMarks _ i _) (State.credit_onlyMarks _ i _)
  · exact State.onlyMarks_of_changesOnly (s.clearUnobserved_changesOnly i) (by decide)
  · refine State.onlyMarks_ite ?_ (State.onlyMarks_of_same rfl)
    refine State.onlyMarks_trans (State.onlyMarks_trans (State.onlyMarks_trans (s.changeAccount_onlyMarks i _)
      (State.onlyMarks_of_changesOnly (State.noteUnobserved_changesOnly _ i) (by decide)))
      (State.flagOpen_onlyMarks _ _)) (State.evalCarried_onlyMarks _ i _)

theorem State.revolutions_onlyMarks (s : State) : s.onlyMarks s.revolutions := by
  unfold State.revolutions
  split
  · exact s.changeAccount_onlyMarks _ _
  · exact State.onlyMarks_of_same rfl

end Sys2Proof.Machine
end

