-- ==== Sys2Proof/Laws/Load.lean ====
section
/-! SUPPORT. The load: when a record is judged GOOD (R153), the contents that are within their ranges, and the order a load
places the segments in (R130). -/

namespace Sys2Proof.Machine

/-! ## GOOD is the record's own id and every field in its range (R153) -/

theorem Stored.judgeAccount_good {st : Stored} {i : AccountIx} {a : Account} :
    st.judgeAccount i = .good a ↔ st = .whole (.account i a) ∧ a.inRange i = true := by
  unfold Stored.judgeAccount
  split
  · simp
  · next j b =>
    split
    · next c => obtain ⟨rfl, r⟩ := c; simp only [Judged.good.injEq, Stored.whole.injEq, RecordContent.account.injEq, true_and]
                constructor
                · rintro rfl; exact ⟨rfl, r⟩
                · exact And.left
    · next c =>
      simp only [reduceCtorEq, Stored.whole.injEq, RecordContent.account.injEq, false_iff]
      rintro ⟨⟨rfl, rfl⟩, r⟩
      exact c ⟨rfl, r⟩
  all_goals simp

theorem Stored.judgeSettings_good {st : Stored} {v : Settings} :
    st.judgeSettings = .good v ↔ st = .whole (.settings v) ∧ v.inRange = true := by
  unfold Stored.judgeSettings
  split
  · simp
  · next w =>
    split
    · next r =>
      simp only [Judged.good.injEq, Stored.whole.injEq, RecordContent.settings.injEq]
      constructor
      · rintro rfl; exact ⟨rfl, r⟩
      · exact And.left
    · next c =>
      simp only [reduceCtorEq, Stored.whole.injEq, RecordContent.settings.injEq, false_iff]
      rintro ⟨rfl, r⟩
      exact c r
  all_goals simp

theorem Stored.judgeBand_good {st : Stored} {k : Fin 16} {e : BandEntry} :
    st.judgeBand k = .good e ↔ st = .whole (.band k e) ∧ e.inRange = true := by
  unfold Stored.judgeBand
  split
  · simp
  · next j b =>
    split
    · next c => obtain ⟨rfl, r⟩ := c; simp only [Judged.good.injEq, Stored.whole.injEq, RecordContent.band.injEq, true_and]
                constructor
                · rintro rfl; exact ⟨rfl, r⟩
                · exact And.left
    · next c =>
      simp only [reduceCtorEq, Stored.whole.injEq, RecordContent.band.injEq, false_iff]
      rintro ⟨⟨rfl, rfl⟩, r⟩
      exact c ⟨rfl, r⟩
  all_goals simp

/-! ## Contents within their ranges -/

theorem Account.blank_inRange (i : AccountIx) : (Account.blank i).inRange i = true := by revert i; decide +kernel

theorem Settings.default_inRange : Settings.default.inRange = true := by decide +kernel

theorem BandEntry.blank_inRange : BandEntry.blank.inRange = true := by decide +kernel

theorem Segment.damaged_inRange : Segment.damaged.inRange = true := by decide +kernel

/-- The image of a DAMAGED segment: 0 but for the state and the absent DRIVELINE event count (R125, R196). -/
theorem Segment.damaged_layout :
    Segment.damaged.layout =
      [0#8, 0#8, 3#8] ++ List.replicate 71 0#8 ++ List.replicate 4 0xFF#8 ++ List.replicate 17 0#8 := by decide +kernel

/-! ## The order of the log (R130) -/

/-- Placing an entry by its serial adds that entry and no other. -/
theorem mem_placeBySerial {e x : LogEntry} {l : List LogEntry} : x ∈ placeBySerial e l ↔ x = e ∨ x ∈ l := by
  induction l with
  | nil => simp [placeBySerial]
  | cons y rest ih =>
    unfold placeBySerial
    split
    · simp
    · simp only [List.mem_cons, ih]; tauto

/-- A log in order of serial stays in order when an entry is placed by its serial. -/
theorem placeBySerial_sorted (e : LogEntry) {l : List LogEntry}
    (h : l.Pairwise fun a b => a.seg.serial ≤ b.seg.serial) :
    (placeBySerial e l).Pairwise fun a b => a.seg.serial ≤ b.seg.serial := by
  induction l with
  | nil => simp [placeBySerial]
  | cons y rest ih =>
    obtain ⟨hy, hr⟩ := List.pairwise_cons.mp h
    unfold placeBySerial
    split
    · next lt =>
      refine List.pairwise_cons.mpr ⟨fun b hb => ?_, h⟩
      rcases List.mem_cons.mp hb with rfl | m
      · exact Nat.le_of_lt lt
      · exact Nat.le_trans (Nat.le_of_lt lt) (hy b m)
    · next ge =>
      refine List.pairwise_cons.mpr ⟨fun b hb => ?_, ih hr⟩
      rcases mem_placeBySerial.mp hb with rfl | m
      · exact Nat.le_of_not_lt ge
      · exact hy b m

/-- The log a load forms holds exactly the segments its slots load, each in its own slot (R129). -/
theorem Store.mem_loadLog {st : Store} {e : LogEntry} : e ∈ st.loadLog ↔ st.loadSlot e.slot = some e.seg := by
  have step : ∀ (ks : List (Fin 24)) (l : List LogEntry),
      e ∈ ks.foldl
          (fun l k =>
            match st.loadSlot k with
            | some g => placeBySerial { slot := k, seg := g } l
            | none => l) l ↔
        e ∈ l ∨ e.slot ∈ ks ∧ st.loadSlot e.slot = some e.seg := by
    intro ks
    induction ks with
    | nil => simp
    | cons k ks ih =>
      intro l
      simp only [List.foldl_cons, ih, List.mem_cons]
      cases hk : st.loadSlot k with
      | none =>
        constructor
        · rintro (h | h)
          · exact .inl h
          · exact .inr ⟨.inr h.1, h.2⟩
        · rintro (h | ⟨rfl | h, g⟩)
          · exact .inl h
          · rw [hk] at g; cases g
          · exact .inr ⟨h, g⟩
      | some g =>
        simp only [mem_placeBySerial]
        constructor
        · rintro ((rfl | h) | h)
          · exact .inr ⟨.inl rfl, hk⟩
          · exact .inl h
          · exact .inr ⟨.inr h.1, h.2⟩
        · rintro (h | ⟨rfl | h, g'⟩)
          · exact .inl (.inr h)
          · rw [hk] at g'
            cases g'
            exact .inl (.inl rfl)
          · exact .inr ⟨h, g'⟩
  exact (step (List.finRange 24) []).trans (by simp)

end Sys2Proof.Machine
end

