-- ==== Sys2Proof/Laws/Metering.lean ====
section
/-! SUPPORT. The metering pass by account: what a period leaves in its account, and that it touches no other. -/

namespace Sys2Proof.Machine

theorem State.account_of_changesOnly {s t : State} {ps : List Part} (h : s.changesOnly t ps) (n : Part.accounts ∉ ps)
    (i : AccountIx) : t.account i = s.account i := by
  have e : t.accounts = s.accounts := h .accounts n
  unfold State.account
  rw [e]

/-- An active period leaves its time, its bin and its credit in the account (R13, R76, R77). -/
theorem State.account_activePeriod_same (s : State) (i : AccountIx) :
    (s.activePeriod i).account i =
      ((s.account i).addActive (selectedBin s.bands.entries (winner s.bands.entries s.intake i))).addCredit
        (selectedWeight s.bands.entries (s.account i).baseWeight (winner s.bands.entries s.intake i) *
          periodMultiplier s.settings s.intake i) := by
  unfold State.activePeriod
  dsimp only
  rw [State.account_credit_same, State.account_changeAccount_same,
    State.account_of_changesOnly (State.noteWinner_changesOnly _ i _) (by decide),
    State.account_of_changesOnly (s.clearUnobserved_changesOnly i) (by decide)]

theorem State.account_activePeriod_other (s : State) {i j : AccountIx} (h : i ≠ j) :
    (s.activePeriod i).account j = s.account j := by
  unfold State.activePeriod
  dsimp only
  rw [State.account_credit_other _ _ h, State.account_changeAccount_other _ _ h,
    State.account_of_changesOnly (State.noteWinner_changesOnly _ i _) (by decide),
    State.account_of_changesOnly (s.clearUnobserved_changesOnly i) (by decide)]

/-- An unobserved period leaves its time and its credit in the account (R69). -/
theorem State.account_unobservedPeriod_same (s : State) (i : AccountIx) :
    (s.unobservedPeriod i).account i = (s.account i).addUnobserved.addCredit ((s.account i).fallbackWeight * 8) := by
  unfold State.unobservedPeriod
  dsimp only
  rw [State.account_evalCarried, State.account_of_changesOnly (State.flagOpen_changesOnly _ _) (by decide),
    State.account_of_changesOnly (State.noteUnobserved_changesOnly _ i) (by decide), State.account_changeAccount_same]

theorem State.account_unobservedPeriod_other (s : State) {i j : AccountIx} (h : i ≠ j) :
    (s.unobservedPeriod i).account j = s.account j := by
  unfold State.unobservedPeriod
  dsimp only
  rw [State.account_evalCarried, State.account_of_changesOnly (State.flagOpen_changesOnly _ _) (by decide),
    State.account_of_changesOnly (State.noteUnobserved_changesOnly _ i) (by decide),
    State.account_changeAccount_other _ _ h]

/-- The metering of one account touches no other account (R68). -/
theorem State.account_meterAccount_other (s : State) {i j : AccountIx} (h : i ≠ j) :
    (s.meterAccount i).account j = s.account j := by
  unfold State.meterAccount
  split
  · exact s.account_activePeriod_other h
  · exact State.account_of_changesOnly (s.clearUnobserved_changesOnly i) (by decide) j
  · split
    · exact s.account_unobservedPeriod_other h
    · rfl

end Sys2Proof.Machine
end

