-- ==== Sys2Proof/Laws/Requests.lean ====
section
/-! SUPPORT. The life of a request: what a request frame becomes where the part takes requests, and how its completions end. -/

namespace Sys2Proof.Machine

/-- In ACTIVE on the bus a frame is taken as it is. -/
theorem State.hearFrame_active (s : State) (take : State → State) (b : s.onBus = true) (a : s.time.mode = .active) :
    s.hearFrame take = take s := by
  simp [State.hearFrame, b, a]

/-- Off the bus a frame is not heard. -/
theorem State.hearFrame_offBus (s : State) (take : State → State) (b : s.onBus = false) : s.hearFrame take = s := by
  simp [State.hearFrame, b]

/-- A request frame at an IDLE slot is decided, and its completion carried out (R167, R170). -/
theorem State.requestFrame_hears (s : State) (k : SlotIx) (kind : Byte) (ops : List Byte) (h : s.hears k) :
    s.requestFrame k kind ops = (s.restartLinger.decideRequest k kind ops).conclude k kind ops := by
  unfold State.requestFrame
  rw [s.hearFrame_active _ h.1 h.2.1]
  unfold State.takeRequest
  rw [h.2.2]

/-- A completion at once, with room, adds its response and leaves an IDLE slot IDLE (R170). -/
theorem Answer.conclude_atOnce (t : State) (k : SlotIx) (kind : Byte) (ops : List Byte) (o : ReqOutcome)
    (payload : List Byte) (idle : t.engine.slots[k].inFlight = none) (room : t.port.hasRoom = true) :
    Answer.conclude k kind ops (.atOnce t o payload) =
      { t with port := t.port.push (responseFrame t.time.straps k kind o payload false) } := by
  unfold Answer.conclude State.answer
  dsimp only
  rw [t.offer_room _ _ _ _ room]
  exact State.setInFlight_idle _ k idle

/-- A completion at once that changes nothing leaves the state with the linger restarted and one response more. -/
theorem State.requestFrame_atOnce (s : State) (k : SlotIx) (kind : Byte) (ops : List Byte) (o : ReqOutcome)
    (payload : List Byte) (h : s.hears k) (room : s.port.hasRoom = true)
    (d : s.restartLinger.decideRequest k kind ops = .atOnce s.restartLinger o payload) :
    s.requestFrame k kind ops = s.responded k kind o payload := by
  rw [s.requestFrame_hears k kind ops h, d, Answer.conclude_atOnce s.restartLinger k kind ops o payload h.2.2 room]
  rfl

/-- A deferred completion leaves its slot WAITING with the payload on the records handed (R157, R170). -/
theorem Answer.conclude_deferred_waits (t : State) (k : SlotIx) (kind : Byte) (ops : List Byte) (records : List RecordId)
    (payload : List Byte) :
    (Answer.conclude k kind ops (.deferred t (records.map t.waitOn) payload)).waitsWith k kind payload records :=
  ⟨ops, State.inFlight_setInFlight_same t k _⟩

/-- Every request command is its request frame. -/
theorem exec_request {c : Instr} {k : SlotIx} {kind : Byte} {ops : List Byte} (h : requestOf c = some (k, kind, ops))
    (s : State) : exec c s = .next (s.requestFrame k kind ops) := by
  cases c <;> simp only [requestOf, Option.some.injEq, Prod.mk.injEq, reduceCtorEq] at h <;>
    obtain ⟨rfl, rfl, rfl⟩ := h <;> rfl

end Sys2Proof.Machine
end

