-- ==== Sys2Proof/Laws/Step.lean ====
section
/-! SUPPORT. What a step does: on an empty queue, and for a command that changes nothing but through `exec`. -/

namespace Sys2Proof.Laws

open Sys2Proof.Machine

/-- On an empty queue a millisecond passes. -/
theorem step_idle {s : State} (h : s.pending = []) : step s = .next s.tick := by
  unfold step
  rw [h]

/-- A step answers a next state through the command at the front, or through a millisecond. -/
theorem step_cases {s t : State} (h : step s = .next t) :
    (∃ c rest, s.pending = c :: rest ∧ exec c { s with pending := rest } = .next t) ∨ (s.pending = [] ∧ t = s.tick) := by
  unfold step at h
  cases hp : s.pending with
  | nil =>
    rw [hp] at h
    exact .inr ⟨rfl, ((Host.Outcome.next.injEq ..).mp h).symm⟩
  | cons c rest =>
    rw [hp] at h
    exact .inl ⟨c, rest, rfl, h⟩

end Sys2Proof.Laws
end

