-- ==== Sys2Proof/Tests/Slice0.lean ====
section
/-! SUPPORT. Tests: ill-formed terms are refused, commands on small states give what the manual gives, and the hypotheses of
every statement are met by a concrete state, clause by clause and at the edges of the ranges. -/

namespace Sys2Proof.Tests

set_option Elab.async false

open Sys2Proof.Machine Sys2Proof.Laws

/-! ## States -/

/-- The state a command answers. -/
def after (c : Instr) (s : State) : State :=
  match exec c s with
  | .next t => t
  | .fault _ | .refused _ => s

/-- Loaded from an array never written, IGN released: READY, ACTIVE, at rest. -/
def loaded : State := after .loadEnd State.reset

/-- Loaded, with IGN asserted. -/
def keyOn : State := after .ignAsserted loaded

/-- PARKED: the linger over, nothing changed. -/
def parked : State := after .lingerExpiry loaded

/-- DORMANT: PFW with no account changed. -/
def dormant : State := after .pfwAsserted loaded

/-- A SERVICE RESET of ENGINE waits for its write. -/
def waiting : State := after (.serviceReset 3 [0#8]) loaded

/-- A rental is open. -/
def rented : State := after (.openRental 3 [1#8, 2#8, 3#8, 4#8, 5#8, 6#8, 7#8]) loaded

/-- A frame of no meaning to the model. -/
def someFrame : Frame := { id := 0x6B0#11, data := [], startsReset := false }

/-- A transmit queue of n frames. -/
def withFrames (n : Nat) (s : State) : State := { s with port := { s.port with tx := List.replicate n someFrame } }

/-- The store OFFLINE. -/
def offline : State := { loaded with store := { loaded.store with state := .offline } }

/-- The store FLUSHING the ENGINE account. -/
def flushing : State := after .pfwAsserted { loaded with store := loaded.store.mark (.account 0) }

/-- ENGINE STATE: 1650 rpm, torque 78, oil 95, starter not engaged (R193). -/
def engineFrame : List Byte := [0x06#8, 0x72#8, 78#8, 135#8, 0x00#8]

/-- An attempt is open, CRANKING in LEVEL mode. -/
def cranking : State := after (.crankChange true) keyOn

/-- The starter released and the engine caught: CONFIRMING. -/
def confirming : State := after (.engineState 0x1A0#11 engineFrame) (after (.crankChange false) cranking)

/-- The engine confirmed: RUNNING. -/
def engineOn : State := after .confirmExpiry confirming

/-- A segment of a state in a slot. -/
def segmentIn (st : SegmentState) (k : Fin 24) : LogEntry :=
  { slot := k
    seg :=
      { Segment.damaged with
        state := st, number := k.val + 1, serial := k.val + 1, closeTime := if st = .opened then none else some 0 } }

/-- A log that fills all slots with segments of one state. -/
def fullLog (st : SegmentState) (s : State) : State :=
  { s with log := { entries := (List.finRange 24).map (segmentIn st), nearFull := true } }

/-- Band entry k changed. -/
def withBand (k : Fin 16) (f : BandEntry → BandEntry) (s : State) : State := s.setBand k (f s.bands.entries[k])

/-- Entry enabled. -/
def enabledEntry (e : BandEntry) : BandEntry := { e with weightPart := { e.weightPart with enabled := true } }

/-- Entry locked. -/
def lockedEntry (e : BandEntry) : BandEntry := { e with locked := true }

/-- Account i in a state. -/
def withState (i : AccountIx) (st : AccountState) (s : State) : State := s.setAccount i { s.account i with state := st }

/-- The device time replaced. -/
def atTime (n : Nat) (s : State) : State := { s with time := { s.time with deviceTime := n } }

/-! ## WellFormed refuses ill-formed terms -/

theorem test_wellFormed_refuses_eight_operands : (Instr.status 0 (List.replicate 8 0#8)).wellFormed = false := by decide +kernel

theorem test_wellFormed_takes_seven_operands : (Instr.openRental 3 (List.replicate 7 0#8)).wellFormed = true := by decide +kernel

theorem test_wellFormed_refuses_known_kind : (Instr.unknownRequest 3 [0x5A#8]).wellFormed = false := by decide +kernel

theorem test_wellFormed_refuses_long_unknown : (Instr.unknownRequest 3 (List.replicate 9 0xEE#8)).wellFormed = false := by
  decide +kernel

theorem test_wellFormed_takes_empty_request : (Instr.unknownRequest 0 []).wellFormed = true := by decide +kernel

theorem test_wellFormed_refuses_nine_bytes : (Instr.engineState 0x1A0#11 (List.replicate 9 0#8)).wellFormed = false := by
  decide +kernel

theorem test_no_word_spells_a_command : decodeTableWord 0 0 = none ∧ State.reset.withFetchWord 16 5 = State.reset := by
  decide +kernel

/-! ## Commands on small states -/

theorem test_load_end_readies :
    loaded.store.state = .ready ∧ loaded.time.mode = .active ∧ loaded.meter.timer = some 100 ∧
      loaded.time.linger = some 30000 := by decide +kernel

theorem test_status_payload :
    (after (.status 2 []) keyOn).port.tx =
      [{ id := 0x6B2#11, data := [0x01#8, 0#8, 0x04#8, 0#8, 0#8, 0#8, 0#8], startsReset := false }] := by decide +kernel

theorem test_read_reset_record :
    (after (.read 3 [0#8, 1#8]) loaded).port.tx =
      [{ id := 0x6B3#11, data := [0x02#8, 0#8, 0#8, 0#8, 0#8, 0#8, 0#8, 0#8], startsReset := false }] := by decide +kernel

theorem test_next_without_buffer :
    (after (.next 0 []) keyOn).port.tx = [{ id := 0x6B0#11, data := [0x03#8, 5#8], startsReset := false }] := by decide +kernel

theorem test_open_rental_opens :
    (rented.log.entries.map fun e => (e.slot, e.seg.number, e.seg.state)) = [(0, 1, .opened)] ∧
      rented.store.inFlight.map Write.record = some (.slot 0) ∧ rented.store.queue = [.settings] := by decide +kernel

theorem test_open_rental_answers_at_its_last_write :
    (after (.writeCompletion false) (after (.writeCompletion false) rented)).port.tx =
      [{ id := 0x6B3#11, data := [0x10#8, 0#8, 0#8, 1#8], startsReset := false }] := by decide +kernel

theorem test_close_rental_closes :
    ((after (.closeRental 2 []) rented).log.entries.map fun e => e.seg.state) = [.closed] := by decide +kernel

theorem test_mark_exported_unknown_number :
    (after (.markExported 2 [0#8, 9#8]) loaded).port.tx =
      [{ id := 0x6B2#11, data := [0x12#8, 7#8], startsReset := false }] := by decide +kernel

theorem test_service_reset_counts :
    ((waiting.account 0).serviceCount, (waiting.account 0).lastService) = (1, some 0) := by decide +kernel

theorem test_restore_field_enters :
    (after (.restoreField 3 [2#8, 18#8, 0#8, 0#8, 1#8, 44#8]) (withState 2 .suspect loaded)).engine.restore =
      some { account := 2, fields := [(18, 255)] } := by decide +kernel

theorem test_band_edit_is_staged_while_enabled :
    ((after (.bandPrimary 3 [0#8, 5#8, 0xFF#8, 0x80#8, 0x00#8, 0x7F#8])
          (withBand 0 enabledEntry loaded)).bands.entries[0]).stagedPrimary =
      some { metric := .gear, low := -2, high := 16 } := by decide +kernel

theorem test_band_secondary_absent :
    ((after (.bandSecondary 3 [1#8, 0xFF#8]) loaded).bands.entries[1]).secondary = none := by decide +kernel

theorem test_band_weight_applies :
    ((after (.bandWeight 3 [1#8, 4#8, 1#8, 6#8, 0x01#8, 0x02#8, 1#8]) loaded).bands.entries[1]).weightPart =
      { account := 4, cls := .excursion, bin := 6, weight := 258, enabled := true } := by decide +kernel

theorem test_write_setting_clamps :
    (after (.writeSetting 3 [0x01#8, 0#8, 0#8, 0#8, 0x27#8, 0x10#8]) loaded).settings.freshLimit = 1000 := by decide +kernel

theorem test_unknown_request_is_bad :
    (after (.unknownRequest 1 []) loaded).port.tx =
      [{ id := 0x6B1#11, data := [0xFF#8, 9#8], startsReset := false }] := by decide +kernel

theorem test_engine_state_is_stored :
    let x := (after (.engineState 0x1A0#11 engineFrame) keyOn).intake
    (x.engineSpeed.known, x.engineTorque.known, x.engineOil.known, x.starterStatus.known) =
      (some 1650, some 78, some 95, some .notEngaged) := by decide +kernel

theorem test_driveline_state_is_stored :
    let x := (after (.drivelineState 0x1B0#11 [0xFE#8, 1#8, 0x10#8, 0#8, 0xFF#8, 0xFF#8, 0xFF#8]) keyOn).intake
    (x.gear.known, x.clutchState.known, x.slipSpeed.known, x.outputSpeed.known, x.transmissionOil.known) =
      (some (-2), some .slipping, some 4000, none, none) := by decide +kernel

theorem test_shift_counter_wraps :
    let s := after (.drivelineEvent 0x1B8#11 [250#8, 0#8]) keyOn
    ((after (.drivelineEvent 0x1B8#11 [3#8, 0#8]) s).account 3).events = some 9 := by decide +kernel

theorem test_metering_unobserved_period :
    ((List.finRange 5).map fun i => ((after .meteringExpiry keyOn).account i).unobserved) = [1, 0, 1, 1, 1] := by decide +kernel

theorem test_crank_opens_attempt : (cranking.account 1).events = some 1 ∧ cranking.qualifier.latch = true := by decide +kernel

theorem test_confirm_qualifies :
    (engineOn.account 0).events = some 1 ∧ engineOn.qualifier.state = .running none ∧ engineOn.qualifier.failures = 0 := by
  decide +kernel

theorem test_write_fault_is_raised :
    ((after (.writeCompletion true) waiting).alerts.entry (devicePair .storeFault)).map AlertEntry.parameter =
      some (some 0#8) := by decide +kernel

theorem test_pfw_enters_dormant : dormant.time.mode = .dormant ∧ dormant.store.state = .flushing := by decide +kernel

theorem test_reset_device_resets_when_sent :
    (after .transmissionComplete (after (.resetDevice 3 []) loaded)).time.inReset =
      some { kind := .commanded, spoiled := false } := by decide +kernel

theorem test_cold_reset_abandons_the_write :
    (after (.coldReset { na0 := true, na1 := false, br := false } 0) waiting).store.array[0] = .bad ∧
      (after (.coldReset { na0 := true, na1 := false, br := false } 0) waiting).time.selection = .internalRc := by decide +kernel

theorem test_a_tick_asks_for_the_metering_pass :
    ({ keyOn with meter := { keyOn.meter with timer := some 1 } } : State).tick.pending = [.meteringExpiry] := by decide +kernel

theorem test_an_unknown_signal_ages : keyOn.tick.intake.gear.ageing = { cls := .unknown, age := 1 } := by decide +kernel

theorem test_the_linger_runs_in_a_load :
    State.reset.tick.time.linger = some 29999 ∧
      ({ State.reset with time := { State.reset.time with linger := some 1 } } : State).tick.pending = [.lingerExpiry] := by
  decide +kernel

theorem test_a_field_out_of_range_is_bad :
    (Stored.whole (.account 0 { Account.blank 0 with credit := 288000 })).judgeAccount 0 = .bad ∧
      (Stored.whole (.account 4 (Account.blank 0))).judgeAccount 4 = .bad ∧
      (Stored.whole (.settings { Settings.default with holdLimit := 249 })).judgeSettings = .bad ∧
      (Stored.whole (.settings { Settings.default with holdLimit := 250 })).judgeSettings ≠ .bad ∧
      (Stored.whole (.slot 3 (some { Segment.damaged with state := .closed }))).judgeSlot 3 = .bad ∧
      (Stored.whole (.slot 3 (some Segment.damaged))).judgeSlot 3 = .good Segment.damaged := by decide +kernel

theorem test_a_slot_record_has_a_serial_and_a_close_time :
    let judged (g : Segment) : Bool := (Stored.whole (.slot 3 (some g))).judgeSlot 3 == .good g
    let closed := (segmentIn .closed 3).seg
    let opened := (segmentIn .opened 3).seg
    judged closed = true ∧ judged { closed with serial := 4294967295 } = true ∧ judged { closed with serial := 0 } = false ∧
      judged { closed with closeTime := none } = false ∧ judged opened = true ∧
      judged { opened with closeTime := some 5 } = false ∧ judged { Segment.damaged with serial := 1 } = false := by
  decide +kernel

/-- IGN asserted; the next unobserved period of ENGINE takes it to its service threshold. -/
def nearService : State :=
  keyOn.setAccount 0 { keyOn.account 0 with fallbackWeight := 36000, serviceThreshold := 1 }

theorem test_unobserved_is_reported_before_the_threshold :
    ((after .meteringExpiry nearService).port.tx.map fun f => f.data.take 2).take 2 = [[0#8, 5#8], [0#8, 3#8]] ∧
      ((after .meteringExpiry nearService).account 0).ssWear = 1 ∧
      (after .meteringExpiry nearService).accounts.serviceDue[(0 : AccountIx)] = true := by decide +kernel

theorem test_a_released_flush_leaves_an_active_part_active :
    (after (.writeCompletion false) (after .lingerExpiry (after .pfwReleased flushing))).time.mode = .active ∧
      (after (.writeCompletion false) (after .lingerExpiry (after .pfwReleased flushing))).store.state = .ready := by
  decide +kernel

/-! ## The hypotheses of the statements are met: one theorem for each statement that has any -/

theorem test_met_EmptyQueueLetsTimePass :
    (dormant.pending = [] ∧ dormant.time.mode = .dormant) ∧
      ((after (.warmReset .aboveRetention) loaded).time.inReset.isSome = true) ∧
      (parked.pending = [] ∧ parked.time.inReset = none ∧ parked.time.mode = .parked) ∧
      (State.reset.pending = [] ∧ State.reset.time.inReset = none ∧ State.reset.time.mode = .active ∧
        State.reset.store.isLoading = true) ∧
      (confirming.pending = [] ∧ confirming.isRunning = true) := by decide +kernel

theorem test_met_QueueAndHistoryStayBounded :
    (withFrames 8 loaded).txBounded ∧ confirming.ringBounded ∧
      step (withFrames 8 loaded) = .next (withFrames 8 loaded).tick ∧ step confirming = .next confirming.tick := by
  refine ⟨?_, ?_, step_idle (by decide +kernel), step_idle (by decide +kernel)⟩
  · unfold State.txBounded; decide +kernel
  · unfold State.ringBounded; decide +kernel

theorem test_met_StoredValuesStayInRange :
    keyOn.remaindersInScale ∧ keyOn.settingsOrdered ∧ step keyOn = .next keyOn.tick := by
  have blank : ∀ k : Fin 46, keyOn.store.array[k] = .blank := by decide +kernel
  have idle : keyOn.store.inFlight = none := by decide +kernel
  have part : ∀ i : AccountIx, (keyOn.account i).credit < creditScale ∧
      ((keyOn.account i).revRemainder = none ∨ (keyOn.account i).revRemainder = some 0) := by decide +kernel
  refine ⟨⟨fun i => ⟨(part i).1, fun r h => ?_⟩, fun k c h => ?_, fun w h => ?_⟩, ⟨?_, fun k c h => ?_, fun w h => ?_⟩,
    step_idle (by decide +kernel)⟩
  · rcases (part i).2 with e | e <;> rw [e] at h
    · cases h
    · cases h; decide
  · rw [blank k] at h; cases h
  · rw [idle] at h; cases h
  · unfold Settings.ordered OilLimits.ordered; decide +kernel
  · rw [blank k] at h; cases h
  · rw [idle] at h; cases h

theorem test_met_SegmentLogStaysSound :
    rented.oneOpen ∧ (fullLog .closed loaded).slotsDistinct ∧ step rented = .next rented.tick ∧
      step (fullLog .closed loaded) = .next (fullLog .closed loaded).tick := by
  refine ⟨?_, ?_, step_idle (by decide +kernel), step_idle (by decide +kernel)⟩
  · unfold State.oneOpen; decide +kernel
  · unfold State.slotsDistinct; decide +kernel

theorem test_met_PairsAndQueueStayDistinct :
    (after (.writeCompletion true) waiting).pairsDistinct ∧ rented.queueDistinct ∧
      step (after (.writeCompletion true) waiting) = .next (after (.writeCompletion true) waiting).tick ∧
      step rented = .next rented.tick := by
  refine ⟨?_, ?_, step_idle (by decide +kernel), step_idle (by decide +kernel)⟩
  · unfold State.pairsDistinct; decide +kernel
  · unfold State.queueDistinct; decide +kernel

theorem test_met_StoreAndTimersStayCoherent :
    rented.storeCoherent ∧ rented.timersCoherent ∧ step rented = .next rented.tick ∧ dormant.storeCoherent ∧
      dormant.timersCoherent := by
  have mode : rented.time.inReset = none ∧ rented.store.state = .writing ∧ rented.store.inFlight.isSome = true ∧
      dormant.time.inReset = none ∧ dormant.store.state = .flushing ∧ dormant.store.queue = [] ∧
      dormant.time.mode = .dormant := by decide +kernel
  refine ⟨?_, ?_, step_idle (by decide +kernel), ?_, ?_⟩
  · simp [State.storeCoherent, mode]
  · unfold State.timersCoherent; decide +kernel
  · simp [State.storeCoherent, mode]
  · unfold State.timersCoherent; decide +kernel

/-- A loaded part with entry 15 locked. -/
def lockedLast : State := withBand 15 lockedEntry loaded

theorem test_met_LockedEntryIsPermanent :
    lockedLast.bands.entries[(15 : Fin 16)].locked = true ∧
      exec .meteringExpiry lockedLast = .next (after .meteringExpiry lockedLast) ∧ lockedLast.hears 3 ∧
      lockedLast.atRest = true ∧ lockedLast.port.hasRoom = true ∧ metricOfCode 0 = some .engineSpeed ∧
      metricOfCode 6 = some .transmissionOil ∧ (weightPartOf 4 1 6 65535 1).isSome = true := by
  refine ⟨by decide +kernel, rfl, ?_, by decide +kernel⟩
  unfold State.hears
  decide +kernel

theorem test_met_CreditsAddInAnyOrder :
    ({ Account.blank 0 with credit := 287999, wear := 4294967295, ssWear := 4294967294 } : Account).credit < 288000 ∧
      ({ Account.blank 0 with credit := 287999, wear := 4294967295, ssWear := 4294967294 } : Account).addCredit 1 =
        { Account.blank 0 with credit := 0, wear := 4294967295, ssWear := 4294967295, saturated := true } := by decide +kernel

theorem test_met_MeteringCountsPeriods :
    keyOn.isRunning = true ∧ keyOn.meter.timer.isSome = true ∧ engineOn.isRunning = true ∧
      activity engineOn.settings engineOn.lines.crank engineOn.intake 0 = some true ∧
      activity keyOn.settings keyOn.lines.crank keyOn.intake 1 = some false ∧
      activity keyOn.settings keyOn.lines.crank keyOn.intake 4 = none ∧ keyOn.lines.ign = true ∧
      loaded.lines.ign = false ∧ (keyOn.account 4).revRemainder = some 0 ∧
      (after (.drivelineState 0x1B0#11 [0#8, 0#8, 0#8, 0#8, 0x02#8, 0x57#8, 0#8]) keyOn).intake.outputSpeed.known =
        some 599 := by decide +kernel

theorem test_met_MeteringCreditsWear :
    engineOn.isRunning = true ∧ engineOn.meter.timer.isSome = true ∧
      winner (engineOn.bands.entries.map BandEntry.activated) engineOn.intake 0 = none ∧
      ((after .meteringExpiry engineOn).account 0).credit = ((engineOn.account 0).credit + 10 * 8) % 288000 ∧
      ((after .meteringExpiry engineOn).account 0).bins[7] = 1 := by decide +kernel

theorem test_met_MeteringActivatesAndKeepsRest :
    engineOn.isRunning = true ∧ engineOn.meter.timer.isSome = true ∧
      (∀ k : Fin 16, engineOn.bands.entries[k].hasStaged = false) ∧
      (withBand 15 (fun e => { e with stagedSecondary := some none }) engineOn).bands.entries[(15 : Fin 16)].hasStaged =
        true ∧
      (after .ignAsserted rented).isRunning = true ∧ (after .ignAsserted rented).meter.timer.isSome = true ∧
      ((after .ignAsserted rented).log.entries.map fun e => e.seg.flags.unobserved) = [false] ∧
      ((after .meteringExpiry (after .ignAsserted rented)).log.entries.map fun e => e.seg.flags.unobserved) = [true] ∧
      ((after .ignAsserted rented).log.entries.map LogEntry.slot).Nodup := by decide +kernel

/-- The engine on, with an EXCURSION entry that its speed meets. -/
def inExcursion : State :=
  withBand 15
    (fun e =>
      { e with
        primary := { metric := .engineSpeed, low := 1650, high := 8000 }
        weightPart := { account := 0, cls := .excursion, bin := 6, weight := 30, enabled := true } }) engineOn

theorem test_met_MeteringRaisesAlerts :
    inExcursion.isRunning = true ∧ inExcursion.meter.timer.isSome = true ∧
      activity inExcursion.settings inExcursion.lines.crank inExcursion.intake 0 = some true ∧
      winner (inExcursion.bands.entries.map BandEntry.activated) inExcursion.intake 0 = some 15 ∧
      inExcursion.bands.entries[(15 : Fin 16)].activated.weightPart.cls = .excursion ∧
      inExcursion.meter.lastWinner[(0 : AccountIx)] ≠ some 15 ∧
      activity inExcursion.settings inExcursion.lines.crank inExcursion.intake 4 = none ∧ inExcursion.lines.ign = true ∧
      inExcursion.meter.unobservedNow[(4 : AccountIx)] = false := by decide +kernel

theorem test_met_SelectionPrefersExcursion :
    winner inExcursion.bands.entries inExcursion.intake 0 = some 15 ∧
      winner engineOn.bands.entries engineOn.intake 0 = none ∧
      winner (inExcursion.bands.entries.set 14
          { inExcursion.bands.entries[(15 : Fin 16)] with
            weightPart := { account := 0, cls := .ordinary, bin := 0, weight := 3, enabled := true } })
        inExcursion.intake 0 = some 15 := by decide +kernel

theorem test_met_ConditionReportsActOnAlerts :
    loaded.alerts.holds (devicePair .storeOffline) = false ∧ loaded.port.tx.length < 8 ∧
      loaded.port.state = .running ∧ loaded.time.mode = .active ∧ (withFrames 8 loaded).port.tx.length = 8 ∧
      (loaded.report (devicePair .storeOffline) true none).alerts.holds (devicePair .storeOffline) = true ∧
      (loaded.report (devicePair .storeOffline) true none).pairsDistinct := by
  simp only [State.pairsDistinct]
  decide +kernel

theorem test_met_RequestsAreRefusedInOrder :
    keyOn.hears 0 ∧ keyOn.hears 3 ∧ keyOn.port.hasRoom = true ∧ keyOn.atRest = false ∧
      requestOf (.openRental 3 [0#8, 0#8, 0#8, 0#8, 0#8, 0#8]) = some (3, 0x10#8, [0#8, 0#8, 0#8, 0#8, 0#8, 0#8]) ∧
      parseRequest 0x10 [0#8, 0#8, 0#8, 0#8, 0#8, 0#8] = none ∧
      (Request.serviceReset 0).permitted 0 = false ∧ parseRequest 0x20 [0#8] = some (.serviceReset 0) ∧
      (Request.serviceReset 0).permitted 3 = true ∧ (Request.serviceReset 0).needsRest = true ∧
      kindUnknown [] = true ∧ kindUnknown [0x04#8] = true ∧ keyOn.lines.ign = true ∧
      keyOn.intake.outputSpeed.ageing.cls = .unknown ∧ parseRequest 0x02 [6#8, 0#8] = some (.read .settings 0) ∧
      parseRequest 0x02 [7#8, 0#8] = none ∧ parseRequest 0x31 [0#8, 255#8] = some (.bandSecondary 0 255 0 0) ∧
      parseRequest 0x31 [0#8, 254#8] = none ∧ (Request.read .account 2).permitted 0 = false ∧
      (Request.read .account 2).permitted 1 = true ∧ (Request.ackAlert 5 0).permitted 1 = false ∧
      (Request.read .startHistory 0).permitted 1 = false := by
  simp only [State.hears]
  decide +kernel

theorem test_met_OutOfRangeOperandIsBad :
    loaded.hears 3 ∧ loaded.atRest = true ∧ loaded.port.hasRoom = true ∧ 5 ≤ (5#8 : Byte).toNat ∧
      16 ≤ (16#8 : Byte).toNat ∧ (∀ i : AccountIx, (4#8 : Byte).toNat = i.val → restorable i (0#8 : Byte).toNat = false) ∧
      7 ≤ (7#8 : Byte).toNat ∧ (254#8 : Byte).toNat ≠ 255 ∧ (255#8 : Byte).toNat = 255 ∧ 2 ≤ (2#8 : Byte).toNat ∧
      (after (.bandPrimary 3 [0#8, 6#8, 0#8, 0#8, 0#8, 0#8]) loaded).store.state = .writing ∧
      (after (.bandWeight 3 [15#8, 4#8, 1#8, 6#8, 0#8, 0#8, 255#8]) loaded).store.state = .writing := by
  simp only [State.hears]
  decide +kernel

theorem test_met_BusySlotAnswersBusy :
    waiting.onBus = true ∧ waiting.time.mode = .active ∧ waiting.engine.slots[(3 : SlotIx)].inFlight.isSome = true ∧
      requestOf (.checkpoint 3 []) = some (3, 0x50#8, []) ∧ waiting.port.tx.length < 8 ∧
      (withFrames 8 waiting).port.tx.length = 8 := by decide +kernel

theorem test_met_StatusIsAnswered :
    (withFrames 7 keyOn).hears 0 ∧ (withFrames 7 keyOn).port.tx.length = 7 ∧ (withFrames 8 keyOn).hears 0 ∧
      (withFrames 8 keyOn).port.tx.length = 8 := by
  simp only [State.hears]
  decide +kernel

theorem test_met_ReadFillsBuffer :
    keyOn.hears 0 ∧ keyOn.port.hasRoom = true ∧ regionOfCode 1 = some .account ∧ regionOfCode 6 = some .settings ∧
      (Request.read .account 1).permitted 0 = true ∧ (keyOn.image .account 1).isSome = true ∧
      (Request.read .status 2).permitted 0 = true ∧ keyOn.image .status 2 = none := by
  simp only [State.hears]
  decide +kernel

theorem test_met_NextWalksBuffer :
    (keyOn.setBuffer 2 { region := .startHistory, index := 16, offset := 9, image := List.replicate 10 0#8 }).hears 2 ∧
      (keyOn.setBuffer 2 { region := .startHistory, index := 16, offset := 10, image := List.replicate 10 0#8 }).hears 2 ∧
      keyOn.port.hasRoom = true ∧ (∀ e ∈ rented.log.entries, e.seg.renter.length = 6) ∧
      (rented.image .segment 0).isSome = true := by
  simp only [State.hears]
  decide +kernel

/-- TIMEBASE stands PENDING, its condition true. -/
def badTime : State := after (.monitorWindow 71999) keyOn

theorem test_met_AckAlertActs :
    badTime.hears 2 ∧ badTime.port.hasRoom = true ∧ (devicePair .timebase).valid = true ∧
      (Request.ackAlert 5 7).permitted 2 = true ∧
      ((badTime.alerts.entry (devicePair .timebase)).map AlertEntry.state) = some .pending ∧
      badTime.alerts.holds (devicePair .timebase) = true ∧
      (after (.ackAlert 2 [5#8, 7#8]) badTime).hears 2 ∧
      (((after (.ackAlert 2 [5#8, 7#8]) badTime).alerts.entry (devicePair .timebase)).map AlertEntry.state) =
        some .acknowledged ∧
      badTime.alerts.entry (devicePair .powerGap) = none ∧ (Request.ackAlert 1 2).permitted 0 = true ∧
      (∀ p ∈ allPairs, ¬(1 = p.source.code ∧ 2 = p.cause.code)) ∧ (Request.ackAlert 0 11).permitted 0 = true := by
  simp only [State.hears]
  decide +kernel

theorem test_met_RestoreFieldEntersBuffer :
    restorable 4 11 = true ∧ (withState 4 .suspect loaded).hears 3 ∧ (withState 4 .suspect loaded).atRest = true ∧
      (withState 4 .suspect loaded).port.hasRoom = true ∧ ((withState 4 .suspect loaded).account 4).state = .suspect ∧
      loaded.hears 3 ∧ (loaded.account 4).state = .normal := by
  simp only [State.hears]
  decide +kernel

theorem test_met_ResetDeviceMarksPending :
    loaded.hears 3 ∧ loaded.atRest = true ∧ loaded.port.hasRoom = true ∧ loaded.engine.resetDue = false ∧
      loaded.engine.resetPending = false ∧ (after (.resetDevice 3 []) loaded).hears 3 ∧
      (after (.resetDevice 3 []) loaded).engine.resetPending = true := by
  simp only [State.hears]
  decide +kernel

theorem test_met_ServiceResetStartsAnew :
    loaded.hears 3 ∧ loaded.atRest = true ∧ loaded.defers ∧ loaded.port.hasRoom = true ∧ (loaded.account 4).state = .normal ∧
      ((withState 4 .restoring loaded).account 4).state ≠ .normal ∧ (withState 4 .restoring loaded).hears 3 := by
  simp only [State.hears, State.defers]
  decide +kernel

/-- RESTORING, with a buffer that names the account. -/
def restoring : State :=
  after (.restoreField 3 [2#8, 1#8, 0xFF#8, 0xFF#8, 0xFF#8, 0xFF#8]) (withState 2 .suspect loaded)

theorem test_met_RestoreDoneAddsFigures :
    restoring.hears 3 ∧ restoring.atRest = true ∧ restoring.defers ∧ restoring.port.hasRoom = true ∧
      (restoring.account 2).state = .restoring ∧ restoring.engine.restore.map RestoreBuffer.account = some 2 ∧
      (loaded.account 2).state ≠ .restoring ∧ loaded.engine.restore = none ∧
      restoring.engine.restore.map RestoreBuffer.fields = some [(1, 4294967295)] := by
  simp only [State.hears, State.defers]
  decide +kernel

/-- RESTORING with a rental open, its writes done. -/
def restoringRented : State :=
  after (.restoreField 3 [2#8, 1#8, 0#8, 0#8, 0#8, 9#8])
    (withState 2 .suspect (after (.writeCompletion false) (after (.writeCompletion false) rented)))

theorem test_met_RestoreDoneAddsFigures_rented :
    restoringRented.hears 3 ∧ restoringRented.atRest = true ∧ restoringRented.defers ∧
      (restoringRented.account 2).state = .restoring ∧
      restoringRented.engine.restore.map RestoreBuffer.account = some 2 ∧
      (restoringRented.log.entries.map LogEntry.slot).Nodup ∧
      (restoringRented.log.openEntry.map fun e => e.seg.tracked.figures[(2 : AccountIx)].wear) = some 0 ∧
      (restoringRented.account 0).events.isSome = true ∧
      ((after (.restoreDone 3 [2#8]) restoringRented).log.openEntry.map fun e =>
          (e.seg.tracked.figures[(2 : AccountIx)].wear, e.seg.flags.restored)) = some (9, true) := by
  simp only [State.hears, State.defers]
  decide +kernel

theorem test_met_OpenRentalOpensSegment :
    loaded.hears 3 ∧ loaded.atRest = true ∧ loaded.defers ∧ loaded.port.hasRoom = true ∧ loaded.log.openEntry = none ∧ loaded.log.freeSlot = some 0 ∧
      (after (.writeCompletion false) (after (.writeCompletion false) rented)).hears 3 ∧
      (after (.writeCompletion false) (after (.writeCompletion false) rented)).log.openEntry.isSome = true ∧
      (fullLog .exported loaded).hears 3 ∧ (fullLog .exported loaded).log.openEntry = none ∧
      (fullLog .exported loaded).log.freeSlot = none ∧ (fullLog .exported loaded).log.reclaimable.isSome = true ∧
      (fullLog .closed loaded).hears 3 ∧ (fullLog .closed loaded).log.reclaimable = none := by
  simp only [State.hears, State.defers]
  decide +kernel

theorem test_met_CloseRentalTakesDeltas :
    isOffice 2 = true ∧ rented.hears 2 ∧ rented.atRest = true ∧ rented.defers ∧ rented.port.hasRoom = true ∧
      (rented.log.entries.map LogEntry.slot).Nodup ∧ rented.log.openEntry.isSome = true ∧ loaded.hears 2 ∧
      loaded.log.openEntry = none := by
  simp only [State.hears, State.defers]
  decide +kernel

theorem test_met_MarkExportedByState :
    isOffice 3 = true ∧ (fullLog .closed loaded).hears 3 ∧ (fullLog .closed loaded).defers ∧
      (fullLog .closed loaded).port.hasRoom = true ∧ ((fullLog .closed loaded).log.entries.map LogEntry.slot).Nodup ∧
      ((fullLog .closed loaded).log.named 24).map (fun e => e.seg.state) = some .closed ∧
      (fullLog .closed loaded).log.named 25 = none ∧
      ((fullLog .exported loaded).log.named 1).map (fun e => e.seg.state) = some .exported ∧
      ((fullLog .damaged loaded).log.named 0).map (fun e => e.seg.state) = some .damaged ∧
      ((fullLog .opened loaded).log.named 1).map (fun e => e.seg.state) = some .opened := by
  simp only [State.hears, State.defers]
  decide +kernel

theorem test_met_BandEditsApplyOrStage :
    (withBand 15 enabledEntry loaded).bands.entries[(15 : Fin 16)].locked = false ∧ (withBand 15 enabledEntry loaded).hears 3 ∧
      (withBand 15 enabledEntry loaded).atRest = true ∧ (withBand 15 enabledEntry loaded).defers ∧
      loaded.bands.entries[(0 : Fin 16)].weightPart.enabled = false ∧ loaded.hears 3 ∧ loaded.defers ∧
      metricOfCode 6 = some .transmissionOil ∧ (weightPartOf 4 1 6 65535 255).isSome = true := by
  simp only [State.hears, State.defers]
  decide +kernel

theorem test_met_BandLockByEntry :
    loaded.hears 3 ∧ loaded.atRest = true ∧ loaded.defers ∧ loaded.port.hasRoom = true ∧ loaded.bands.entries[(15 : Fin 16)].locked = false ∧
      (withBand 15 enabledEntry loaded).bands.entries[(15 : Fin 16)].weightPart.enabled = true ∧
      (withBand 15 lockedEntry loaded).bands.entries[(15 : Fin 16)].locked = true ∧
      (withBand 15 enabledEntry loaded).hears 3 ∧ (withBand 15 lockedEntry loaded).hears 3 := by
  simp only [State.hears, State.defers]
  decide +kernel

theorem test_met_WriteSettingStores :
    loaded.hears 3 ∧ loaded.atRest = true ∧ loaded.defers ∧ loaded.port.hasRoom = true ∧ accountOf 4 = some 4 ∧ accountOf 5 = none ∧
      ((loaded.account 4).writeSetting 0x44 4294967295).isSome = true ∧ (loaded.account 4).writeSetting 0x42 1 = none ∧
      ((loaded.account 0).writeSetting 0x40 0).isSome = true ∧ (loaded.settings.write 0x2F 1).isSome = true ∧
      (loaded.settings.write 0x01 0).isSome = true ∧ loaded.settings.write 0x45 0 = none ∧
      loaded.settings.write 0x3F 0 = none ∧ loaded.settings.write 0x15 0 = none := by
  simp only [State.hears, State.defers]
  decide +kernel

/-- An ENGINE STATE frame 500 ms old, IGN released. -/
def heardLongAgo : State :=
  (after (.engineState 0x1A0#11 engineFrame) loaded).setAgeing .engineTorque { cls := .fresh, age := 500 }

theorem test_met_WriteSettingStores_limits :
    heardLongAgo.hears 3 ∧ heardLongAgo.atRest = true ∧ heardLongAgo.defers ∧ heardLongAgo.port.hasRoom = true ∧
      (heardLongAgo.settings.write 0x02 250).isSome = true ∧ (heardLongAgo.settings.write 0x01 499).isSome = true ∧
      ((after (.writeSetting 3 [0x02#8, 0#8, 0#8, 0#8, 0#8, 250#8]) heardLongAgo).intake.ageing .engineTorque).cls =
        .unknown ∧
      ((after (.writeSetting 3 [0x01#8, 0#8, 0#8, 0#8, 0x01#8, 0xF3#8]) heardLongAgo).intake.ageing .engineTorque).cls =
        .held ∧
      ((after (.writeSetting 3 [0x01#8, 0#8, 0#8, 0#8, 0x01#8, 0xF4#8]) heardLongAgo).intake.ageing .engineTorque).cls =
        .fresh := by
  simp only [State.hears, State.defers]
  decide +kernel

/-- CLUTCH with a since-service wear of 5. -/
def worn : State := loaded.setAccount 2 { loaded.account 2 with ssWear := 5 }

theorem test_met_WriteSettingStores_threshold :
    worn.hears 3 ∧ worn.defers ∧ worn.accounts.serviceDue[(2 : AccountIx)] = false ∧
      (after (.writeSetting 3 [0x43#8, 2#8, 0#8, 0#8, 0#8, 5#8]) worn).accounts.serviceDue[(2 : AccountIx)] = true ∧
      (after (.writeSetting 3 [0x43#8, 2#8, 0#8, 0#8, 0#8, 5#8]) worn).alerts.holds (accountPair 2 .serviceDue) = true ∧
      (after (.writeSetting 3 [0x44#8, 2#8, 0#8, 0#8, 0#8, 6#8]) worn).accounts.lifeLimit[(2 : AccountIx)] = false := by
  simp only [State.hears, State.defers]
  decide +kernel

theorem test_met_CheckpointsCoverEveryChange :
    isOffice 2 = true ∧ loaded.hears 2 ∧ loaded.defers ∧ loaded.port.hasRoom = true ∧ loaded.store.changedRecords = [] ∧
      rented.hears 2 ∧ rented.defers ∧ rented.store.changedRecords = [.settings, .slot 0] ∧ keyOn.isActive = true ∧
      keyOn.defers ∧ keyOn.lines.ign = true := by
  simp only [State.hears, State.defers]
  decide +kernel

/-- The rental open with no write left, the store OFFLINE. -/
def rentedOffline : State :=
  { after (.writeCompletion false) (after (.writeCompletion false) rented) with
    store := { offline.store with changed := rented.store.changed } }

theorem test_met_StoreStateDecidesAnswer :
    (offline.store.state = .offline ∧ isOffice 2 = true ∧ offline.hears 2 ∧ offline.hears 3 ∧ offline.atRest = true ∧
        offline.port.tx.length ≤ 4) ∧
      (flushing.store.state = .flushing ∧ flushing.hears 3 ∧ flushing.atRest = true ∧ flushing.port.tx.length ≤ 4 ∧
        flushing.store.changedRecords = [.account 0]) ∧
      ({ flushing with store := { flushing.store with changed := offline.store.changed } } : State).store.changedRecords =
        [] ∧
      (rentedOffline.store.state = .offline ∧ rentedOffline.hears 2 ∧ rentedOffline.port.tx.length = 1 ∧
        (rentedOffline.log.entries.map LogEntry.slot).Nodup ∧ rentedOffline.log.openEntry.isSome = true) ∧
      ((fullLog .closed offline).hears 2 ∧ ((fullLog .closed offline).log.entries.map LogEntry.slot).Nodup ∧
        ((fullLog .closed offline).log.named 24).map (fun e => e.seg.state) = some .closed) ∧
      (offline.account 4).state = .normal ∧ offline.log.openEntry = none ∧ offline.log.freeSlot = some 0 ∧
      (fullLog .exported offline).log.freeSlot = none ∧ (fullLog .exported offline).log.reclaimable.isSome = true ∧
      offline.bands.entries[(15 : Fin 16)].locked = false ∧ metricOfCode 6 = some .transmissionOil ∧
      (weightPartOf 4 1 6 65535 1).isSome = true ∧ (offline.settings.write 0x2F 1).isSome = true ∧
      ((offline.account 4).writeSetting 0x44 4294967295).isSome = true := by
  simp only [State.hears]
  decide +kernel

theorem test_met_StoreStateDecidesAnswer_restoring :
    ({ restoring with store := { restoring.store with state := .offline } } : State).hears 3 ∧
      (restoring.account 2).state = .restoring ∧ restoring.engine.restore.map RestoreBuffer.account = some 2 ∧
      ({ restoring with store := { restoring.store with state := .offline } } : State).port.tx.length ≤ 4 := by
  simp only [State.hears]
  decide +kernel

theorem test_met_ObservationFramesAreDecoded :
    keyOn.onBus = true ∧ keyOn.time.mode = .active ∧
      routeOf keyOn.time.straps keyOn.settings.filters 0x1A0#11 = .observation .engineState ∧
      routeOf keyOn.time.straps keyOn.settings.filters 0x1B0#11 = .observation .drivelineState ∧
      routeOf keyOn.time.straps keyOn.settings.filters 0x1B8#11 = .observation .drivelineEvent ∧
      routeOf keyOn.time.straps keyOn.settings.filters 0x6A0#11 = .request 0 ∧
      routeOf keyOn.time.straps keyOn.settings.filters 0x6A3#11 = .request 3 ∧
      routeOf keyOn.time.straps keyOn.settings.filters 0x6A4#11 = .ignored := by decide +kernel

theorem test_met_RollingCountersPostEvents :
    keyOn.onBus = true ∧ keyOn.time.mode = .active ∧
      routeOf keyOn.time.straps keyOn.settings.filters 0x1B8#11 = .observation .drivelineEvent ∧
      counted (some 0#8) 64#8 = 64 ∧ counted (some 0#8) 65#8 = 0 ∧ counted (some 0#8) 0#8 = 0 ∧ counted none 1#8 = 0 := by decide +kernel

theorem test_met_RollingCountersPostEvents_credit :
    let s := after (.drivelineEvent 0x1B8#11 [0#8, 0#8]) keyOn
    let t := after (.drivelineEvent 0x1B8#11 [64#8, 0#8]) s
    (s.account 3).eventWeight = some 1 ∧ (s.account 3).credit = 0 ∧ s.intake.transmissionOil.known = none ∧
      (t.account 3).wear = 64 ∧ (t.account 3).ssWear = 64 ∧ (t.account 3).credit = 0 ∧
      (t.account 3).events = some 64 := by decide +kernel

theorem test_met_ParkedPartWakes :
    isFrame (.resetDevice 3 []) = true ∧ isFrame .wakeFrame = true ∧ State.reset.onBus = false ∧ parked.onBus = true ∧
      parked.time.mode = .parked ∧ parked.lines.ign = false ∧ parked.time.inReset = none ∧
      loaded.onBus = true ∧ loaded.time.mode ≠ .parked ∧ loaded.lines.ign = false ∧ loaded.time.inReset = none := by decide +kernel

theorem test_met_SignalsGrowOld :
    confirming.isRunning = true ∧ (confirming.intake.ageing .engineSpeed).cls = .fresh ∧
      confirming.qualifier.state.code = 2 ∧ engineOn.isRunning = true ∧ engineOn.qualifier.state = .running none ∧
      (confirming.intake.ageing .gear).cls = .unknown ∧
      ((after (.drivelineEvent 0x1B8#11 [1#8, 1#8]) keyOn).intake.ageing .drivelineEvent).cls = .fresh := by decide +kernel

theorem test_met_CrankTriggerOpensAttempt :
    keyOn.isRunning = true ∧ keyOn.lines.crank = false ∧ keyOn.qualifier.state = .idle ∧
      keyOn.settings.crankMode = .level ∧ keyOn.qualifier.latch = false ∧
      (after (.writeSetting 3 [0x0F#8, 0#8, 0#8, 0#8, 0#8, 2#8]) loaded).isRunning = true ∧
      (after (.writeSetting 3 [0x0F#8, 0#8, 0#8, 0#8, 0#8, 2#8]) loaded).settings.crankMode = .edge ∧
      (after (.writeSetting 3 [0x0F#8, 0#8, 0#8, 0#8, 0#8, 2#8]) loaded).qualifier.state = .idle := by decide +kernel

theorem test_met_RecrankCountsWithinAttempt :
    (after (.crankChange false) cranking).isRunning = true ∧ (after (.crankChange false) cranking).lines.crank = false ∧
      (after (.crankChange false) cranking).qualifier.latch = false ∧ cranking.settings.crankMode = .level ∧
      (after (.crankChange false) cranking).qualifier.state.code = 1 ∧ confirming.isRunning = true ∧
      confirming.lines.crank = false ∧ confirming.qualifier.latch = false ∧ confirming.qualifier.state.code = 2 := by decide +kernel

theorem test_met_CrankWhileRunningIsCounted :
    engineOn.isRunning = true ∧ engineOn.lines.crank = false ∧ engineOn.qualifier.latch = false ∧
      engineOn.settings.crankMode = .level ∧ engineOn.qualifier.state = .running none := by decide +kernel

theorem test_met_EngineCaughtConfirms :
    cranking.onBus = true ∧ cranking.time.mode = .active ∧
      routeOf cranking.time.straps cranking.settings.filters 0x1A0#11 = .observation .engineState ∧
      cranking.qualifier.state.code = 1 ∧ cranking.crankActiveNow = some cranking.qualifier.latch ∧
      speedField 8000 0x01#8 0xF4#8 = some 500 ∧ cranking.settings.runThreshold = 500 := by decide +kernel

theorem test_met_CrankWindowExpiryEndsAttempt :
    cranking.isRunning = true ∧ cranking.qualifier.state.code = 1 ∧ cranking.intake.engineSpeed.known = none ∧
      (after .crankWindowExpiry cranking).qualifier.failures = 1 ∧ cranking.settings.failureLimit = 3 ∧
      ((after .crankWindowExpiry
            { cranking with qualifier := { cranking.qualifier with failures := 2 } }).alerts.entry
          (accountPair 1 .startFailures)).isSome = true := by decide +kernel

theorem test_met_ConfirmExpiryQualifies :
    confirming.isRunning = true ∧ confirming.qualifier.state.code = 2 ∧ confirming.intake.engineSpeed.known.isSome = true ∧
      (after (.signalHeld .engineSpeed) confirming).qualifier.state.code = 2 := by decide +kernel

theorem test_met_StopTimerAndSecondExpire :
    (after (.signalUnknown .engineSpeed) engineOn).isRunning = true ∧
      (after (.signalUnknown .engineSpeed) engineOn).qualifier.state = .running (some 3000) ∧
      (atTime 4294967295 loaded).time.inReset = none ∧ (atTime 4294967295 loaded).time.mode ≠ .dormant ∧
      (after .deviceTimeSecond (atTime 4294967295 loaded)).time.deviceTime = 4294967295 := by decide +kernel

theorem test_met_LingerExpiryParksOrWrites :
    loaded.isActive = true ∧ loaded.time.linger.isSome = true ∧ loaded.lines.ign = false ∧ loaded.store.state = .ready ∧
      loaded.store.queue = [] ∧ loaded.store.inFlight = none ∧ loaded.engine.resetPending = false ∧
      loaded.store.accountUncovered = false ∧
      ({ loaded with store := loaded.store.mark (.account 4) } : State).store.accountUncovered = true := by decide +kernel

theorem test_met_MonitorWindowSelects :
    keyOn.isRunning = true ∧ keyOn.time.selection = .crystal ∧ badTime.isRunning = true ∧
      badTime.time.selection = .internalRc ∧ windowGood 72000 = true ∧ windowGood 88000 = true ∧ windowGood 71999 = false ∧
      windowGood 88001 = false ∧
      (after (.monitorWindow 88000) (badTime.setSelection .internalRc 98)).time.selection = .internalRc ∧
      (after (.monitorWindow 72000) (badTime.setSelection .internalRc 99)).time.selection = .crystal := by decide +kernel

/-- A SERVICE RESET waits for its write, with IGN asserted since. -/
def writingKeyOn : State := after .ignAsserted waiting

theorem test_met_GoodWriteCompletes :
    writingKeyOn.store.inFlight.isSome = true ∧ writingKeyOn.store.state = .writing ∧ writingKeyOn.store.pfwTaken = false ∧
      writingKeyOn.engine.resetDue = false ∧ writingKeyOn.lines.ign = true ∧
      writingKeyOn.engine.slots[(3 : SlotIx)].inFlight =
        some { kind := 0x20#8, ops := [0#8], phase := .waiting [{ record := .account 0, begun := true }] [] } ∧
      (∀ k : SlotIx, k ≠ 3 → writingKeyOn.engine.slots[k].inFlight = none) ∧ writingKeyOn.port.hasRoom = true := by decide +kernel

/-- The record of a suspect band entry is being written, record 5 suspect too. -/
def writingSuspect : State :=
  let s : State := { loaded with bands := { loaded.bands with suspect := loaded.bands.suspect.set 2 true } }
  after .ignAsserted
    (after (.bandWeight 3 [2#8, 4#8, 1#8, 6#8, 0#8, 1#8, 1#8]) ((s.reportSuspect (.band 2)).reportSuspect .settings))

theorem test_met_GoodWriteCompletes_suspect :
    writingSuspect.store.inFlight.map Write.record = some (.band 2) ∧ writingSuspect.store.state = .writing ∧
      writingSuspect.bands.suspect[(2 : Fin 16)] = true ∧ writingSuspect.alerts.suspects = [.band 2, .settings] ∧
      (after (.writeCompletion false) writingSuspect).alerts.suspects = [.settings] ∧
      (after (.writeCompletion false) writingSuspect).alerts.holds (devicePair .recordSuspect) = true ∧
      (after (.writeCompletion false)
            { writingSuspect with alerts := { writingSuspect.alerts with suspects := [.band 2] } }).alerts.holds
          (devicePair .recordSuspect) = false := by decide +kernel

theorem test_met_WriteFaultRequeuesOrGoesOffline :
    writingKeyOn.store.inFlight.isSome = true ∧ writingKeyOn.store.state = .writing ∧
      writingKeyOn.alerts.entry (devicePair .storeFault) = none ∧
      (after (.writeCompletion true) writingKeyOn).store.state = .writing ∧
      (after (.writeCompletion true) writingKeyOn).store.inFlight.isSome = true ∧
      ((after (.writeCompletion true) writingKeyOn).alerts.entry (devicePair .storeFault)).isSome = true ∧
      (after (.writeCompletion true) (after (.writeCompletion true) writingKeyOn)).store.state = .offline := by decide +kernel

theorem test_met_PowerFailFollowsLine :
    loaded.lines.pfw = false ∧ loaded.time.inReset = none ∧ loaded.time.mode ≠ .dormant ∧ loaded.store.changedAccounts = [] ∧
      ({ loaded with store := loaded.store.mark (.account 4) } : State).store.changedAccounts = [4] ∧
      waiting.store.state = .writing ∧ offline.store.state = .offline ∧ dormant.lines.pfw = true ∧
      dormant.time.inReset = none ∧ dormant.time.mode = .dormant ∧ flushing.lines.pfw = true ∧
      flushing.store.state = .flushing ∧ flushing.time.mode = .active ∧
      (after .pfwAsserted waiting).store.state = .writing ∧ (after .pfwAsserted waiting).lines.pfw = true := by decide +kernel

/-- A SERVICE RESET of ENGINE is being written, PFW is asserted, and CLUTCH is changed. -/
def pfwTaken : State :=
  after .pfwAsserted { waiting with store := waiting.store.mark (.account 2) }

/-- PARKED, with a flush of ENGINE released and record 5 changed. -/
def parkedFlush : State :=
  after .pfwReleased
    (after .pfwAsserted { parked with store := (parked.store.mark (.account 0)).mark .settings })

theorem test_met_PowerFailFollowsLine_completion :
    (pfwTaken.store.inFlight.map Write.record = some (.account 0) ∧ pfwTaken.store.state = .writing ∧
        pfwTaken.store.pfwTaken = true ∧ pfwTaken.engine.resetDue = false ∧
        pfwTaken.alerts.entry (devicePair .storeFault) = none) ∧
      ((after .pfwAsserted waiting).store.pfwTaken = true ∧
        (after (.writeCompletion false) (after .pfwAsserted waiting)).time.mode = .dormant) ∧
      ((after (.writeCompletion false) pfwTaken).store.state = .flushing ∧
        (after (.writeCompletion false) pfwTaken).store.inFlight.map Write.record = some (.account 2)) ∧
      (flushing.store.inFlight.map Write.record = some (.account 0) ∧ flushing.store.queue = [] ∧
        flushing.store.flushList = [] ∧ flushing.store.pfwReleased = false ∧ flushing.engine.resetDue = false) ∧
      (after .pfwReleased flushing).store.pfwReleased = true ∧
      ({ flushing with store := { flushing.store with flushList := [4] } } : State).store.flushList = [4] := by decide +kernel

theorem test_met_PowerFailFollowsLine_parked :
    parkedFlush.time.mode = .parked ∧ parkedFlush.store.state = .flushing ∧ parkedFlush.store.queue = [] ∧
      parkedFlush.store.flushList = [] ∧ parkedFlush.store.pfwReleased = true ∧
      (after (.writeCompletion false) parkedFlush).time.mode = .active ∧
      (after (.writeCompletion false) parkedFlush).store.inFlight.map Write.record = some .settings ∧
      ((after (.writeCompletion true) pfwTaken).alerts.entry (devicePair .storeFault)).isSome = true ∧
      (after (.writeCompletion true) pfwTaken).store.state = .flushing := by decide +kernel

theorem test_met_ResetEndFollowsCheck :
    (after (.warmReset .aboveRetention) rented).time.inReset = some { kind := .warm, spoiled := false } ∧
      (after (.warmReset .aboveRetention) rented).store.isLoading = false ∧
      (after (.warmReset .aboveRetention) rented).store.inFlight = none ∧
      (after (.warmReset .belowRetention) rented).time.inReset = some { kind := .warm, spoiled := true } ∧
      (after (.resetEnd true true 72000 { na0 := true, na1 := true, br := true })
          (after (.warmReset .aboveRetention) rented)).store.state = .writing := by decide +kernel

theorem test_met_ResetEndFollowsCheck_interrupted :
    let again := after (.warmReset .aboveRetention) State.reset
    again.time.inReset = some { kind := .warm, spoiled := false } ∧ again.store.isLoading = true ∧
      (after (.resetEnd true true 80000 State.reset.time.straps) again).store.state = .loading .cold ∧
      (after (.warmReset .aboveRetention) (after (.warmReset .belowRetention) rented)).time.inReset =
        some { kind := .warm, spoiled := true } := by decide +kernel

/-- LOADING after a failed check, with a suspect mark of band entry 2 kept. -/
def reloading : State :=
  after (.resetEnd false true 80000 State.reset.time.straps)
    (after (.warmReset .aboveRetention)
      { rented with bands := { rented.bands with suspect := rented.bands.suspect.set 2 true } })

theorem test_met_ColdLoadFormsState_failedCheck :
    reloading.store.state = .loading .failedCheck ∧ reloading.store.inFlight = none ∧ reloading.time.inReset = none ∧
      reloading.time.mode = .active ∧ reloading.intake = Intake.afterReset ∧
      reloading.qualifier = Qualifier.initial ∧ reloading.alerts = AlertUnit.initial ∧
      reloading.lines.crank = false ∧ reloading.lines.pfw = false ∧ reloading.settings = rented.settings ∧
      RecordId.band 2 ∈ (after .loadEnd reloading).alerts.suspects := by decide +kernel

theorem test_met_ColdLoadFormsState :
    State.reset.store.state = .loading .cold ∧ State.reset.store.inFlight = none ∧ State.reset.time.inReset = none ∧
      State.reset.time.mode = .active ∧ State.reset.intake = Intake.afterReset ∧
      State.reset.qualifier = Qualifier.initial ∧ State.reset.alerts = AlertUnit.initial ∧
      State.reset.lines.crank = false ∧ State.reset.lines.pfw = false := by decide +kernel

/-- LOADING an array that holds one record of each kind, three of them out of range, and two OPEN segments. -/
def loadingMixed : State :=
  let put (r : RecordId) (c : RecordContent) (a : Vector Stored 46) : Vector Stored 46 := a.set r.index (.whole c)
  let segment (k : Fin 24) : RecordContent := .slot k (some (segmentIn .opened k).seg)
  { State.reset with
    store :=
      { State.reset.store with
        array :=
          put (.account 1) (.account 1 { Account.blank 1 with credit := 288000 })
            (put .settings (.settings { Settings.default with freshLimit := 99 })
              (put (.band 2)
                (.band 2 { BandEntry.blank with weightPart := { BandEntry.blank.weightPart with weight := 65536 } })
                (put (.slot 0) (segment 0) (put (.slot 1) (segment 1) State.reset.store.array)))) } }

theorem test_met_ColdLoadFormsState_ranges :
    ((after .loadEnd loadingMixed).account 1).state = .suspect ∧
      (after .loadEnd loadingMixed).store.settingsSuspect = true ∧
      (after .loadEnd loadingMixed).bands.suspect[(2 : Fin 16)] = true ∧
      (after .loadEnd loadingMixed).settings.lastSerial = 2 := by decide +kernel

theorem test_met_LoadHandlesOpenSegments :
    loadingMixed.store.state = .loading .cold ∧ loadingMixed.time.inReset = none ∧
      (loadingMixed.store.loadLog.map fun e => (e.slot, e.seg.state)) = [(0, .opened), (1, .opened)] ∧
      ((after .loadEnd loadingMixed).log.entries.map fun e => (e.slot, e.seg.state, e.seg.flags.powerGap)) =
        [(0, .closed, true), (1, .opened, true)] := by decide +kernel

theorem test_met_TransmissionFreesPlace :
    (withFrames 8 loaded).onBus = true ∧ (withFrames 8 loaded).port.tx = someFrame :: List.replicate 7 someFrame ∧
      (∀ k : SlotIx, (withFrames 8 loaded).engine.slots[k].heldFrame = none) ∧
      (after (.status 0 []) (withFrames 8 loaded)).onBus = true ∧
      ((after (.status 0 []) (withFrames 8 loaded)).engine.slots[(0 : SlotIx)].heldFrame).isSome = true ∧
      (after (.resetDevice 3 []) loaded).engine.resetPending = true ∧
      ((after (.resetDevice 3 []) loaded).port.tx.map Frame.startsReset) = [true] ∧
      (after (.resetDevice 3 []) loaded).store.inFlight = none := by decide +kernel

theorem test_met_BusOffAndRecovery :
    waiting.onBus = true ∧ waiting.engine.resetPending = false ∧
      (after .ignAsserted (after (.resetDevice 3 []) loaded)).onBus = true ∧
      (after .ignAsserted (after (.resetDevice 3 []) loaded)).engine.resetPending = true ∧
      (after .ignAsserted (after (.resetDevice 3 []) loaded)).lines.ign = true ∧
      (after .busOff waiting).port.state = .busOff ∧ (after .busOff waiting).time.mode ≠ .dormant := by decide +kernel

end Sys2Proof.Tests
end

section
/-! PROOFS. The stored values stay in range (O7). One relation between two states, `keepsContents`, says that whatever law
of the scale of F and of the order of the limits held of every working copy, stored image and write in flight still holds;
every operation of the part keeps the contents, so every step does. -/

namespace Sys2Proof.Machine

/-! ## The relation -/

/-- A law of record contents that asks no more of an account than its scale (R7) and no more of the settings than their
order (R32, R74). -/
structure ContentLaw (P : RecordContent → Prop) : Prop where
  account : ∀ {i : AccountIx} {a b : Account}, P (.account i a) → (a.inScale → b.inScale) → P (.account i b)
  settings : ∀ {v w : Settings}, P (.settings v) → (v.ordered → w.ordered) → P (.settings w)
  band : ∀ k e, P (.band k e)
  slot : ∀ k g, P (.slot k g)

/-- Every working copy, every stored image and the image in flight meet a law. -/
structure State.contentsMeet (s : State) (P : RecordContent → Prop) : Prop where
  account : ∀ i : AccountIx, P (.account i (s.account i))
  settings : P (.settings s.settings)
  stored : ∀ (k : Fin 46) (c : RecordContent), s.store.array[k] = .whole c → P c
  inFlight : ∀ w, s.store.inFlight = some w → P w.image

/-- From s to t every such law that held of the contents still holds of them. -/
def State.keepsContents (s t : State) : Prop := ∀ P, ContentLaw P → s.contentsMeet P → t.contentsMeet P

theorem RecordContent.inScale_law : ContentLaw RecordContent.inScale where
  account h f := by
    rintro j c ⟨⟩
    exact f (h _ _ rfl)
  settings _ _ := by rintro _ _ ⟨⟩
  band _ _ := by rintro _ _ ⟨⟩
  slot _ _ := by rintro _ _ ⟨⟩

theorem RecordContent.ordered_law : ContentLaw RecordContent.ordered where
  account _ _ := by rintro _ ⟨⟩
  settings h f := by
    rintro u ⟨⟩
    exact f (h _ rfl)
  band _ _ := by rintro _ ⟨⟩
  slot _ _ := by rintro _ ⟨⟩

theorem State.remaindersInScale_iff (s : State) : s.remaindersInScale ↔ s.contentsMeet RecordContent.inScale := by
  constructor
  · rintro ⟨accounts, stored, inFlight⟩
    refine ⟨fun i => ?_, ?_, stored, inFlight⟩
    · rintro _ _ ⟨⟩
      exact accounts i
    · rintro _ _ ⟨⟩
  · rintro ⟨accounts, -, stored, inFlight⟩
    exact ⟨fun i => accounts i _ _ rfl, stored, inFlight⟩

theorem State.settingsOrdered_iff (s : State) : s.settingsOrdered ↔ s.contentsMeet RecordContent.ordered := by
  constructor
  · rintro ⟨settings, stored, inFlight⟩
    refine ⟨fun i => ?_, ?_, stored, inFlight⟩
    · rintro _ ⟨⟩
    · rintro _ ⟨⟩
      exact settings
  · rintro ⟨-, settings, stored, inFlight⟩
    exact ⟨settings _ rfl, stored, inFlight⟩

theorem State.keepsContents_refl (s : State) : s.keepsContents s := fun _ _ h => h

theorem State.keepsContents_trans {s t u : State} (h : s.keepsContents t) (k : t.keepsContents u) : s.keepsContents u :=
  fun P law m => k P law (h P law m)

/-- Two operations in succession, the later one given first. -/
theorem State.keepsContents_after {s t u : State} (k : t.keepsContents u) (h : s.keepsContents t) : s.keepsContents u :=
  State.keepsContents_trans h k

theorem State.keepsContents_ite {s t u : State} {c : Prop} [Decidable c] (h : s.keepsContents t)
    (k : s.keepsContents u) : s.keepsContents (if c then t else u) := by
  split
  · exact h
  · exact k

theorem State.keepsContents_foldl {α : Type} {f : State → α → State}
    (h : ∀ (x : State) (a : α), x.keepsContents (f x a)) (l : List α)
    (s : State) : s.keepsContents (l.foldl f s) := by
  induction l generalizing s with
  | nil => exact s.keepsContents_refl
  | cons a l ih => exact State.keepsContents_after (ih (f s a)) (h s a)

/-- An update of working copies and settings that leaves what the store holds. -/
theorem State.keepsContents_of_store {s t : State} (a : ∀ i, (s.account i).inScale → (t.account i).inScale)
    (v : s.settings.ordered → t.settings.ordered) (r : t.store.array = s.store.array)
    (f : t.store.inFlight.map Write.image = s.store.inFlight.map Write.image) : s.keepsContents t := by
  intro P law m
  refine ⟨fun i => law.account (m.account i) (a i), law.settings m.settings v, ?_, ?_⟩
  · rw [r]
    exact m.stored
  · intro w h
    rw [h] at f
    obtain ⟨w', h', e⟩ := Option.map_eq_some_iff.mp f.symm
    exact e ▸ m.inFlight w' h'

/-- An update outside the accounts, the settings and what the store holds. -/
theorem State.keepsContents_of_same {s t : State} (a : t.accounts.accounts = s.accounts.accounts)
    (v : t.settings = s.settings) (r : t.store.array = s.store.array) (f : t.store.inFlight = s.store.inFlight) :
    s.keepsContents t :=
  State.keepsContents_of_store (fun i h => by rwa [State.account, a]) (fun h => by rwa [v]) r (by rw [f])

/-- An update after which nothing is in flight. -/
theorem State.keepsContents_of_idle {s t : State} (a : t.accounts.accounts = s.accounts.accounts)
    (v : t.settings = s.settings)
    (r : ∀ (k : Fin 46) c, t.store.array[k] = .whole c →
      s.store.array[k] = .whole c ∨ ∃ w, s.store.inFlight = some w ∧ w.image = c)
    (f : t.store.inFlight = none) : s.keepsContents t := by
  intro P law m
  refine ⟨fun i => ?_, v ▸ m.settings, fun k c h => ?_, fun w h => by rw [f] at h; cases h⟩
  · rw [State.account, a]
    exact m.account i
  · rcases r k c h with old | ⟨w, flown, image⟩
    · exact m.stored k c old
    · exact image ▸ m.inFlight w flown

/-- An operation on other parts than the accounts, the settings and the store. -/
theorem State.keepsContents_of_changesOnly {s t : State} {ps : List Part} (h : s.changesOnly t ps)
    (a : Part.accounts ∉ ps) (v : Part.settings ∉ ps) (r : Part.store ∉ ps) : s.keepsContents t :=
  have store : t.store = s.store := h .store r
  State.keepsContents_of_same (congrArg AccountTable.accounts (h .accounts a)) (h .settings v) (by rw [store])
    (by rw [store])

/-- An operation that only marks, and changes no working copy. -/
theorem State.keepsContents_of_onlyMarks {s t : State} (m : s.onlyMarks t) (a : ∀ i, t.account i = s.account i)
    (v : t.settings = s.settings) : s.keepsContents t :=
  State.keepsContents_of_store (fun i h => by rwa [a i]) (fun h => by rwa [v]) m.array m.image

/-! ## Account figures within the scale (R7) -/

theorem Account.inScale_of_same {a b : Account} (c : b.credit = a.credit) (r : b.revRemainder = a.revRemainder)
    (h : a.inScale) : b.inScale := by
  unfold Account.inScale
  rwa [c, r]

theorem Account.blank_inScale (i : AccountIx) : (Account.blank i).inScale := by
  refine ⟨Nat.zero_lt_succ _, fun r h => ?_⟩
  simp only [Account.blank, presentAt] at h
  split at h <;> cases h
  exact Nat.zero_lt_succ _

theorem Account.addCredit_inScale {a : Account} (n : Nat) (h : a.inScale) : (a.addCredit n).inScale :=
  ⟨Nat.mod_lt _ (by decide), h.2⟩

theorem Account.addRevolutions_inScale {a : Account} (v : Nat) (h : a.inScale) : (a.addRevolutions v).inScale := by
  unfold Account.addRevolutions
  split
  · exact h
  · refine ⟨h.1, ?_⟩
    rintro _ ⟨⟩
    exact Nat.mod_lt _ (by decide)

theorem Account.serviced_inScale {a : Account} (now : Nat) (h : a.inScale) : (a.serviced now).inScale :=
  ⟨Nat.zero_lt_succ _, h.2⟩

theorem Account.restoreField_credit (a : Account) (field v : Nat) :
    (a.restoreField field v).credit = a.credit ∧ (a.restoreField field v).revRemainder = a.revRemainder := by
  unfold Account.restoreField
  split
  case h_12 => split <;> exact ⟨rfl, rfl⟩
  all_goals exact ⟨rfl, rfl⟩

theorem Account.restored_inScale {a : Account} (fields : List (Nat × Nat)) (h : a.inScale) :
    (a.restored fields).inScale := by
  have added : (fields.foldl (fun x fv => x.restoreField fv.1 fv.2) a).inScale := by
    induction fields generalizing a with
    | nil => exact h
    | cons fv rest ih =>
      obtain ⟨c, r⟩ := a.restoreField_credit fv.1 fv.2
      exact ih (Account.inScale_of_same c r h)
  exact Account.inScale_of_same rfl rfl added

theorem Account.writeSetting_inScale {a b : Account} {id raw : Nat} (w : a.writeSetting id raw = some b)
    (h : a.inScale) : b.inScale := by
  unfold Account.writeSetting at w
  split at w
  case h_3 =>
    split at w <;> cases w
    exact Account.inScale_of_same rfl rfl h
  case h_6 => cases w
  all_goals
    cases w
    exact Account.inScale_of_same rfl rfl h

/-! ## Settings in order (R32, R74) -/

theorem OilLimits.writeCold_ordered {l : OilLimits} (v : Int) (h : l.ordered) : (l.writeCold v).ordered :=
  ⟨min_le_right _ _, h.2⟩

theorem OilLimits.writeHot_ordered {l : OilLimits} (v : Int) (h : l.ordered) : (l.writeHot v).ordered :=
  ⟨le_max_left _ _, max_le (h.1.trans h.2) (min_le_right _ _)⟩

theorem OilLimits.writeCritical_ordered {l : OilLimits} (v : Int) (h : l.ordered) : (l.writeCritical v).ordered :=
  ⟨h.1, le_max_left _ _⟩

theorem Settings.default_ordered : Settings.default.ordered := by
  refine ⟨by decide, ⟨by decide, by decide⟩, ⟨by decide, by decide⟩⟩

/-- The limits that are ordered stand as they were. -/
theorem Settings.ordered_of_same {v w : Settings} (f : w.freshLimit = v.freshLimit) (g : w.holdLimit = v.holdLimit)
    (e : w.engineOil = v.engineOil) (t : w.transmissionOil = v.transmissionOil) (h : v.ordered) : w.ordered := by
  unfold Settings.ordered
  rwa [f, g, e, t]

theorem Settings.write_ordered {v w : Settings} {id : Nat} {x : Int} (r : v.write id x = some w) (h : v.ordered) :
    w.ordered := by
  obtain ⟨ages, engine, transmission⟩ := h
  unfold Settings.write at r
  split at r
  case h_1 => cases r; exact ⟨min_le_right _ _, engine, transmission⟩
  case h_2 => cases r; exact ⟨le_max_right _ _, engine, transmission⟩
  case h_4 => cases r; exact ⟨ages, OilLimits.writeCold_ordered x engine, transmission⟩
  case h_5 => cases r; exact ⟨ages, OilLimits.writeHot_ordered x engine, transmission⟩
  case h_6 => cases r; exact ⟨ages, OilLimits.writeCritical_ordered x engine, transmission⟩
  case h_7 => cases r; exact ⟨ages, engine, OilLimits.writeCold_ordered x transmission⟩
  case h_8 => cases r; exact ⟨ages, engine, OilLimits.writeHot_ordered x transmission⟩
  case h_9 => cases r; exact ⟨ages, engine, OilLimits.writeCritical_ordered x transmission⟩
  case h_21 =>
    split at r <;> cases r
    exact ⟨ages, engine, transmission⟩
  all_goals cases r; exact ⟨ages, engine, transmission⟩

/-! ## Writes -/

theorem State.setAccount_keeps (s : State) (i : AccountIx) (a : Account) (h : (s.account i).inScale → a.inScale) :
    s.keepsContents (s.setAccount i a) := by
  refine State.keepsContents_of_store (fun j g => ?_) id rfl rfl
  by_cases e : i = j
  · subst e
    rw [State.account_setAccount_same]
    exact h g
  · rwa [State.account_setAccount_other _ _ e]

theorem State.markRecord_keeps (s : State) (r : RecordId) : s.keepsContents (s.markRecord r) :=
  State.keepsContents_of_onlyMarks (s.markRecord_onlyMarks r) (fun _ => rfl) rfl

theorem State.stampLastWrite_keeps (s : State) (r : RecordId) : s.keepsContents (s.stampLastWrite r) := by
  cases r with
  | account i => exact s.setAccount_keeps i _ (Account.inScale_of_same rfl rfl)
  | settings => exact s.keepsContents_refl
  | band k => exact s.keepsContents_refl
  | slot k => exact s.keepsContents_refl

/-- What a write carries meets the law, since it is composed of the working content. -/
theorem State.compose_meets {s : State} {P : RecordContent → Prop} (law : ContentLaw P) (h : s.contentsMeet P)
    (r : RecordId) : P (s.compose r) := by
  cases r with
  | account i => exact h.account i
  | settings => exact h.settings
  | band k => exact law.band k _
  | slot k => exact law.slot k _

theorem State.startWrite_keeps (s : State) (r : RecordId) : s.keepsContents (s.startWrite r) := by
  refine State.keepsContents_trans (s.stampLastWrite_keeps r) fun P law h => ?_
  refine ⟨h.account, h.settings, h.stored, ?_⟩
  rintro w ⟨⟩
  exact State.compose_meets law h r

theorem State.nextWrite_keeps (s : State) : s.keepsContents s.nextWrite := by
  unfold State.nextWrite
  split
  · exact State.keepsContents_of_same rfl rfl rfl rfl
  · exact State.keepsContents_after (State.startWrite_keeps _ _) (State.keepsContents_of_same rfl rfl rfl rfl)

theorem State.startIfReady_keeps (s : State) : s.keepsContents s.startIfReady := by
  unfold State.startIfReady
  split
  · exact s.nextWrite_keeps
  all_goals exact s.keepsContents_refl

/-- Queueing records changes no content. -/
theorem State.keepsContents_append (s : State) (r : RecordId) :
    s.keepsContents { s with store := s.store.append r } := by
  unfold Store.append
  split <;> exact State.keepsContents_of_same rfl rfl rfl rfl

theorem State.hand_keeps (s : State) (r : RecordId) : s.keepsContents (s.hand r) := by
  have queued : s.keepsContents (State.startIfReady { s.markRecord r with store := (s.markRecord r).store.append r }) :=
    State.keepsContents_after (State.keepsContents_after (State.startIfReady_keeps _) (State.keepsContents_append _ r))
      (s.markRecord_keeps r)
  unfold State.hand
  dsimp only
  split
  · exact s.markRecord_keeps r
  · exact s.markRecord_keeps r
  all_goals exact queued

theorem State.bulkEnqueue_keeps (s : State) (rs : List RecordId) : s.keepsContents (s.bulkEnqueue rs) :=
  State.keepsContents_after (State.startIfReady_keeps _) (State.keepsContents_of_same rfl rfl rfl rfl)

/-! ## Accounts and the Start Qualifier -/

theorem State.changeAccount_keeps (s : State) (i : AccountIx) {f : Account → Account}
    (h : ∀ a, a.inScale → (f a).inScale) : s.keepsContents (s.changeAccount i f) :=
  State.keepsContents_ite s.keepsContents_refl
    (State.keepsContents_after (State.markRecord_keeps _ _) (s.setAccount_keeps i _ (h _)))

theorem State.evalThresholds_keeps (s : State) (i : AccountIx) : s.keepsContents (s.evalThresholds i) :=
  State.keepsContents_of_onlyMarks (s.evalThresholds_onlyMarks i) (s.account_evalThresholds i)
    (s.evalThresholds_changesOnly i .settings (by decide))

theorem State.evalCarried_keeps (s : State) (i : AccountIx) (n : Nat) : s.keepsContents (s.evalCarried i n) :=
  State.keepsContents_ite s.keepsContents_refl (s.evalThresholds_keeps i)

theorem State.credit_keeps (s : State) (i : AccountIx) (n : Nat) : s.keepsContents (s.credit i n) :=
  State.keepsContents_after (State.evalCarried_keeps _ i _)
    (s.changeAccount_keeps i fun _ => Account.addCredit_inScale n)

theorem State.credits_keeps (s : State) (i : AccountIx) (n k : Nat) : s.keepsContents (s.credits i n k) := by
  induction k generalizing s with
  | zero => exact s.keepsContents_refl
  | succ k ih => exact State.keepsContents_after (ih _) (s.credit_keeps i n)

theorem State.postEvents_keeps (s : State) (i : AccountIx) (n m : Nat) : s.keepsContents (s.postEvents i n m) :=
  State.keepsContents_after (State.credits_keeps _ i _ n)
    (s.changeAccount_keeps i fun _ => Account.inScale_of_same rfl rfl)

theorem State.setQualifier_keeps (s : State) (q : QualifierState) : s.keepsContents (s.setQualifier q) :=
  State.keepsContents_of_same rfl rfl rfl rfl

theorem State.crankTrigger_keeps (s : State) : s.keepsContents s.crankTrigger := by
  have posted : ∀ c q, s.keepsContents ((s.postStarter c).setQualifier q) := fun c q =>
    State.keepsContents_after (State.setQualifier_keeps _ q) (s.postEvents_keeps 1 1 _)
  unfold State.crankTrigger
  split
  · exact posted _ _
  · exact posted _ _
  · exact posted _ _
  · exact State.keepsContents_after (State.changeAccount_keeps _ 1 fun _ => Account.inScale_of_same rfl rfl)
      (s.postEvents_keeps 1 1 _)

theorem State.reformLatch_keeps (s : State) : s.keepsContents s.reformLatch :=
  State.keepsContents_of_changesOnly s.reformLatch_changesOnly (by decide) (by decide) (by decide)

theorem State.reformCrank_keeps (s : State) : s.keepsContents s.reformCrank :=
  State.keepsContents_ite (State.keepsContents_after (State.crankTrigger_keeps _) s.reformLatch_keeps)
    s.reformLatch_keeps

theorem State.crankLine_keeps (s : State) (asserted : Bool) : s.keepsContents (s.crankLine asserted) := by
  have formed : s.keepsContents (State.reformCrank { s with lines := { s.lines with crank := asserted } }) :=
    State.keepsContents_after (State.reformCrank_keeps _) (State.keepsContents_of_same rfl rfl rfl rfl)
  exact State.keepsContents_ite (State.keepsContents_after (State.crankTrigger_keeps _) formed) formed

theorem State.endAttempt_keeps (s : State) (a : Attempt) (o : AttemptOutcome) (q : QualifierState) :
    s.keepsContents (s.endAttempt a o q) :=
  State.keepsContents_of_changesOnly (s.endAttempt_changesOnly a o q) (by decide) (by decide) (by decide)

theorem State.speedUpdate_keeps (s : State) : s.keepsContents s.speedUpdate := by
  have set : ∀ q, s.keepsContents (s.setQualifier q) := s.setQualifier_keeps
  unfold State.speedUpdate
  split
  · exact State.keepsContents_ite
      (State.keepsContents_after (State.setQualifier_keeps _ _)
        (s.changeAccount_keeps 0 fun _ => Account.inScale_of_same rfl rfl)) s.keepsContents_refl
  · exact s.keepsContents_refl
  · exact State.keepsContents_ite (set _) s.keepsContents_refl
  · exact s.keepsContents_refl
  · exact State.keepsContents_ite (s.endAttempt_keeps _ _ _) s.keepsContents_refl
  · exact s.keepsContents_refl
  · exact State.keepsContents_ite (set _) (set _)
  · exact set _

theorem State.windowExpiry_keeps (s : State) : s.keepsContents s.windowExpiry :=
  State.keepsContents_of_changesOnly s.windowExpiry_changesOnly (by decide) (by decide) (by decide)

theorem State.postQualified_keeps (s : State) (a : Attempt) : s.keepsContents (s.postQualified a) :=
  State.keepsContents_ite
    (State.keepsContents_after (State.changeAccount_keeps _ 0 fun _ => Account.inScale_of_same rfl rfl)
      (s.postEvents_keeps 0 1 _))
    (s.postEvents_keeps 0 1 _)

theorem State.confirmDone_keeps (s : State) : s.keepsContents s.confirmDone := by
  unfold State.confirmDone
  split
  · exact State.keepsContents_ite
      (State.keepsContents_after (State.endAttempt_keeps _ _ _ _) (s.postQualified_keeps _))
      (s.endAttempt_keeps _ _ _)
  all_goals exact s.keepsContents_refl

theorem State.stopDone_keeps (s : State) : s.keepsContents s.stopDone := by
  unfold State.stopDone
  split
  · exact s.setQualifier_keeps _
  all_goals exact s.keepsContents_refl

theorem State.stopQualifier_keeps (s : State) : s.keepsContents s.stopQualifier :=
  State.keepsContents_of_changesOnly s.stopQualifier_changesOnly (by decide) (by decide) (by decide)

theorem State.resumeQualifier_keeps (s : State) : s.keepsContents s.resumeQualifier := by
  unfold State.resumeQualifier
  dsimp only
  split
  · exact State.keepsContents_after (State.setQualifier_keeps _ _) s.reformCrank_keeps
  all_goals exact s.reformCrank_keeps

/-! ## Signal Intake -/

theorem State.setAgeing_keeps (s : State) (n : SignalName) (g : Ageing) : s.keepsContents (s.setAgeing n g) :=
  State.keepsContents_of_same rfl rfl rfl rfl

theorem State.handUnknown_keeps (s : State) (n : SignalName) : s.keepsContents (s.handUnknown n) := by
  cases n
  case engineSpeed =>
    exact State.keepsContents_of_changesOnly s.speedLost_changesOnly (by decide) (by decide) (by decide)
  case starterStatus => exact s.reformCrank_keeps
  case drivelineEvent => exact State.keepsContents_of_same rfl rfl rfl rfl
  all_goals exact s.keepsContents_refl

theorem State.passUnknown_keeps (s : State) (n : SignalName) (age : Nat) : s.keepsContents (s.passUnknown n age) := by
  unfold State.passUnknown
  split
  · exact s.keepsContents_refl
  all_goals exact State.keepsContents_after (State.handUnknown_keeps _ n) (s.setAgeing_keeps n _)

theorem State.passHeld_keeps (s : State) (n : SignalName) : s.keepsContents (s.passHeld n) := by
  unfold State.passHeld
  split
  · exact s.setAgeing_keeps n _
  all_goals exact s.keepsContents_refl

theorem State.reclassifyAll_keeps (s : State) : s.keepsContents s.reclassifyAll :=
  State.keepsContents_foldl
    (fun x n => State.keepsContents_ite (x.passUnknown_keeps n _)
      (State.keepsContents_ite (x.setAgeing_keeps n _) x.keepsContents_refl)) _ s

theorem State.setIntake_keeps (s : State) (x : Intake) : s.keepsContents { s with intake := x } :=
  State.keepsContents_of_same rfl rfl rfl rfl

theorem State.intakeParked_keeps (s : State) : s.keepsContents s.intakeParked := by
  have passed : s.keepsContents (signalNames.foldl (fun x n => x.passUnknown n (x.intake.ageing n).age) s) :=
    State.keepsContents_foldl (fun x n => x.passUnknown_keeps n _) signalNames s
  unfold State.intakeParked
  exact State.keepsContents_after (State.setIntake_keeps _ _) passed

theorem State.postCounted_keeps (s : State) (i : AccountIx) (n : Nat) : s.keepsContents (s.postCounted i n) :=
  State.keepsContents_ite s.keepsContents_refl (s.postEvents_keeps i n _)

theorem State.decode_keeps (s : State) (f : ObsFormat) (data : List Byte) : s.keepsContents (s.decode f data) := by
  have taken : ∀ x, s.keepsContents { s with intake := x } := s.setIntake_keeps
  cases f with
  | engineState =>
    show s.keepsContents (s.decodeEngine data)
    unfold State.decodeEngine
    split
    · exact State.keepsContents_ite
        (State.keepsContents_after (State.keepsContents_after (State.speedUpdate_keeps _) (State.reformCrank_keeps _))
          (taken _)) (taken _)
    · exact s.keepsContents_refl
  | drivelineState =>
    show s.keepsContents (s.decodeDriveline data)
    unfold State.decodeDriveline
    split
    · exact taken _
    · exact s.keepsContents_refl
  | drivelineEvent =>
    show s.keepsContents (s.decodeEvent data)
    unfold State.decodeEvent
    split
    · exact State.keepsContents_after (State.keepsContents_after (State.postCounted_keeps _ 2 _)
        (State.postCounted_keeps _ 3 _)) (taken _)
    · exact s.keepsContents_refl

/-! ## The metering pass -/

theorem State.activateStaged_keeps (s : State) : s.keepsContents s.activateStaged :=
  State.keepsContents_foldl
    (fun x k => State.keepsContents_ite
      (State.keepsContents_trans (t := x.setBand k x.bands.entries[k].activated)
        (State.keepsContents_of_same rfl rfl rfl rfl) (State.hand_keeps _ _))
      x.keepsContents_refl) _ s

theorem State.clearUnobserved_keeps (s : State) (i : AccountIx) : s.keepsContents (s.clearUnobserved i) :=
  State.keepsContents_of_changesOnly (s.clearUnobserved_changesOnly i) (by decide) (by decide) (by decide)

theorem State.flagOpen_keeps (s : State) (f : SegmentFlags → SegmentFlags) : s.keepsContents (s.flagOpen f) :=
  State.keepsContents_of_onlyMarks (s.flagOpen_onlyMarks f)
    (State.account_of_changesOnly (s.flagOpen_changesOnly f) (by decide))
    (s.flagOpen_changesOnly f .settings (by decide))

theorem State.activePeriod_keeps (s : State) (i : AccountIx) : s.keepsContents (s.activePeriod i) := by
  have noted : ∀ w, s.keepsContents ((s.clearUnobserved i).noteWinner i w) := fun w =>
    State.keepsContents_of_changesOnly
      (State.changesOnly_trans (s.clearUnobserved_changesOnly i) (State.noteWinner_changesOnly _ i w)) (by decide)
      (by decide) (by decide)
  exact State.keepsContents_after (State.keepsContents_after (State.credit_keeps _ i _)
    (State.changeAccount_keeps _ i fun _ => Account.inScale_of_same rfl rfl)) (noted _)

theorem State.unobservedPeriod_keeps (s : State) (i : AccountIx) : s.keepsContents (s.unobservedPeriod i) := by
  have noted : ∀ x : State, x.keepsContents (x.noteUnobserved i) := fun x =>
    State.keepsContents_of_changesOnly (x.noteUnobserved_changesOnly i) (by decide) (by decide) (by decide)
  have credited : ∀ n, s.keepsContents (s.changeAccount i fun a => a.addUnobserved.addCredit n) := fun n =>
    s.changeAccount_keeps i fun _ h => Account.addCredit_inScale n (Account.inScale_of_same rfl rfl h)
  exact State.keepsContents_after (State.evalCarried_keeps _ i _)
    (State.keepsContents_after (State.flagOpen_keeps _ _) (State.keepsContents_after (noted _) (credited _)))

theorem State.meterAccount_keeps (s : State) (i : AccountIx) : s.keepsContents (s.meterAccount i) := by
  unfold State.meterAccount
  split
  · exact s.activePeriod_keeps i
  · exact s.clearUnobserved_keeps i
  · exact State.keepsContents_ite (s.unobservedPeriod_keeps i) s.keepsContents_refl

theorem State.revolutions_keeps (s : State) : s.keepsContents s.revolutions := by
  unfold State.revolutions
  split
  · exact s.changeAccount_keeps 4 fun _ => Account.addRevolutions_inScale _
  · exact s.keepsContents_refl

theorem State.meteringPass_keeps (s : State) : s.keepsContents s.meteringPass := by
  have then_ : ∀ {t : State} (i : AccountIx), s.keepsContents t → s.keepsContents (t.meterAccount i) :=
    fun i h => State.keepsContents_after (State.meterAccount_keeps _ i) h
  exact State.keepsContents_after (State.revolutions_keeps _)
    (then_ 4 (then_ 3 (then_ 2 (then_ 1 (then_ 0 s.activateStaged_keeps)))))

theorem State.report_keeps (s : State) (p : AlertPair) (v : Bool) (param : Option Byte) :
    s.keepsContents (s.report p v param) :=
  State.keepsContents_of_same rfl rfl rfl rfl

/-! ## Modes -/

theorem State.setMeter_keeps (s : State) (m : Meter) : s.keepsContents { s with meter := m } :=
  State.keepsContents_of_same rfl rfl rfl rfl

theorem State.meterParked_keeps (s : State) : s.keepsContents s.meterParked := by
  have cleared : s.keepsContents ((List.finRange 5).foldl State.clearUnobserved s) :=
    State.keepsContents_foldl (fun x i => x.clearUnobserved_keeps i) _ s
  unfold State.meterParked
  exact State.keepsContents_after (State.setMeter_keeps _ _) cleared

theorem State.dropRequests_keeps (s : State) : s.keepsContents s.dropRequests :=
  State.keepsContents_of_same rfl rfl rfl rfl

theorem State.enterParked_keeps (s : State) : s.keepsContents s.enterParked := by
  have parked : s.keepsContents { s with time := { s.time with mode := .parked } } :=
    State.keepsContents_of_same rfl rfl rfl rfl
  unfold State.enterParked
  refine State.keepsContents_after (State.dropRequests_keeps _) ?_
  refine State.keepsContents_after (State.stopQualifier_keeps _) ?_
  exact State.keepsContents_after (State.meterParked_keeps _)
    (State.keepsContents_after (State.intakeParked_keeps _) parked)

theorem State.enterDormant_keeps (s : State) : s.keepsContents s.enterDormant :=
  State.keepsContents_of_changesOnly s.enterDormant_changesOnly (by decide) (by decide) (by decide)

theorem State.parkCheck_keeps (s : State) : s.keepsContents s.parkCheck :=
  State.keepsContents_ite (State.keepsContents_ite (s.bulkEnqueue_keeps _) s.enterParked_keeps) s.keepsContents_refl

theorem State.wake_keeps (s : State) : s.keepsContents s.wake :=
  State.keepsContents_after (State.reformCrank_keeps _) (State.keepsContents_of_same rfl rfl rfl rfl)

theorem State.restartLinger_keeps (s : State) : s.keepsContents s.restartLinger :=
  State.keepsContents_of_same rfl rfl rfl rfl

theorem State.hearFrame_keeps (s : State) {take : State → State} (h : ∀ x : State, x.keepsContents (take x)) :
    s.keepsContents (s.hearFrame take) :=
  State.keepsContents_ite
    (State.keepsContents_ite (State.keepsContents_after (State.wake_keeps _) s.restartLinger_keeps) (h s))
    s.keepsContents_refl

theorem State.reportTimebase_keeps (s : State) (v : Bool) : s.keepsContents (s.reportTimebase v) :=
  State.keepsContents_ite s.keepsContents_refl (State.keepsContents_of_same rfl rfl rfl rfl)

theorem State.timebaseBad_keeps (s : State) : s.keepsContents s.timebaseBad :=
  State.keepsContents_after (State.flagOpen_keeps _ _) (s.reportTimebase_keeps true)

theorem State.settleTimebase_keeps (s : State) : s.keepsContents s.settleTimebase := by
  unfold State.settleTimebase
  split
  · exact s.timebaseBad_keeps
  · exact s.reportTimebase_keeps _
  all_goals exact s.keepsContents_refl

theorem State.windowEnd_keeps (s : State) (cycles : Nat) : s.keepsContents (s.windowEnd cycles) := by
  have selected : ∀ v n, s.keepsContents (s.setSelection v n) := fun _ _ =>
    State.keepsContents_of_same rfl rfl rfl rfl
  unfold State.windowEnd
  split
  · exact s.keepsContents_refl
  · exact State.keepsContents_ite (selected _ _)
      (State.keepsContents_after (State.timebaseBad_keeps _) (selected _ _))
  · exact State.keepsContents_ite (selected _ _)
      (State.keepsContents_after (State.reportTimebase_keeps _ _) (selected _ _))
  · exact selected _ _

end Sys2Proof.Machine
end

section
/-! PROOFS. The stored values stay in range (O7), continued: the store, the resets and loads, the requests, the commands, and
the statement. -/

namespace Sys2Proof.Machine

/-! ## Answers of the Request Engine -/

theorem State.setInFlight_keeps (s : State) (k : SlotIx) (q : Option InFlight) : s.keepsContents (s.setInFlight k q) :=
  State.keepsContents_of_same rfl rfl rfl rfl

theorem State.offer_keeps (s : State) (k : SlotIx) (kind : Byte) (ops : List Byte) (f : Frame) :
    s.keepsContents (s.offer k kind ops f) :=
  State.keepsContents_of_changesOnly (s.offer_changesOnly k kind ops f) (by decide) (by decide) (by decide)

theorem State.releaseSatisfied_keeps (s : State) : s.keepsContents s.releaseSatisfied :=
  State.keepsContents_of_changesOnly s.releaseSatisfied_changesOnly (by decide) (by decide) (by decide)

theorem State.releaseVolatile_keeps (s : State) : s.keepsContents s.releaseVolatile :=
  State.keepsContents_of_changesOnly s.releaseVolatile_changesOnly (by decide) (by decide) (by decide)

/-! ## The power-fail flush and the completion of a write -/

/-- A write abandoned leaves its record BAD and every other as it was (R163). -/
theorem Store.abandoned_whole {st : Store} {k : Fin 46} {c : RecordContent} (h : st.abandoned[k] = .whole c) :
    st.array[k] = .whole c := by
  unfold Store.abandoned at h
  split at h
  · next w _ =>
    by_cases e : w.record.index = k
    · subst e
      simp at h
    · simpa [Fin.val_inj, e] using h
  · exact h

theorem State.beginReset_keeps (s : State) (kind : ResetKind) (spoiled : Bool) :
    s.keepsContents (s.beginReset kind spoiled) :=
  State.keepsContents_of_idle rfl rfl (fun _ _ h => .inl (Store.abandoned_whole h)) rfl

theorem State.recover_keeps (s : State) : s.keepsContents s.recover := by
  have enqueued : s.keepsContents
      (State.bulkEnqueue { s with store := { s.store with state := .ready, pfwReleased := false } } allRecords) :=
    State.keepsContents_after (State.bulkEnqueue_keeps _ _) (State.keepsContents_of_same rfl rfl rfl rfl)
  exact State.keepsContents_ite (State.keepsContents_after (State.wake_keeps _) enqueued) enqueued

theorem State.flushNext_keeps (s : State) : s.keepsContents s.flushNext := by
  unfold State.flushNext
  split
  · exact State.keepsContents_after (State.startWrite_keeps _ _) (State.keepsContents_of_same rfl rfl rfl rfl)
  · exact State.keepsContents_ite s.recover_keeps s.enterDormant_keeps

theorem State.startFlush_keeps (s : State) : s.keepsContents s.startFlush :=
  State.keepsContents_after (State.flushNext_keeps _) (State.keepsContents_of_same rfl rfl rfl rfl)

theorem State.takePfw_keeps (s : State) : s.keepsContents s.takePfw := by
  unfold State.takePfw
  split
  · exact s.startFlush_keeps
  · exact State.keepsContents_of_same rfl rfl rfl rfl
  · exact s.enterDormant_keeps
  all_goals exact s.keepsContents_refl

theorem State.dropPfw_keeps (s : State) : s.keepsContents s.dropPfw := by
  unfold State.dropPfw
  split
  · exact State.keepsContents_of_same rfl rfl rfl rfl
  · exact State.keepsContents_of_same rfl rfl rfl rfl
  all_goals exact s.keepsContents_refl

theorem State.clearSuspect_keeps (s : State) (r : RecordId) : s.keepsContents (s.clearSuspect r) := by
  cases r with
  | band k => exact State.keepsContents_ite (State.keepsContents_of_same rfl rfl rfl rfl) s.keepsContents_refl
  | settings => exact State.keepsContents_ite (State.keepsContents_of_same rfl rfl rfl rfl) s.keepsContents_refl
  | account i => exact s.keepsContents_refl
  | slot k => exact s.keepsContents_refl

/-- A completion stores what the write in flight carried (R156). -/
theorem State.completeGood_keeps (s : State) (w : Write) (h : s.store.inFlight = some w) :
    s.keepsContents (s.completeGood w) := by
  refine State.keepsContents_after (State.clearSuspect_keeps _ _)
    (State.keepsContents_after (State.releaseSatisfied_keeps _) ?_)
  refine State.keepsContents_of_idle rfl rfl (fun k c e => ?_) rfl
  by_cases same : w.record.index = k
  · subst same
    exact .inr ⟨w, h, by simpa [State.mapWaits] using e⟩
  · exact .inl (by simpa [State.mapWaits, Fin.val_inj, same] using e)

theorem State.raiseEvent_keeps (s : State) (p : AlertPair) (param : Option Byte) :
    s.keepsContents (s.raiseEvent p param) :=
  State.keepsContents_of_same rfl rfl rfl rfl

theorem State.goOffline_keeps (s : State) (r : RecordId) : s.keepsContents (s.goOffline r) :=
  State.keepsContents_after (State.releaseVolatile_keeps _) (State.keepsContents_of_same rfl rfl rfl rfl)

theorem State.firstFault_keeps (s : State) (r : RecordId) : s.keepsContents (s.firstFault r) :=
  State.keepsContents_ite (s.raiseEvent_keeps _ _)
    (State.keepsContents_after (State.keepsContents_append _ r) (s.raiseEvent_keeps _ _))

/-- A fault leaves the record BAD (R159). -/
theorem State.completeFault_keeps (s : State) (w : Write) : s.keepsContents (s.completeFault w) := by
  have bad : s.keepsContents
      (State.mapWaits { s with store := { s.store with array := s.store.array.set w.record.index .bad, inFlight := none
        } }
        (failedWaits w.record)) := by
    refine State.keepsContents_of_idle rfl rfl (fun k c e => .inl ?_) rfl
    by_cases same : w.record.index = k
    · subst same
      simp [State.mapWaits] at e
    · simpa [State.mapWaits, Fin.val_inj, same] using e
  unfold State.completeFault
  dsimp only
  split
  · exact State.keepsContents_after (State.firstFault_keeps _ _) bad
  · exact State.keepsContents_after (State.goOffline_keeps _ _) bad

theorem State.afterWrite_keeps (s : State) (before : Store) : s.keepsContents (s.afterWrite before) := by
  unfold State.afterWrite
  split
  · exact s.beginReset_keeps _ _
  · split
    · exact State.keepsContents_ite (State.keepsContents_ite s.keepsContents_refl s.enterDormant_keeps)
        (State.keepsContents_ite s.enterDormant_keeps s.parkCheck_keeps)
    · exact s.flushNext_keeps
    all_goals
      exact State.keepsContents_ite s.startFlush_keeps
        (State.keepsContents_after (State.parkCheck_keeps _) s.nextWrite_keeps)

theorem State.writeDone_keeps (s : State) (w : Write) (faulted : Bool) (h : s.store.inFlight = some w) :
    s.keepsContents (s.writeDone w faulted) :=
  State.keepsContents_after (State.afterWrite_keeps _ _)
    (State.keepsContents_ite (s.completeFault_keeps w) (s.completeGood_keeps w h))

/-! ## The end of a reset and of a load -/

/-- A loaded account is that of a stored image but for its state, or blank (R24). -/
theorem Store.loadAccount_cases (st : Store) (i : AccountIx) :
    (∃ a, st.stored (.account i) = .whole (.account i a) ∧ (st.loadAccount i).credit = a.credit ∧
      (st.loadAccount i).revRemainder = a.revRemainder) ∨ (st.loadAccount i).inScale := by
  unfold Store.loadAccount
  cases j : (st.stored (.account i)).judgeAccount i with
  | blank => exact .inr (Account.blank_inScale i)
  | bad => exact .inr (Account.inScale_of_same rfl rfl (Account.blank_inScale i))
  | good a =>
    refine .inl ⟨a, (Stored.judgeAccount_good.mp j).1, ?_⟩
    simp only [loadedAccount]
    split <;> exact ⟨rfl, rfl⟩

/-- The account loaded from a record meets the law that the stored image meets. -/
theorem State.loadAccount_meets {s : State} {P : RecordContent → Prop} (law : ContentLaw P) (h : s.contentsMeet P)
    (i : AccountIx) : P (.account i (s.store.loadAccount i)) := by
  rcases s.store.loadAccount_cases i with ⟨a, stored, c, r⟩ | scale
  · exact law.account (h.stored _ _ stored) (Account.inScale_of_same c r)
  · exact law.account (h.account i) fun _ => scale

theorem State.loadAccounts_keeps (s : State) : s.keepsContents s.loadAccounts := by
  refine State.keepsContents_after (State.keepsContents_foldl (fun x i => x.evalThresholds_keeps i) _ _) ?_
  refine State.keepsContents_after (State.keepsContents_foldl
    (fun x i => State.keepsContents_ite x.keepsContents_refl (x.report_keeps _ _ _)) _ _) ?_
  refine fun P law h => ⟨fun i => ?_, h.settings, h.stored, h.inFlight⟩
  fin_cases i <;> exact State.loadAccount_meets law h _

theorem State.reportSuspect_keeps (s : State) (r : RecordId) : s.keepsContents (s.reportSuspect r) :=
  State.keepsContents_of_same rfl rfl rfl rfl

theorem State.loadSettings_keeps (s : State) (k : LoadKind) : s.keepsContents (s.loadSettings k) := by
  have formed : ∀ (v : Settings) (m : Bool),
      (∀ P, ContentLaw P → s.contentsMeet P → P (.settings v)) →
        s.keepsContents { s with settings := v, store := { s.store with settingsSuspect := m } } :=
    fun v m meets P law h => ⟨h.account, meets P law h, h.stored, h.inFlight⟩
  have blank : ∀ P, ContentLaw P → s.contentsMeet P → P (.settings Settings.default) :=
    fun P law h => law.settings h.settings fun _ => Settings.default_ordered
  have reported : ∀ x : State, x.keepsContents (if x.store.settingsSuspect then x.reportSuspect .settings else x) :=
    fun x => State.keepsContents_ite (x.reportSuspect_keeps _) x.keepsContents_refl
  refine State.keepsContents_after (reported _) ?_
  split
  · exact s.keepsContents_refl
  · next v j =>
    exact formed v false fun P law h => h.stored _ _ (Stored.judgeSettings_good.mp j).1
  · exact formed _ _ blank
  · exact formed _ _ blank

theorem State.formBand_keeps (s : State) (k : Fin 16) : s.keepsContents (s.formBand k) := by
  unfold State.formBand
  dsimp only
  split <;> exact State.keepsContents_of_same rfl rfl rfl rfl

theorem State.loadBand_keeps (kind : LoadKind) (s : State) (k : Fin 16) : s.keepsContents (s.loadBand kind k) := by
  have reported : ∀ x : State, x.keepsContents (if x.bands.suspect[k] then x.reportSuspect (.band k) else x) :=
    fun x => State.keepsContents_ite (x.reportSuspect_keeps _) x.keepsContents_refl
  refine State.keepsContents_after (reported _) ?_
  cases kind with
  | cold => exact s.formBand_keeps k
  | failedCheck => exact s.keepsContents_refl

theorem State.settleCounters_keeps (s : State) : s.keepsContents s.settleCounters := by
  unfold State.settleCounters
  split
  · refine State.keepsContents_ite (State.keepsContents_after (State.markRecord_keeps _ _) ?_) s.keepsContents_refl
    exact State.keepsContents_of_store (fun _ => id) (Settings.ordered_of_same rfl rfl rfl rfl) rfl rfl
  · exact s.keepsContents_refl

theorem State.handleOpen_keeps (s : State) : s.keepsContents s.handleOpen :=
  State.keepsContents_after
    (State.keepsContents_foldl
      (fun x _ => State.keepsContents_after (State.hand_keeps _ _) (x.raiseEvent_keeps _ _)) _ _)
    (State.keepsContents_of_same rfl rfl rfl rfl)

theorem State.evalNearFull_keeps (s : State) : s.keepsContents s.evalNearFull :=
  State.keepsContents_of_changesOnly s.evalNearFull_changesOnly (by decide) (by decide) (by decide)

theorem State.reportDamaged_keeps (s : State) (k : Fin 24) : s.keepsContents (s.reportDamaged k) := by
  unfold State.reportDamaged
  split
  · exact State.keepsContents_ite (s.reportSuspect_keeps _) s.keepsContents_refl
  · exact s.keepsContents_refl

theorem State.loadSegments_keeps (s : State) : s.keepsContents s.loadSegments := by
  unfold State.loadSegments
  dsimp only
  refine State.keepsContents_after (State.evalNearFull_keeps _)
    (State.keepsContents_after (State.handleOpen_keeps _) (State.keepsContents_after (State.settleCounters_keeps _) ?_))
  exact State.keepsContents_after (State.keepsContents_foldl State.reportDamaged_keeps _ _)
    (State.keepsContents_of_same rfl rfl rfl rfl)

theorem State.startLoad_keeps (s : State) (k : LoadKind) : s.keepsContents (s.startLoad k) :=
  State.keepsContents_of_same rfl rfl rfl rfl

theorem State.formAll_keeps (s : State) (k : LoadKind) : s.keepsContents (s.formAll k) := by
  unfold State.formAll
  dsimp only
  refine State.keepsContents_after (State.settleTimebase_keeps _)
    (State.keepsContents_after (State.loadSegments_keeps _) ?_)
  refine State.keepsContents_after (State.keepsContents_foldl (State.loadBand_keeps k) _ _) ?_
  exact State.keepsContents_after (State.loadSettings_keeps _ k)
    (State.keepsContents_after (State.loadAccounts_keeps _) (s.startLoad_keeps k))

theorem State.startUp_keeps (s : State) : s.keepsContents s.startUp := by
  have timed : s.keepsContents { s with meter := { s.meter with timer := some periodMs } } :=
    State.keepsContents_of_same rfl rfl rfl rfl
  exact State.keepsContents_ite (State.keepsContents_after (State.takePfw_keeps _) timed) timed

/-- The store READY and the reset record's time taken change no content. -/
theorem State.finishFormed_keeps (s : State) :
    s.keepsContents
      { s with
        store := { s.store with state := .ready }
        time := { s.time with resetRecord := { s.time.resetRecord with deviceTime := s.time.deviceTime } } } :=
  State.keepsContents_of_same rfl rfl rfl rfl

theorem State.finishLoad_keeps (s : State) (k : LoadKind) : s.keepsContents (s.finishLoad k) := by
  unfold State.finishLoad
  dsimp only
  refine State.keepsContents_after (State.startUp_keeps _) (State.keepsContents_after (State.reformCrank_keeps _) ?_)
  refine State.keepsContents_after (State.startIfReady_keeps _) ?_
  exact State.keepsContents_trans (s.formAll_keeps k) (State.finishFormed_keeps _)

theorem State.rewriteAll_keeps (s : State) : s.keepsContents s.rewriteAll :=
  State.keepsContents_after (State.startIfReady_keeps _) (State.keepsContents_of_same rfl rfl rfl rfl)

theorem State.reportObserved_keeps (s : State) : s.keepsContents s.reportObserved :=
  State.keepsContents_foldl (fun x _ => x.report_keeps _ _ _) _ s

theorem State.resumeRetained_keeps (s : State) : s.keepsContents s.resumeRetained := by
  unfold State.resumeRetained
  dsimp only
  refine State.keepsContents_after (State.startUp_keeps _) (State.keepsContents_after (State.rewriteAll_keeps _) ?_)
  refine State.keepsContents_after (State.flagOpen_keeps _ _)
    (State.keepsContents_after (State.resumeQualifier_keeps _) ?_)
  refine State.keepsContents_after (State.reportObserved_keeps _) ?_
  exact State.keepsContents_after (State.report_keeps _ _ _ _) s.settleTimebase_keeps

theorem State.finishReset_keeps (s : State) (r : ResetInProgress) (retentionGood recordGood : Bool) (cycles : Nat)
    (straps : Straps) : s.keepsContents (s.finishReset r retentionGood recordGood cycles straps) := by
  have resumed : ∀ kind lost at_, s.keepsContents
      (((s.leaveReset cycles straps).recordReset kind lost recordGood at_).resumeRetained) := fun kind lost at_ =>
    State.keepsContents_after (State.resumeRetained_keeps _) (State.keepsContents_of_same rfl rfl rfl rfl)
  unfold State.finishReset
  dsimp only
  split
  · exact State.keepsContents_of_same rfl rfl rfl rfl
  all_goals exact State.keepsContents_ite (resumed _ _ _) (State.keepsContents_of_same rfl rfl rfl rfl)

/-! ## Requests -/

/-- The state a completion carries. -/
def Answer.state : Answer → State
  | .atOnce s _ _ => s
  | .deferred s _ _ => s
  | .resetting s => s

@[simp] theorem Answer.state_atOnce (s : State) (o : ReqOutcome) (payload : List Byte) :
    (Answer.atOnce s o payload).state = s := rfl

@[simp] theorem Answer.state_refusal (s : State) (o : ReqOutcome) : (Answer.refusal s o).state = s := rfl

@[simp] theorem Answer.state_durable (s : State) (records : List RecordId) (payload : List Byte) :
    (Answer.durable s records payload).state = s := by
  unfold Answer.durable
  split <;> rfl

theorem Answer.conclude_keeps (slot : SlotIx) (kind : Byte) (ops : List Byte) (a : Answer) :
    a.state.keepsContents (a.conclude slot kind ops) := by
  cases a with
  | atOnce s o payload => exact s.offer_keeps _ _ _ _
  | deferred s waits payload => exact s.setInFlight_keeps _ _
  | resetting s => exact s.offer_keeps _ _ _ _

theorem State.handleRead_keeps (s : State) (slot : SlotIx) (r : Region) (n : Nat) :
    s.keepsContents (s.handleRead slot r n).state := by
  unfold State.handleRead
  split <;> exact State.keepsContents_of_same rfl rfl rfl rfl

theorem State.handleNext_keeps (s : State) (slot : SlotIx) : s.keepsContents (s.handleNext slot).state := by
  unfold State.handleNext
  split
  · exact s.keepsContents_refl
  · split
    · exact State.keepsContents_of_same rfl rfl rfl rfl
    · exact s.keepsContents_refl

theorem State.openIn_keeps (s : State) (slot : Fin 24) (renter : List Byte) (tariff : Byte) :
    s.keepsContents (s.openIn slot renter tariff).state := by
  unfold State.openIn
  dsimp only
  rw [Answer.state_durable]
  refine State.keepsContents_after (State.hand_keeps _ _) (State.keepsContents_after (State.hand_keeps _ _) ?_)
  exact State.keepsContents_of_store (fun _ => id) (Settings.ordered_of_same rfl rfl rfl rfl) rfl rfl

theorem State.reclaim_keeps (s : State) (e : LogEntry) : s.keepsContents (s.reclaim e) :=
  State.keepsContents_ite (State.keepsContents_of_same rfl rfl rfl rfl) (State.keepsContents_of_same rfl rfl rfl rfl)

theorem State.handleOpenRental_keeps (s : State) (renter : List Byte) (tariff : Byte) :
    s.keepsContents (s.handleOpenRental renter tariff).state := by
  unfold State.handleOpenRental
  split
  · exact s.keepsContents_refl
  · split
    · exact s.openIn_keeps _ _ _
    · split
      · exact State.keepsContents_after (State.openIn_keeps _ _ _ _) (s.reclaim_keeps _)
      · exact s.keepsContents_refl

/-- A segment changed in the log, LOG_NEAR_FULL evaluated and the slot record handed. -/
theorem State.modifySegment_hand_keeps (s : State) (slot : Fin 24) (f : Segment → Segment) :
    s.keepsContents ((s.modifySegment slot f).evalNearFull.hand (.slot slot)) :=
  State.keepsContents_after (State.hand_keeps _ _)
    (State.keepsContents_after (State.evalNearFull_keeps _) (State.keepsContents_of_same rfl rfl rfl rfl))

theorem State.handleCloseRental_keeps (s : State) : s.keepsContents s.handleCloseRental.state := by
  unfold State.handleCloseRental
  split
  · exact s.keepsContents_refl
  · rw [Answer.state_durable]
    exact s.modifySegment_hand_keeps _ _

theorem State.handleMarkExported_keeps (s : State) (number : Nat) :
    s.keepsContents (s.handleMarkExported number).state := by
  unfold State.handleMarkExported
  split
  · exact s.keepsContents_refl
  · split
    case h_4 =>
      rw [Answer.state_durable]
      exact s.modifySegment_hand_keeps _ _
    all_goals exact s.keepsContents_refl

theorem State.handleAckAlert_keeps (s : State) (source cause : Nat) :
    s.keepsContents (s.handleAckAlert source cause).state := by
  unfold State.handleAckAlert
  split
  · dsimp only
    split
    · split
      · exact s.keepsContents_refl
      · exact State.keepsContents_of_same rfl rfl rfl rfl
    · exact s.keepsContents_refl
  · exact s.keepsContents_refl

theorem State.handleServiceReset_keeps (s : State) (account : Nat) :
    s.keepsContents (s.handleServiceReset account).state := by
  unfold State.handleServiceReset
  split
  · exact s.keepsContents_refl
  · split
    · dsimp only
      rw [Answer.state_durable]
      refine State.keepsContents_after (State.hand_keeps _ _) (State.keepsContents_after (State.flagOpen_keeps _ _) ?_)
      exact State.keepsContents_after (State.evalThresholds_keeps _ _)
        (s.setAccount_keeps _ _ (Account.serviced_inScale _))
    · exact s.keepsContents_refl

theorem State.setRestore_keeps (s : State) (b : Option RestoreBuffer) : s.keepsContents (s.setRestore b) :=
  State.keepsContents_of_same rfl rfl rfl rfl

theorem State.handleRestoreField_keeps (s : State) (account field value : Nat) :
    s.keepsContents (s.handleRestoreField account field value).state := by
  unfold State.handleRestoreField
  split
  · exact s.keepsContents_refl
  · split
    · split
      · exact s.keepsContents_refl
      · rw [Answer.state_atOnce]
        exact State.keepsContents_trans (s.setRestore_keeps _)
          (State.changeAccount_keeps _ _ fun _ => Account.inScale_of_same rfl rfl)
    · exact s.keepsContents_refl

theorem State.raiseSnapshot_keeps (s : State) (increase : Tracked) : s.keepsContents (s.raiseSnapshot increase) := by
  unfold State.raiseSnapshot
  split
  · exact s.keepsContents_refl
  · exact State.keepsContents_after (State.markRecord_keeps _ _) (State.keepsContents_of_same rfl rfl rfl rfl)

theorem State.handleRestoreDone_keeps (s : State) (account : Nat) :
    s.keepsContents (s.handleRestoreDone account).state := by
  unfold State.handleRestoreDone
  split
  · exact s.keepsContents_refl
  · split
    · exact s.keepsContents_refl
    · next i _ _ b _ =>
      dsimp only
      rw [Answer.state_durable]
      have restored : s.keepsContents
          ((s.setAccount i ((s.account i).restored b.fields)).report (accountPair i .recordSuspect) false none) :=
        State.keepsContents_after (State.report_keeps _ _ _ _) (s.setAccount_keeps i _ (Account.restored_inScale _))
      refine State.keepsContents_after (State.hand_keeps _ _) ?_
      refine State.keepsContents_after (State.setRestore_keeps _ _)
        (State.keepsContents_after (State.raiseSnapshot_keeps _ _) ?_)
      exact State.keepsContents_after (State.evalThresholds_keeps _ _) restored

theorem State.putBand_keeps (s : State) (k : Fin 16) (e : BandEntry) : s.keepsContents (s.putBand k e).state := by
  unfold State.putBand
  rw [Answer.state_durable]
  exact State.keepsContents_after (State.hand_keeps _ _) (State.keepsContents_of_same rfl rfl rfl rfl)

theorem State.editBand_keeps (s : State) (k : Fin 16) (apply stage : BandEntry → BandEntry) :
    s.keepsContents (s.editBand k apply stage).state := by
  unfold State.editBand
  dsimp only
  split
  · exact s.keepsContents_refl
  · exact s.putBand_keeps _ _

theorem State.handleBandPrimary_keeps (s : State) (entry metric : Nat) (low high : Int) :
    s.keepsContents (s.handleBandPrimary entry metric low high).state := by
  unfold State.handleBandPrimary
  split
  · exact s.editBand_keeps _ _ _
  · exact s.keepsContents_refl

theorem State.handleBandSecondary_keeps (s : State) (entry metric : Nat) (low high : Int) :
    s.keepsContents (s.handleBandSecondary entry metric low high).state := by
  unfold State.handleBandSecondary
  split
  · exact s.editBand_keeps _ _ _
  · exact s.keepsContents_refl

theorem State.handleBandWeight_keeps (s : State) (entry account cls bin weight enabled : Nat) :
    s.keepsContents (s.handleBandWeight entry account cls bin weight enabled).state := by
  unfold State.handleBandWeight
  split
  · exact s.editBand_keeps _ _ _
  · exact s.keepsContents_refl

theorem State.handleBandLock_keeps (s : State) (entry : Nat) : s.keepsContents (s.handleBandLock entry).state := by
  unfold State.handleBandLock
  split
  · exact s.keepsContents_refl
  · dsimp only
    split
    · exact s.keepsContents_refl
    · split
      · exact s.putBand_keeps _ _
      · exact s.keepsContents_refl

theorem State.applySetting_keeps (s : State) (id : Nat) : s.keepsContents (s.applySetting id) :=
  State.keepsContents_ite s.reclassifyAll_keeps
    (State.keepsContents_ite s.reformLatch_keeps
      (State.keepsContents_ite (State.keepsContents_of_same rfl rfl rfl rfl) s.keepsContents_refl))

theorem State.handleWriteSetting_keeps (s : State) (id account raw : Nat) :
    s.keepsContents (s.handleWriteSetting id account raw).state := by
  unfold State.handleWriteSetting
  split
  · split
    · exact s.keepsContents_refl
    · next i _ =>
      unfold State.writeAccount
      split
      · exact s.keepsContents_refl
      · next a written =>
        have set : s.keepsContents (s.setAccount i a) := s.setAccount_keeps i a (Account.writeSetting_inScale written)
        dsimp only
        rw [Answer.state_durable]
        exact State.keepsContents_after (State.hand_keeps _ _)
          (State.keepsContents_ite (State.keepsContents_after (State.evalThresholds_keeps _ _) set) set)
  · unfold State.writeDevice
    split
    · exact s.keepsContents_refl
    · next v written =>
      rw [Answer.state_durable]
      refine State.keepsContents_after (State.hand_keeps _ _)
        (State.keepsContents_after (State.applySetting_keeps _ _) ?_)
      exact State.keepsContents_of_store (fun _ h => h) (Settings.write_ordered written) rfl rfl

theorem State.handleCheckpoint_keeps (s : State) : s.keepsContents s.handleCheckpoint.state := by
  unfold State.handleCheckpoint
  split
  · exact s.keepsContents_refl
  · split <;> exact s.keepsContents_refl
  all_goals
    split
    · exact s.keepsContents_refl
    · exact s.bulkEnqueue_keeps _

theorem State.handleResetDevice_keeps (s : State) : s.keepsContents s.handleResetDevice.state := by
  unfold State.handleResetDevice
  split
  · exact s.keepsContents_refl
  · exact State.keepsContents_of_same rfl rfl rfl rfl

theorem State.handle_keeps (s : State) (slot : SlotIx) (q : Request) : s.keepsContents (s.handle slot q).state := by
  cases q with
  | status => exact s.keepsContents_refl
  | read r n => exact s.handleRead_keeps slot r n
  | next => exact s.handleNext_keeps slot
  | openRental renter tariff => exact s.handleOpenRental_keeps renter tariff
  | closeRental => exact s.handleCloseRental_keeps
  | markExported number => exact s.handleMarkExported_keeps number
  | ackAlert source cause => exact s.handleAckAlert_keeps source cause
  | serviceReset account => exact s.handleServiceReset_keeps account
  | restoreField account field value => exact s.handleRestoreField_keeps account field value
  | restoreDone account => exact s.handleRestoreDone_keeps account
  | bandPrimary entry metric low high => exact s.handleBandPrimary_keeps entry metric low high
  | bandSecondary entry metric low high => exact s.handleBandSecondary_keeps entry metric low high
  | bandWeight entry account cls bin weight enabled =>
    exact s.handleBandWeight_keeps entry account cls bin weight enabled
  | bandLock entry => exact s.handleBandLock_keeps entry
  | writeSetting id account raw => exact s.handleWriteSetting_keeps id account raw
  | checkpoint => exact s.handleCheckpoint_keeps
  | resetDevice => exact s.handleResetDevice_keeps

theorem State.decideRequest_keeps (s : State) (slot : SlotIx) (kind : Byte) (ops : List Byte) :
    s.keepsContents (s.decideRequest slot kind ops).state := by
  unfold State.decideRequest
  split
  · exact s.keepsContents_refl
  · split
    · exact s.keepsContents_refl
    · split
      · exact s.keepsContents_refl
      · exact s.handle_keeps slot _

theorem State.takeRequest_keeps (s : State) (slot : SlotIx) (kind : Byte) (ops : List Byte) :
    s.keepsContents (s.takeRequest slot kind ops) := by
  unfold State.takeRequest
  split
  · exact State.keepsContents_ite (State.keepsContents_of_same rfl rfl rfl rfl) s.restartLinger_keeps
  · exact State.keepsContents_after (Answer.conclude_keeps slot kind ops _)
      (State.keepsContents_after (State.decideRequest_keeps _ slot kind ops) s.restartLinger_keeps)

theorem State.takeRequestData_keeps (s : State) (slot : SlotIx) (data : List Byte) :
    s.keepsContents (s.takeRequestData slot data) := by
  cases data with
  | nil => exact s.takeRequest_keeps slot _ _
  | cons kind ops => exact s.takeRequest_keeps slot kind ops

theorem State.requestFrame_keeps (s : State) (slot : SlotIx) (kind : Byte) (ops : List Byte) :
    s.keepsContents (s.requestFrame slot kind ops) :=
  s.hearFrame_keeps fun x => x.takeRequest_keeps slot kind ops

theorem State.observationFrame_keeps (s : State) (id : CanId) (data : List Byte) :
    s.keepsContents (s.observationFrame id data) := by
  refine s.hearFrame_keeps fun x => ?_
  unfold State.routeFrame
  split
  · exact x.takeRequestData_keeps _ data
  · exact State.keepsContents_after (State.decode_keeps _ _ data) x.restartLinger_keeps
  · exact x.keepsContents_refl

/-! ## Commands and time -/

theorem State.checkpointEnqueue_keeps (s : State) (rs : List RecordId) : s.keepsContents (s.checkpointEnqueue rs) := by
  unfold State.checkpointEnqueue
  split
  · exact s.bulkEnqueue_keeps rs
  · exact s.bulkEnqueue_keeps rs
  all_goals exact s.keepsContents_refl

theorem State.coldStart_keeps (s : State) (pending : List Instr) (lines : Lines) (straps : Straps) (v : Selection) :
    s.keepsContents (State.coldStart pending lines s.store.abandoned straps v) := by
  refine fun P law h => ⟨fun i => law.account (h.account i) fun _ => ?_, ?_, ?_, ?_⟩
  · have blank : (State.coldStart pending lines s.store.abandoned straps v).account i = Account.blank i := by
      fin_cases i <;> rfl
    rw [blank]
    exact Account.blank_inScale i
  · exact law.settings h.settings fun _ => Settings.default_ordered
  · exact fun k c e => h.stored k c (Store.abandoned_whole e)
  · rintro w ⟨⟩

theorem State.givePlace_keeps (s : State) : s.keepsContents s.givePlace := by
  unfold State.givePlace
  split
  · split
    · exact State.keepsContents_of_same rfl rfl rfl rfl
    · exact s.keepsContents_refl
  · exact s.keepsContents_refl

theorem State.commandReset_keeps (s : State) : s.keepsContents s.commandReset := by
  unfold State.commandReset
  split
  · exact s.beginReset_keeps _ _
  · exact State.keepsContents_of_same rfl rfl rfl rfl

theorem State.sendFrame_keeps (s : State) (f : Frame) (rest : List Frame) : s.keepsContents (s.sendFrame f rest) := by
  have given : s.keepsContents (State.givePlace { s with port := { s.port with tx := rest } }) :=
    State.keepsContents_after (State.givePlace_keeps _) (State.keepsContents_of_same rfl rfl rfl rfl)
  exact State.keepsContents_ite (State.keepsContents_after (State.commandReset_keeps _) given) given

theorem State.tick_keeps (s : State) : s.keepsContents s.tick :=
  State.keepsContents_ite s.keepsContents_refl
    (State.keepsContents_ite (State.keepsContents_of_same rfl rfl rfl rfl)
      (State.keepsContents_ite (State.keepsContents_of_same rfl rfl rfl rfl)
        (State.keepsContents_of_same rfl rfl rfl rfl)))

/-- The state a command answers keeps the contents. -/
theorem exec_keepsContents (c : Instr) {s t : State} (h : exec c s = .next t) : s.keepsContents t := by
  have of_request : ∀ {k kind ops}, requestOf c = some (k, kind, ops) → s.keepsContents t := by
    intro k kind ops r
    rw [exec_request r] at h
    cases h
    exact s.requestFrame_keeps k kind ops
  have same : s.keepsContents s := s.keepsContents_refl
  cases c
  case unknownRequest slot data => cases h; exact s.hearFrame_keeps fun x => x.takeRequestData_keeps slot data
  case engineState id data => cases h; exact s.observationFrame_keeps id data
  case drivelineState id data => cases h; exact s.observationFrame_keeps id data
  case drivelineEvent id data => cases h; exact s.observationFrame_keeps id data
  case wakeFrame => cases h; exact s.hearFrame_keeps fun x => x.keepsContents_refl
  case signalHeld n => cases h; exact State.keepsContents_ite (s.passHeld_keeps n) same
  case signalUnknown n => cases h; exact State.keepsContents_ite (s.passUnknown_keeps n _) same
  case meteringExpiry =>
    cases h
    exact State.keepsContents_ite
      (State.keepsContents_after (State.meteringPass_keeps _) (State.keepsContents_of_same rfl rfl rfl rfl)) same
  case crankChange asserted =>
    cases h
    exact State.keepsContents_ite same
      (State.keepsContents_ite (s.crankLine_keeps asserted) (State.keepsContents_of_same rfl rfl rfl rfl))
  case crankWindowExpiry => cases h; exact State.keepsContents_ite s.windowExpiry_keeps same
  case confirmExpiry => cases h; exact State.keepsContents_ite s.confirmDone_keeps same
  case stopTimerExpiry => cases h; exact State.keepsContents_ite s.stopDone_keeps same
  case ignAsserted =>
    cases h
    have lit : s.keepsContents { s with lines := { s.lines with ign := true } } :=
      State.keepsContents_of_same rfl rfl rfl rfl
    exact State.keepsContents_ite same
      (State.keepsContents_ite (State.keepsContents_after (State.wake_keeps _) lit) lit)
  case keyOff =>
    cases h
    have off : s.keepsContents { s with lines := { s.lines with ign := false } } :=
      State.keepsContents_of_same rfl rfl rfl rfl
    refine State.keepsContents_ite (State.keepsContents_ite ?_ off) same
    exact State.keepsContents_after (State.restartLinger_keeps _)
      (State.keepsContents_after (State.checkpointEnqueue_keeps _ _) off)
  case periodicCheckpoint =>
    cases h
    exact State.keepsContents_ite
      (State.keepsContents_after (State.checkpointEnqueue_keeps _ _) (State.keepsContents_of_same rfl rfl rfl rfl)) same
  case lingerExpiry =>
    cases h
    split
    · exact State.keepsContents_after (State.parkCheck_keeps _) (State.keepsContents_of_same rfl rfl rfl rfl)
    · exact same
  case writeCompletion faulted =>
    cases h
    split
    · next w flying => exact s.writeDone_keeps w faulted flying
    · exact same
  case pfwAsserted =>
    cases h
    have lit : s.keepsContents { s with lines := { s.lines with pfw := true } } :=
      State.keepsContents_of_same rfl rfl rfl rfl
    exact State.keepsContents_ite same
      (State.keepsContents_ite (State.keepsContents_after (State.takePfw_keeps _) lit) lit)
  case pfwReleased =>
    cases h
    have off : s.keepsContents { s with lines := { s.lines with pfw := false } } :=
      State.keepsContents_of_same rfl rfl rfl rfl
    refine State.keepsContents_ite (State.keepsContents_ite off (State.keepsContents_ite ?_ ?_)) same
    · exact State.keepsContents_after (State.beginReset_keeps _ _ _) off
    · exact State.keepsContents_after (State.dropPfw_keeps _) off
  case monitorWindow cycles => cases h; exact State.keepsContents_ite (s.windowEnd_keeps cycles) same
  case deviceTimeSecond =>
    cases h
    exact State.keepsContents_ite (State.keepsContents_of_same rfl rfl rfl rfl) same
  case coldReset straps cycles => cases h; exact s.coldStart_keeps _ _ _ _
  case warmReset dip => cases h; exact s.beginReset_keeps _ _
  case resetEnd retentionGood recordGood cycles straps =>
    cases h
    split
    · exact s.finishReset_keeps _ _ _ _ _
    · exact same
  case loadEnd =>
    cases h
    split
    · exact s.finishLoad_keeps _
    · exact same
  case transmissionComplete =>
    cases h
    refine State.keepsContents_ite ?_ same
    split
    · exact s.sendFrame_keeps _ _
    · exact same
  case busOff =>
    cases h
    have dropped : s.keepsContents { s.dropRequests with port := { tx := [], state := .busOff } } :=
      State.keepsContents_of_same rfl rfl rfl rfl
    refine State.keepsContents_ite (State.keepsContents_ite ?_ dropped) same
    exact State.keepsContents_after (State.parkCheck_keeps _) (State.keepsContents_of_same rfl rfl rfl rfl)
  case busOffRecovery =>
    cases h
    exact State.keepsContents_ite (State.keepsContents_of_same rfl rfl rfl rfl) same
  all_goals exact of_request rfl

/-- Every step keeps the contents: the command at the front of the queue, or a millisecond. -/
theorem step_keepsContents {s t : State} (h : step s = .next t) : s.keepsContents t := by
  rcases Laws.step_cases h with ⟨c, rest, -, ran⟩ | ⟨-, rfl⟩
  · exact State.keepsContents_trans (t := { s with pending := rest }) (State.keepsContents_of_same rfl rfl rfl rfl)
      (exec_keepsContents c ran)
  · exact s.tick_keeps

/-- Settles O7: both facts are laws of the record contents, and every step keeps the contents. -/
theorem storedValuesStayInRange : Obligations.StoredValuesStayInRange := by
  refine ⟨fun s t h run => ?_, fun s t h run => ?_⟩
  · exact t.remaindersInScale_iff.mpr
      (step_keepsContents run _ RecordContent.inScale_law (s.remaindersInScale_iff.mp h))
  · exact t.settingsOrdered_iff.mpr
      (step_keepsContents run _ RecordContent.ordered_law (s.settingsOrdered_iff.mp h))

end Sys2Proof.Machine
end

section
/-! PROOFS. The facts of the state after reset (O5), and credits by their sum (O12). -/

namespace Sys2Proof.Machine

/-! ## The state after reset (O5) -/

theorem State.reset_account (i : AccountIx) : State.reset.account i = Account.blank i := by
  fin_cases i <;> rfl

/-- The array of a new part holds no image. -/
theorem State.reset_array (k : Fin 46) : State.reset.store.array[k] = .blank := by
  simp [State.reset, State.coldStart]

theorem State.reset_inFlight : State.reset.store.inFlight = none := rfl

theorem State.reset_remaindersInScale : State.reset.remaindersInScale := by
  refine ⟨fun i => ?_, fun k c h => ?_, fun w h => ?_⟩
  · rw [State.reset_account]
    exact Account.blank_inScale i
  · rw [State.reset_array] at h
    cases h
  · rw [State.reset_inFlight] at h
    cases h

theorem State.reset_settingsOrdered : State.reset.settingsOrdered := by
  refine ⟨Settings.default_ordered, fun k c h => ?_, fun w h => ?_⟩
  · rw [State.reset_array] at h
    cases h
  · rw [State.reset_inFlight] at h
    cases h

/-- Settles O5: the accounts and settings are blank, and every list of the reset state is empty. -/
theorem resetMeetsEveryFact : Obligations.ResetMeetsEveryFact := by
  refine ⟨Nat.zero_le _, Nat.zero_le _, State.reset_remaindersInScale, State.reset_settingsOrdered, Nat.zero_le _,
    List.nodup_nil, List.nodup_nil, List.nodup_nil, rfl, ?_⟩
  exact ⟨nofun, fun _ => ⟨rfl, rfl⟩, nofun, fun _ => rfl⟩

/-! ## Credits (O12) -/

theorem addTo_addTo (c m n : Nat) : addTo (addTo c m) n = addTo c (m + n) := by
  unfold addTo
  omega

/-- Two additions lose a part exactly when their sum does. -/
theorem lost_addTo (c m n : Nat) : (lost c m || lost (addTo c m) n) = lost c (m + n) := by
  unfold lost addTo
  rw [Bool.eq_iff_iff]
  simp only [Bool.or_eq_true, decide_eq_true_eq]
  omega

/-- The whole units two successive credits carry are those of their sum. -/
theorem Account.increment_addCredit (a : Account) (m n : Nat) :
    a.increment m + (a.addCredit m).increment n = a.increment (m + n) := by
  simp only [Account.increment, Account.addCredit, creditScale]
  omega

/-- Two credits in succession are one credit of their sum. -/
theorem Account.addCredit_addCredit (a : Account) (m n : Nat) :
    (a.addCredit m).addCredit n = a.addCredit (m + n) := by
  have units := a.increment_addCredit m n
  have wear : addTo (a.addCredit m).wear ((a.addCredit m).increment n) = addTo a.wear (a.increment (m + n)) := by
    rw [← units]
    exact addTo_addTo _ _ _
  have ssWear : addTo (a.addCredit m).ssWear ((a.addCredit m).increment n) = addTo a.ssWear (a.increment (m + n)) := by
    rw [← units]
    exact addTo_addTo _ _ _
  have credit : ((a.addCredit m).credit + n) % creditScale = (a.credit + (m + n)) % creditScale := by
    simp only [Account.addCredit, creditScale]
    omega
  have saturated : ((a.addCredit m).saturated || lost (a.addCredit m).wear ((a.addCredit m).increment n) ||
      lost (a.addCredit m).ssWear ((a.addCredit m).increment n)) =
        (a.saturated || lost a.wear (a.increment (m + n)) || lost a.ssWear (a.increment (m + n))) := by
    rw [← units, ← lost_addTo, ← lost_addTo]
    simp only [Account.addCredit]
    ac_rfl
  show ({ a.addCredit m with credit := _, wear := _, ssWear := _, saturated := _ } : Account) = _
  rw [wear, ssWear, credit, saturated]
  rfl

/-- k credits of n, k at least 1, are one credit of k × n. -/
theorem Account.iterate_addCredit (a : Account) (n k : Nat) :
    (fun x : Account => x.addCredit n)^[k + 1] a = a.addCredit ((k + 1) * n) := by
  induction k with
  | zero => simp
  | succ k ih =>
    rw [Function.iterate_succ_apply', ih, Account.addCredit_addCredit]
    congr 1
    ring

/-- Settles O12: two credits are one of their sum, whatever their order, and k of them one of k × N. -/
theorem creditsAddInAnyOrder : Obligations.CreditsAddInAnyOrder := by
  refine ⟨fun a m n => ?_, fun a n k credit wear ssWear => ?_⟩
  · rw [Account.addCredit_addCredit, Account.addCredit_addCredit, Nat.add_comm]
  · cases k with
    | zero =>
      simp only [Function.iterate_zero, id_eq, Nat.zero_mul]
      omega
    | succ k =>
      rw [Account.iterate_addCredit]
      exact ⟨rfl, rfl, rfl⟩

end Sys2Proof.Machine
end

section
/-! PROOFS. Requests of the depot terminal answered at once: an operand out of its range (O21) and RESTORE FIELD (O27). -/

namespace Sys2Proof.Machine

/-! ## What the depot terminal's requests reach -/

/-- The depot terminal has every right (R168). -/
theorem Request.permitted_terminal (q : Request) : q.permitted 3 = true := by
  cases q with
  | read r n => cases r <;> rfl
  | _ => rfl

/-- At rest a well-formed request of the depot terminal reaches its owning block (R167). -/
theorem State.decideRequest_terminal {s : State} {kind : Byte} {ops : List Byte} {q : Request}
    (parsed : parseRequest kind.toNat ops = some q) (rest : s.atRest = true) :
    s.decideRequest 3 kind ops = s.handle 3 q := by
  simp [State.decideRequest, parsed, q.permitted_terminal, rest]

/-- What a request of the depot terminal becomes where the part hears it at rest. -/
theorem exec_terminal {c : Instr} {s : State} {kind : Byte} {ops : List Byte} {q : Request}
    (request : requestOf c = some (3, kind, ops)) (parsed : parseRequest kind.toNat ops = some q) (hears : s.hears 3)
    (rest : s.atRest = true) :
    exec c s = .next ((s.restartLinger.handle 3 q).conclude 3 kind ops) := by
  have resting : s.restartLinger.atRest = true := rest
  rw [exec_request request, s.requestFrame_hears 3 kind ops hears, State.decideRequest_terminal parsed resting]

/-- A refusal by the owning block adds its response and changes nothing else. -/
theorem exec_refused {c : Instr} {s : State} {kind : Byte} {ops : List Byte} {q : Request} {o : ReqOutcome}
    (request : requestOf c = some (3, kind, ops)) (parsed : parseRequest kind.toNat ops = some q) (hears : s.hears 3)
    (rest : s.atRest = true) (room : s.port.hasRoom = true)
    (refused : s.restartLinger.handle 3 q = .refusal s.restartLinger o) :
    exec c s = .next (s.responded 3 kind o []) := by
  have resting : s.restartLinger.atRest = true := rest
  rw [exec_request request, s.requestFrame_atOnce 3 kind ops o [] hears room]
  rw [State.decideRequest_terminal parsed resting, refused]
  rfl

/-! ## Operand codes -/

theorem accountOf_eq_none {n : Nat} (h : 5 ≤ n) : accountOf n = none := dif_neg (by omega)

theorem accountOf_val (i : AccountIx) : accountOf i.val = some i := dif_pos i.isLt

theorem val_of_accountOf {n : Nat} {i : AccountIx} (h : accountOf n = some i) : n = i.val := by
  unfold accountOf at h
  split at h <;> cases h
  rfl

theorem bandOf_eq_none {n : Nat} (h : 16 ≤ n) : bandOf n = none := dif_neg (by omega)

theorem metricOfCode_eq_none {n : Nat} (h : 7 ≤ n) : metricOfCode n = none := by
  unfold metricOfCode
  split <;> first | omega | rfl

theorem secondaryOf_eq_none {n : Nat} (low high : Int) (h : 7 ≤ n) (present : n ≠ 255) :
    secondaryOf n low high = none := by
  simp [secondaryOf, present, metricOfCode_eq_none h]

theorem bandClassOf_eq_none {n : Nat} (h : 2 ≤ n) : bandClassOf n = none := by
  unfold bandClassOf
  split <;> first | omega | rfl

theorem weightPartOf_eq_none {account cls bin : Nat} (weight enabled : Nat)
    (h : 5 ≤ account ∨ 2 ≤ cls ∨ 7 ≤ bin) : weightPartOf account cls bin weight enabled = none := by
  unfold weightPartOf
  split
  · next a c owner kind =>
    refine dif_neg fun small => ?_
    rcases h with h | h | h
    · rw [accountOf_eq_none h] at owner
      cases owner
    · rw [bandClassOf_eq_none h] at kind
      cases kind
    · omega
  · rfl

/-- The operand byte of an account index spells it. -/
theorem accountOf_byteOf (i : AccountIx) : accountOf (byteOf i.val).toNat = some i := by
  revert i
  decide

/-! ## An operand out of its range (O21) -/

theorem State.handleRestoreField_outOfRange (s : State) {account field : Nat} (value : Nat)
    (h : 5 ≤ account ∨ ∀ i : AccountIx, account = i.val → restorable i field = false) :
    s.handleRestoreField account field value = .refusal s .badRequest := by
  unfold State.handleRestoreField
  cases owner : accountOf account with
  | none => rfl
  | some i =>
    rcases h with h | h
    · rw [accountOf_eq_none h] at owner
      cases owner
    · simp [h i (val_of_accountOf owner)]

theorem State.handleBandPrimary_outOfRange (s : State) {entry metric : Nat} (low high : Int)
    (h : 16 ≤ entry ∨ 7 ≤ metric) : s.handleBandPrimary entry metric low high = .refusal s .badRequest := by
  unfold State.handleBandPrimary
  rcases h with h | h
  · rw [bandOf_eq_none h]
  · rw [metricOfCode_eq_none h]
    cases bandOf entry <;> rfl

theorem State.handleBandSecondary_outOfRange (s : State) {entry metric : Nat} (low high : Int)
    (h : 16 ≤ entry ∨ (7 ≤ metric ∧ metric ≠ 255)) :
    s.handleBandSecondary entry metric low high = .refusal s .badRequest := by
  unfold State.handleBandSecondary
  rcases h with h | ⟨h, present⟩
  · rw [bandOf_eq_none h]
  · rw [secondaryOf_eq_none low high h present]
    cases bandOf entry <;> rfl

theorem State.handleBandWeight_outOfRange (s : State) {entry account cls bin : Nat} (weight enabled : Nat)
    (h : 16 ≤ entry ∨ 5 ≤ account ∨ 2 ≤ cls ∨ 7 ≤ bin) :
    s.handleBandWeight entry account cls bin weight enabled = .refusal s .badRequest := by
  unfold State.handleBandWeight
  rcases h with h | h
  · rw [bandOf_eq_none h]
  · rw [weightPartOf_eq_none weight enabled h]
    cases bandOf entry <;> rfl

/-- Settles O21: each owning block refuses an operand whose code names nothing, and a refusal changes nothing. -/
theorem outOfRangeOperandIsBad : Obligations.OutOfRangeOperandIsBad := by
  intro s a b rest hears resting room
  refine ⟨fun high => ⟨?_, ?_⟩, fun v3 v2 v1 v0 high => ?_, fun high => ⟨?_, ?_⟩,
    fun m l1 l0 h1 h0 high => ⟨?_, fun present => ?_⟩, fun i c n w1 w0 high => ?_⟩
  · refine exec_refused (q := .serviceReset a.toNat) rfl rfl hears resting room ?_
    simp [State.handle, State.handleServiceReset, accountOf_eq_none high]
  · refine exec_refused (q := .restoreDone a.toNat) rfl rfl hears resting room ?_
    simp [State.handle, State.handleRestoreDone, accountOf_eq_none high]
  · exact exec_refused (q := .restoreField a.toNat b.toNat (nat32 v3 v2 v1 v0)) rfl rfl hears resting room
      (State.handleRestoreField_outOfRange _ _ high)
  · refine exec_refused (q := .bandLock a.toNat) rfl rfl hears resting room ?_
    simp [State.handle, State.handleBandLock, bandOf_eq_none high]
  · exact exec_refused (q := .bandSecondary a.toNat 255 0 0) rfl rfl hears resting room
      (State.handleBandSecondary_outOfRange _ _ _ (.inl high))
  · exact exec_refused (q := .bandPrimary a.toNat m.toNat (int16 l1 l0) (int16 h1 h0)) rfl rfl hears resting room
      (State.handleBandPrimary_outOfRange _ _ _ high)
  · refine exec_refused (q := .bandSecondary a.toNat m.toNat (int16 l1 l0) (int16 h1 h0)) rfl ?_ hears resting room
      (State.handleBandSecondary_outOfRange _ _ _ (high.imp_right fun h => ⟨h, present⟩))
    simp [parseRequest, parseBandSecondary, present]
  · exact exec_refused (q := .bandWeight a.toNat i.toNat c.toNat n.toNat (nat16 w1 w0) b.toNat) rfl rfl hears resting
      room (State.handleBandWeight_outOfRange _ _ _ high)

/-! ## RESTORE FIELD (O27) -/

/-- The value entered stands in the buffer, and no other value of its field does (R19). -/
theorem enterField_fields (b : Option RestoreBuffer) (i : AccountIx) (field value : Nat) :
    (field, restoreValue field value) ∈ (enterField b i field value).fields ∧
      ∀ x ∈ (enterField b i field value).fields, x.1 = field → x.2 = restoreValue field value := by
  constructor
  · simp [enterField]
  · intro x m same
    simp only [enterField, List.mem_append, List.mem_filter, List.mem_singleton] at m
    rcases m with ⟨-, other⟩ | rfl
    · simp [same] at other
    · rfl

/-- What RESTORE FIELD leaves of an account that is not NORMAL: the field in the buffer, the account RESTORING (R19). -/
def State.fieldEntered (s : State) (i : AccountIx) (field value : Nat) : State :=
  (s.setRestore (some (enterField s.engine.restore i field value))).changeAccount i fun a =>
    { a with state := .restoring }

theorem State.setRestore_changesOnly (s : State) (b : Option RestoreBuffer) :
    s.changesOnly (s.setRestore b) [.engine] := by
  intro p hp
  cases p <;> first | rfl | simp at hp

theorem State.fieldEntered_changesOnly (s : State) (i : AccountIx) (field value : Nat) :
    s.changesOnly (s.fieldEntered i field value) [.engine, .accounts, .store] :=
  State.changesOnly_then (s.setRestore_changesOnly _) (State.changeAccount_changesOnly _ i _) (by simp) (by simp)

theorem State.fieldEntered_engine (s : State) (i : AccountIx) (field value : Nat) :
    (s.fieldEntered i field value).engine =
      { s.engine with restore := some (enterField s.engine.restore i field value) } :=
  State.changeAccount_changesOnly _ i _ .engine (by decide)

/-- RESTORE FIELD of a restorable field by the state of its account (R19). -/
theorem State.handleRestoreField_of_restorable (s : State) {i : AccountIx} {account field : Nat} (value : Nat)
    (owner : accountOf account = some i) (present : restorable i field = true) :
    s.handleRestoreField account field value =
      if (s.account i).state = .normal then .refusal s .stateRefused
      else .atOnce (s.fieldEntered i field value) .ok [] := by
  simp [State.handleRestoreField, State.fieldEntered, owner, present]

/-- Settles O27: a NORMAL account is refused; another one's field is entered and the account marked RESTORING. -/
theorem restoreFieldEntersBuffer : Obligations.RestoreFieldEntersBuffer := by
  intro s i f v3 v2 v1 v0 rest present hears resting room
  have handled := s.restartLinger.handleRestoreField_of_restorable (nat32 v3 v2 v1 v0) (accountOf_byteOf i) present
  by_cases normal : (s.account i).state = .normal
  · refine ⟨_, exec_refused (q := .restoreField (byteOf i.val).toNat f.toNat (nat32 v3 v2 v1 v0)) rfl rfl hears resting
      room (handled.trans (if_pos normal)), by simp [normal]⟩
  have answered := exec_terminal (c := .restoreField 3 (byteOf i.val :: f :: v3 :: v2 :: v1 :: v0 :: rest))
    (q := .restoreField (byteOf i.val).toNat f.toNat (nat32 v3 v2 v1 v0)) rfl rfl hears resting
  have changed := s.restartLinger.fieldEntered_changesOnly i f.toNat (nat32 v3 v2 v1 v0)
  have engine := s.restartLinger.fieldEntered_engine i f.toNat (nat32 v3 v2 v1 v0)
  have port := changed .port (by decide)
  have time := changed .time (by decide)
  rw [State.handle, handled.trans (if_neg normal), Answer.conclude_atOnce _ _ _ _ _ _ (by rw [engine]; exact hears.2.2)
    (by rw [port]; exact room)] at answered
  refine ⟨_, answered, ?_⟩
  rw [if_neg normal]
  refine ⟨?_, State.account_changeAccount_same _ i _,
    fun j other => State.account_changeAccount_other _ _ (Ne.symm other), ?_,
    (State.changeAccount_onlyMarks _ i _).queue, _, congrArg RequestEngine.restore engine, rfl,
    enterField_fields _ i _ _⟩
  · show Port.push _ _ = _
    rw [port, time]
    rfl
  · intro p hp
    have named : [Part.engine, .accounts, .store] ⊆ [.time, .port, .accounts, .store, .engine] := by simp
    have same := changed p fun q => hp (named q)
    cases p <;> first | exact same | simp at hp

end Sys2Proof.Machine
end

section
/-! PROOFS. Requests whose response waits for a write: what the handing of a record leaves where the store can write, and
SERVICE RESET (O29). -/

namespace Sys2Proof.Machine

/-! ## Handing a record where the store can write (R155, R156) -/

/-- A store that can write still can after an operation that only marks. -/
theorem State.defers_of_onlyMarks {s t : State} (m : s.onlyMarks t) (d : s.defers) : t.defers := by
  have flying : t.store.inFlight.isSome = s.store.inFlight.isSome := by
    simpa using congrArg Option.isSome m.inFlight
  rcases d with ⟨state, queue, idle⟩ | ⟨state, busy⟩
  · exact .inl ⟨m.state.trans state, m.queue.trans queue, by simpa [idle] using flying⟩
  · exact .inr ⟨m.state.trans state, flying.trans busy⟩

/-- A WRITING store marks what it is handed and appends it. -/
theorem State.hand_writing (s : State) (r : RecordId) (h : s.store.state = .writing) :
    s.hand r = { s.markRecord r with store := (s.store.mark r).append r } := by
  have appended : ((s.store.mark r).append r).state = .writing := by
    unfold Store.append
    split <;> exact h
  unfold State.hand
  simp only [State.markRecord, Store.mark_state, h]
  unfold State.startIfReady
  simp only [appended]

theorem State.hand_covers {s : State} (d : s.defers) (r : RecordId) : (s.hand r).store.covered r = true := by
  rcases d with ⟨state, queue, idle⟩ | ⟨state, -⟩
  · exact s.hand_covers_ready r state queue idle
  · exact s.hand_covers_writing r state

/-- Where the store can write, handing a record begins its write, or leaves it to the one in flight and the queue. -/
theorem State.hand_cases {s : State} (d : s.defers) (r : RecordId) :
    s.hand r = State.startWrite { s.markRecord r with store := { s.store.mark r with state := .writing } } r ∨
      s.store.state = .writing ∧ s.hand r = { s.markRecord r with store := (s.store.mark r).append r } := by
  rcases d with ⟨state, queue, idle⟩ | ⟨state, -⟩
  · exact .inl (s.hand_ready r state queue idle)
  · exact .inr ⟨state, s.hand_writing r state⟩

/-- Handing leaves the store WRITING. -/
theorem State.hand_state {s : State} (d : s.defers) (r : RecordId) : (s.hand r).store.state = .writing := by
  rcases State.hand_cases d r with e | ⟨state, e⟩
  · rw [e, State.startWrite_state]
  · rw [e]
    unfold Store.append
    split <;> exact state

/-- Of the accounts, handing a record sets at most the last write time of its own account (R9). -/
theorem State.hand_account_same {s : State} (d : s.defers) (i : AccountIx) :
    (s.hand (.account i)).account i =
      { s.account i with lastWrite := ((s.hand (.account i)).account i).lastWrite } := by
  rcases State.hand_cases d (.account i) with e | ⟨-, e⟩
  · rw [e, State.startWrite_account, if_pos rfl]
    rfl
  · rw [e]
    rfl

theorem State.hand_account_other {s : State} (d : s.defers) {r : RecordId} {j : AccountIx} (h : r ≠ .account j) :
    (s.hand r).account j = s.account j := by
  rcases State.hand_cases d r with e | ⟨-, e⟩
  · rw [e, State.startWrite_account, if_neg h]
    rfl
  · rw [e]
    rfl

@[simp] theorem State.startWrite_serviceDue (s : State) (r : RecordId) :
    (s.startWrite r).accounts.serviceDue = s.accounts.serviceDue := by
  cases r <;> rfl

@[simp] theorem State.startWrite_lifeLimit (s : State) (r : RecordId) :
    (s.startWrite r).accounts.lifeLimit = s.accounts.lifeLimit := by
  cases r <;> rfl

@[simp] theorem State.startWrite_restore (s : State) (r : RecordId) :
    (s.startWrite r).engine.restore = s.engine.restore := by
  cases r <;> rfl

@[simp] theorem State.startWrite_checkpointMs (s : State) (r : RecordId) :
    (s.startWrite r).store.checkpointMs = s.store.checkpointMs := by
  cases r <;> rfl

/-- Handing a record keeps the threshold conditions and the restore buffer. -/
theorem State.hand_keepsConditions {s : State} (d : s.defers) (r : RecordId) :
    (s.hand r).accounts.serviceDue = s.accounts.serviceDue ∧ (s.hand r).accounts.lifeLimit = s.accounts.lifeLimit ∧
      (s.hand r).engine.restore = s.engine.restore := by
  rcases State.hand_cases d r with e | ⟨-, e⟩
  · rw [e, State.startWrite_serviceDue, State.startWrite_lifeLimit, State.startWrite_restore]
    exact ⟨rfl, rfl, rfl⟩
  · rw [e]
    exact ⟨rfl, rfl, rfl⟩

theorem State.hand_checkpointMs {s : State} (d : s.defers) (r : RecordId) :
    (s.hand r).store.checkpointMs = s.store.checkpointMs := by
  rcases State.hand_cases d r with e | ⟨-, e⟩
  · rw [e, State.startWrite_checkpointMs]
    rfl
  · rw [e]
    unfold Store.append
    split <;> rfl

/-- Handing takes no mark away. -/
theorem State.hand_isChanged_mono {s : State} (d : s.defers) (r q : RecordId) (h : s.store.isChanged q = true) :
    (s.hand r).store.isChanged q = true := by
  have marked := s.store.isChanged_mark_mono r q h
  rcases State.hand_cases d r with e | ⟨-, e⟩
  · rw [e]
    unfold Store.isChanged
    rw [State.startWrite_changed]
    exact marked
  · rw [e]
    unfold Store.append
    split <;> exact marked

/-! ## A response that waits for one record (R157, R170) -/

/-- From u to t record r was handed, and slot 3 waits for its write with a payload. Of the working content only the last
write time of the account of r may have changed (R9). -/
structure State.awaited (u t : State) (kind : Byte) (payload : List Byte) (r : RecordId) : Prop where
  changes : u.changesOnly t [.accounts, .store, .engine]
  waits : t.waitsWith 3 kind payload [r]
  covered : t.store.covered r = true
  changed : t.store.isChanged r = true
  marks : ∀ q, u.store.isChanged q = true → t.store.isChanged q = true
  account_same : ∀ i, r = .account i → t.account i = { u.account i with lastWrite := (t.account i).lastWrite }
  account_other : ∀ j, r ≠ .account j → t.account j = u.account j
  serviceDue : t.accounts.serviceDue = u.accounts.serviceDue
  lifeLimit : t.accounts.lifeLimit = u.accounts.lifeLimit
  restore : t.engine.restore = u.engine.restore
  checkpointMs : t.store.checkpointMs = u.store.checkpointMs

/-- Handing a record where the store can write and leaving slot 3 WAITING for it. -/
theorem State.hand_awaited {u : State} (d : u.defers) (kind : Byte) (ops payload : List Byte) (r : RecordId) :
    u.awaited
      ((u.hand r).setInFlight 3
        (some { kind := kind, ops := ops, phase := .waiting ([r].map (u.hand r).waitOn) payload })) kind payload r where
  changes := State.changesOnly_then (u.hand_changesOnly r) (State.setInFlight_changesOnly _ 3 _) (by simp) (by simp)
  waits := Answer.conclude_deferred_waits (u.hand r) 3 kind ops [r] payload
  covered := State.hand_covers d r
  changed := u.hand_isChanged r
  marks := fun q => State.hand_isChanged_mono d r q
  account_same := by
    rintro i rfl
    exact State.hand_account_same d i
  account_other := fun _ => State.hand_account_other d
  serviceDue := (State.hand_keepsConditions d r).1
  lifeLimit := (State.hand_keepsConditions d r).2.1
  restore := (State.hand_keepsConditions d r).2.2
  checkpointMs := State.hand_checkpointMs d r

/-- A change of the depot terminal that hands one record is answered after its write. -/
theorem exec_deferred {c : Instr} {s u : State} {kind : Byte} {ops payload : List Byte} {q : Request} {r : RecordId}
    (request : requestOf c = some (3, kind, ops)) (parsed : parseRequest kind.toNat ops = some q) (hears : s.hears 3)
    (rest : s.atRest = true) (handled : s.restartLinger.handle 3 q = .durable (u.hand r) [r] payload)
    (d : u.defers) : ∃ t, exec c s = .next t ∧ u.awaited t kind payload r := by
  have durable : Answer.durable (u.hand r) [r] payload = .deferred (u.hand r) ([r].map (u.hand r).waitOn) payload := by
    unfold Answer.durable
    rw [State.hand_state d]
  refine ⟨_, ?_, State.hand_awaited d kind ops payload r⟩
  rw [exec_terminal request parsed hears rest, handled, durable]
  rfl

theorem State.awaited.alerts {u t : State} {kind : Byte} {payload : List Byte} {r : RecordId}
    (h : u.awaited t kind payload r) : t.alerts = u.alerts :=
  h.changes .alerts (by decide)

theorem State.awaited.log {u t : State} {kind : Byte} {payload : List Byte} {r : RecordId}
    (h : u.awaited t kind payload r) : t.log = u.log :=
  h.changes .log (by decide)

/-- The threshold conditions settled before the handing of the account are settled after it. -/
theorem State.awaited.settled {s u t : State} {kind : Byte} {payload : List Byte} {i : AccountIx}
    (h : u.awaited t kind payload (.account i)) (settled : s.thresholdsSettled u i) : s.thresholdsSettled t i := by
  unfold State.thresholdsSettled at settled ⊢
  rw [h.account_same i rfl, h.alerts, h.serviceDue, h.lifeLimit]
  exact settled

/-! ## Thresholds and the flags of the OPEN segment -/

/-- Conditions that are false are reported false, which offers no notice. -/
theorem State.evalThresholds_port {s : State} {i : AccountIx} (due : (s.account i).serviceDueNow = false)
    (life : (s.account i).lifeLimitNow = false) : (s.evalThresholds i).port = s.port := by
  have first : (s.evalServiceDue i).port = s.port := by
    unfold State.evalServiceDue
    dsimp only
    rw [due]
    split <;> rfl
  have second : ((s.evalServiceDue i).evalLifeLimit i).port = (s.evalServiceDue i).port := by
    unfold State.evalLifeLimit
    dsimp only
    rw [State.account_evalServiceDue, life]
    split <;> rfl
  exact second.trans first

theorem State.evalThresholds_changesOnly_of_false {s : State} {i : AccountIx}
    (due : (s.account i).serviceDueNow = false) (life : (s.account i).lifeLimitNow = false) : s.changesOnly (s.evalThresholds i) [.accounts, .alerts] := by
  intro p hp
  by_cases port : p = .port
  · subst port
    exact State.evalThresholds_port due life
  · exact s.evalThresholds_changesOnly i p (by simp_all)

/-- An evaluation of the thresholds leaves every other pair's held value. -/
theorem State.holds_evalThresholds_other (s : State) (i : AccountIx) {q : AlertPair}
    (due : q ≠ accountPair i .serviceDue) (life : q ≠ accountPair i .lifeLimit) :
    (s.evalThresholds i).alerts.holds q = s.alerts.holds q := by
  have first : (s.evalServiceDue i).alerts.holds q = s.alerts.holds q := by
    unfold State.evalServiceDue
    dsimp only
    split
    · rfl
    · exact State.holds_report_other _ _ _ due
  have second : ((s.evalServiceDue i).evalLifeLimit i).alerts.holds q = (s.evalServiceDue i).alerts.holds q := by
    unfold State.evalLifeLimit
    dsimp only
    split
    · rfl
    · exact State.holds_report_other _ _ _ life
  exact second.trans first

/-- A change that keeps every segment's state leaves the OPEN segment the OPEN one. -/
theorem SegmentLog.openEntry_modify (l : SegmentLog) (k : Fin 24) {f : Segment → Segment}
    (h : ∀ g, (f g).state = g.state) :
    (l.modify k f).openEntry = l.openEntry.map fun e => if e.slot == k then { e with seg := f e.seg } else e := by
  unfold SegmentLog.openEntry SegmentLog.modify
  rw [List.find?_map]
  congr 2
  funext e
  simp only [Function.comp_apply]
  split <;> simp [h]

/-- A flag set on the OPEN segment stands on it. -/
theorem State.flagOpen_sets (s : State) {f : SegmentFlags → SegmentFlags} {P : SegmentFlags → Prop}
    (h : ∀ x, P (f x)) (e : LogEntry) (found : (s.flagOpen f).log.openEntry = some e) : P e.seg.flags := by
  unfold State.flagOpen at found
  split at found
  · next none_ =>
    rw [none_] at found
    cases found
  · next d opened =>
    split at found
    · next same =>
      rw [opened] at found
      cases found
      exact same ▸ h _
    · rw [State.markRecord_log,
        SegmentLog.openEntry_modify s.log d.slot (f := fun g => { g with flags := f g.flags }) fun _ => rfl,
        opened] at found
      cases found
      simpa using h _

/-! ## SERVICE RESET (O29) -/

theorem State.restartLinger_changesOnly (s : State) : s.changesOnly s.restartLinger [.time] := by
  intro p hp
  cases p <;> first | rfl | simp at hp

/-- The account of a service reset, with its conditions evaluated and SERVICED on the OPEN segment (R17). -/
def State.serviceStarted (s : State) (i : AccountIx) : State :=
  ((s.setAccount i ((s.account i).serviced s.time.deviceTime)).evalThresholds i).flagOpen
    fun f => { f with serviced := true }

theorem State.handleServiceReset_normal {s : State} {i : AccountIx} {account : Nat} (owner : accountOf account = some i)
    (normal : (s.account i).state = .normal) :
    s.handleServiceReset account = .durable ((s.serviceStarted i).hand (.account i)) [.account i] [] := by
  simp [State.handleServiceReset, State.serviceStarted, owner, normal]

theorem State.handleServiceReset_refused {s : State} {i : AccountIx} {account : Nat} (owner : accountOf account = some i)
    (other : (s.account i).state ≠ .normal) : s.handleServiceReset account = .refusal s .stateRefused := by
  simp [State.handleServiceReset, owner, other]

theorem State.serviceStarted_onlyMarks (s : State) (i : AccountIx) : s.onlyMarks (s.serviceStarted i) :=
  State.onlyMarks_after
    (State.onlyMarks_trans (State.evalThresholds_onlyMarks _ i) (State.flagOpen_onlyMarks _ _)) rfl

theorem State.serviceStarted_account_same (s : State) (i : AccountIx) :
    (s.serviceStarted i).account i = (s.account i).serviced s.time.deviceTime := by
  unfold State.serviceStarted
  rw [State.account_of_changesOnly (State.flagOpen_changesOnly _ _) (by decide), State.account_evalThresholds,
    State.account_setAccount_same]

theorem State.serviceStarted_account_other (s : State) {i j : AccountIx} (h : i ≠ j) :
    (s.serviceStarted i).account j = s.account j := by
  unfold State.serviceStarted
  rw [State.account_of_changesOnly (State.flagOpen_changesOnly _ _) (by decide), State.account_evalThresholds,
    State.account_setAccount_other _ _ h]

/-- With since-service wear 0 no condition is true, so that no notice is offered. -/
theorem State.serviceStarted_changesOnly (s : State) (i : AccountIx) :
    s.changesOnly (s.serviceStarted i) [.accounts, .alerts, .log, .store] := by
  refine State.changesOnly_then (ps := [.accounts, .alerts]) (State.changesOnly_then (s.setAccount_changesOnly i _)
    (State.evalThresholds_changesOnly_of_false ?_ ?_) (by simp) (by simp)) (State.flagOpen_changesOnly _ _) (by simp)
    (by simp)
  · simp [Account.serviceDueNow, Account.serviced]
  · simp [Account.lifeLimitNow, Account.serviced]

/-- The conditions of the account settle, and with since-service wear 0 both are false (R16). -/
theorem State.serviceStarted_settled (s : State) (i : AccountIx) : s.thresholdsSettled (s.serviceStarted i) i := by
  have settled := State.evalThresholds_settled (s.setAccount i ((s.account i).serviced s.time.deviceTime)) i
  have flagged := State.flagOpen_changesOnly
    ((s.setAccount i ((s.account i).serviced s.time.deviceTime)).evalThresholds i) fun f => { f with serviced := true }
  have accounts : (s.serviceStarted i).accounts = _ := flagged .accounts (by decide)
  have alerts : (s.serviceStarted i).alerts = _ := flagged .alerts (by decide)
  unfold State.thresholdsSettled State.account at settled ⊢
  rw [accounts, alerts]
  exact settled

/-- Settles O29: the account is started anew before its record is handed, and the handing changes only the time of a
write that begins. -/
theorem serviceResetStartsAnew : Obligations.ServiceResetStartsAnew := by
  intro s i rest hears resting
  have owner := accountOf_byteOf i
  refine ⟨fun other room => exec_refused (q := .serviceReset (byteOf i.val).toNat) rfl rfl hears resting room
    (State.handleServiceReset_refused owner other), fun normal d => ?_⟩
  have defers : (s.restartLinger.serviceStarted i).defers :=
    State.defers_of_onlyMarks (s.restartLinger.serviceStarted_onlyMarks i) d
  obtain ⟨t, run, awaited⟩ := exec_deferred (c := .serviceReset 3 (byteOf i.val :: rest))
    (q := .serviceReset (byteOf i.val).toNat) rfl rfl hears resting
    (State.handleServiceReset_normal (s := s.restartLinger) owner normal) defers
  have account := awaited.account_same i rfl
  rw [State.serviceStarted_account_same] at account
  have settled : s.thresholdsSettled t i := awaited.settled (s.restartLinger.serviceStarted_settled i)
  have changed : s.restartLinger.changesOnly t [.accounts, .alerts, .log, .store, .engine] :=
    State.changesOnly_then (s.restartLinger.serviceStarted_changesOnly i) awaited.changes (by simp) (by simp)
  obtain ⟨due, life, -⟩ := id settled
  rw [account] at due life
  refine ⟨t, run, account, fun j other => ?_, due.trans (by simp [Account.serviced]),
    life.trans (by simp [Account.serviced]), settled, fun e found => ?_, awaited.changed, awaited.covered, awaited.waits,
    State.changesOnly_then s.restartLinger_changesOnly changed (by simp) (by simp), changed .time (by decide)⟩
  · rw [awaited.account_other j (by simpa using other.symm), State.serviceStarted_account_other _ other.symm]
    rfl
  · rw [awaited.log] at found
    exact State.flagOpen_sets _ (P := fun f => f.serviced = true) (fun _ => rfl) e found

end Sys2Proof.Machine
end

section
/-! PROOFS. RESTORE DONE (O30): what the buffered fields leave in an account, and what the restore leaves of the OPEN
segment. -/

namespace Sys2Proof.Machine

/-! ## The buffered fields on an account (R21, steps 1 to 4) -/

/-- Step 1 of R21: every buffered value added to its field. -/
def Account.withFields (a : Account) (fields : List (Nat × Nat)) : Account :=
  fields.foldl (fun x fv => x.restoreField fv.1 fv.2) a

/-- A field that the buffer may hold, raised by the buffered value if it does. -/
def raisedBy (fields : List (Nat × Nat)) (field before : Nat) : Nat :=
  match fields.lookup field with
  | some v => min (before + v) 4294967295
  | none => before

/-- A figure that its own field's value is added to, and no other's, is raised by the one value buffered for it. -/
theorem Account.withFields_figure (figure : Account → Nat) (field : Nat)
    (own : ∀ (a : Account) (v : Nat), figure (a.restoreField field v) = addTo (figure a) v)
    (other : ∀ (a : Account) (f v : Nat), f ≠ field → figure (a.restoreField f v) = figure a)
    (fields : List (Nat × Nat)) (a : Account) (once : (fields.map Prod.fst).Nodup) :
    figure (a.withFields fields) = raisedBy fields field (figure a) := by
  have untouched : ∀ (l : List (Nat × Nat)) (x : Account), field ∉ l.map Prod.fst →
      figure (x.withFields l) = figure x := by
    intro l
    induction l with
    | nil => exact fun _ _ => rfl
    | cons fv l ih =>
      intro x out
      simp only [List.map_cons, List.mem_cons, not_or] at out
      exact (ih _ out.2).trans (other x fv.1 fv.2 (Ne.symm out.1))
  induction fields generalizing a with
  | nil => rfl
  | cons fv rest ih =>
    obtain ⟨f, v⟩ := fv
    obtain ⟨out, once⟩ := List.nodup_cons.mp once
    by_cases same : f = field
    · subst same
      have found : ((f, v) :: rest).lookup f = some v := by simp [List.lookup]
      rw [raisedBy, found]
      exact (untouched rest _ out).trans (own a v)
    · have passed : ((f, v) :: rest).lookup field = rest.lookup field := by
        have differs : (field == f) = false := by simpa using Ne.symm same
        simp [List.lookup, differs]
      rw [raisedBy, passed]
      exact (ih _ once).trans (by rw [other a f v same]; rfl)

theorem Account.restoreField_wear (a : Account) (v : Nat) : (a.restoreField 1 v).wear = addTo a.wear v := rfl

theorem Account.restoreField_wear_other (a : Account) (f v : Nat) (h : f ≠ 1) : (a.restoreField f v).wear = a.wear := by
  unfold Account.restoreField
  split
  case h_2 => exact absurd rfl h
  case h_12 => split <;> rfl
  all_goals rfl

theorem Account.restoreField_unobserved (a : Account) (v : Nat) :
    (a.restoreField 2 v).unobserved = addTo a.unobserved v := rfl

theorem Account.restoreField_unobserved_other (a : Account) (f v : Nat) (h : f ≠ 2) :
    (a.restoreField f v).unobserved = a.unobserved := by
  unfold Account.restoreField
  split
  case h_3 => exact absurd rfl h
  case h_12 => split <;> rfl
  all_goals rfl

theorem Account.restoreField_bin (k : Fin 8) (a : Account) (v : Nat) :
    (a.restoreField (3 + k.val) v).bins[k] = addTo a.bins[k] v := by
  fin_cases k <;> simp [Account.restoreField]

theorem Account.restoreField_bin_other (k : Fin 8) (a : Account) (f v : Nat) (h : f ≠ 3 + k.val) :
    (a.restoreField f v).bins[k] = a.bins[k] := by
  unfold Account.restoreField
  split
  case h_12 =>
    split
    · next range =>
      have differs : f - 3 ≠ k.val := fun same => h (by rw [← same, Nat.add_sub_cancel' range.1])
      simp [differs]
    · rfl
  all_goals rfl

/-- A restore adds to optional counters that are there and brings none. -/
theorem Account.restoreField_events_isSome (a : Account) (f v : Nat) :
    (a.restoreField f v).events.isSome = a.events.isSome := by
  unfold Account.restoreField
  split
  case h_1 => simp [addToOpt]
  case h_12 => split <;> rfl
  all_goals rfl

theorem Account.withFields_events_isSome (fields : List (Nat × Nat)) (a : Account) :
    (a.withFields fields).events.isSome = a.events.isSome := by
  induction fields generalizing a with
  | nil => rfl
  | cons fv rest ih => exact (ih _).trans (a.restoreField_events_isSome fv.1 fv.2)

theorem Account.withFields_credit (fields : List (Nat × Nat)) (a : Account) :
    (a.withFields fields).credit = a.credit := by
  induction fields generalizing a with
  | nil => rfl
  | cons fv rest ih => exact (ih _).trans (a.restoreField_credit fv.1 fv.2).1

/-! Steps 2 to 4 leave what step 1 made of wear, unobserved time, bins, events and F. -/

theorem Account.restored_wear (a : Account) (fields : List (Nat × Nat)) :
    (a.restored fields).wear = (a.withFields fields).wear := rfl

theorem Account.restored_unobserved (a : Account) (fields : List (Nat × Nat)) :
    (a.restored fields).unobserved = (a.withFields fields).unobserved := rfl

theorem Account.restored_bins (a : Account) (fields : List (Nat × Nat)) :
    (a.restored fields).bins = (a.withFields fields).bins := rfl

theorem Account.restored_events (a : Account) (fields : List (Nat × Nat)) :
    (a.restored fields).events = (a.withFields fields).events := rfl

theorem Account.restored_credit (a : Account) (fields : List (Nat × Nat)) : (a.restored fields).credit = a.credit :=
  Account.withFields_credit fields a

/-- The lifetime figures that the buffer raises (R21, step 1). -/
theorem Account.restored_raised (a : Account) (fields : List (Nat × Nat)) (once : (fields.map Prod.fst).Nodup) :
    (a.restored fields).wear = raisedBy fields 1 a.wear ∧
      (a.restored fields).unobserved = raisedBy fields 2 a.unobserved ∧
      ∀ k : Fin 8, (a.restored fields).bins[k] = raisedBy fields (3 + k.val) a.bins[k] := by
  refine ⟨?_, ?_, fun k => ?_⟩
  · exact Account.withFields_figure Account.wear 1 Account.restoreField_wear Account.restoreField_wear_other fields a once
  · exact Account.withFields_figure Account.unobserved 2 Account.restoreField_unobserved
      Account.restoreField_unobserved_other fields a once
  · exact Account.withFields_figure (fun x => x.bins[k]) (3 + k.val) (Account.restoreField_bin k)
      (Account.restoreField_bin_other k) fields a once

/-! ## The raised snapshot of the OPEN segment (R21, step 6; R121) -/

/-- With each segment in a slot of its own, a slot holds the segment of its entry. -/
theorem SegmentLog.inSlot_of_mem {l : SegmentLog} (distinct : (l.entries.map LogEntry.slot).Nodup) {e : LogEntry}
    (m : e ∈ l.entries) : l.inSlot e.slot = some e.seg := by
  obtain ⟨d, found⟩ : ∃ d, (l.entries.find? fun x => x.slot == e.slot) = some d := by
    rw [← Option.isSome_iff_exists, List.find?_isSome]
    exact ⟨e, m, by simp⟩
  have slot : d.slot = e.slot := by simpa using List.find?_some found
  have same : d = e := List.inj_on_of_nodup_map distinct (List.mem_of_find?_eq_some found) m slot
  unfold SegmentLog.inSlot
  rw [found, same]
  rfl

theorem SegmentLog.openEntry_mem {l : SegmentLog} {e : LogEntry} (opened : l.openEntry = some e) : e ∈ l.entries :=
  List.mem_of_find?_eq_some opened

/-- A change of the segment in one slot is read back from it. -/
theorem SegmentLog.inSlot_modify (l : SegmentLog) (slot k : Fin 24) (f : Segment → Segment) :
    (l.modify slot f).inSlot k = if k = slot then (l.inSlot k).map f else l.inSlot k := by
  unfold SegmentLog.inSlot SegmentLog.modify
  have slots : ((fun x : LogEntry => x.slot == k) ∘
      fun e => if e.slot == slot then { e with seg := f e.seg } else e) = fun x => x.slot == k := by
    funext x
    simp only [Function.comp_apply]
    split <;> rfl
  rw [List.find?_map, slots]
  cases found : l.entries.find? fun x => x.slot == k with
  | none => simp
  | some d =>
    have at_ : d.slot = k := by simpa using List.find?_some found
    simp only [Option.map_some, at_, beq_iff_eq]
    split <;> rfl

/-- The segment of the OPEN entry with its snapshot raised and RESTORED set. -/
def Segment.restored (g : Segment) (increase : Tracked) : Segment :=
  { g with tracked := g.tracked.raised increase, flags := { g.flags with restored := true } }

theorem State.raiseSnapshot_none {s : State} (increase : Tracked) (none_ : s.log.openEntry = none) :
    s.raiseSnapshot increase = s := by
  unfold State.raiseSnapshot
  rw [none_]

theorem State.raiseSnapshot_some {s : State} (increase : Tracked) {e : LogEntry} (opened : s.log.openEntry = some e) :
    s.raiseSnapshot increase =
      (s.modifySegment e.slot fun g => g.restored increase).markRecord (.slot e.slot) := by
  unfold State.raiseSnapshot
  rw [opened]
  rfl

theorem State.raiseSnapshot_changesOnly (s : State) (increase : Tracked) :
    s.changesOnly (s.raiseSnapshot increase) [.log, .store] := by
  cases opened : s.log.openEntry with
  | none =>
    rw [State.raiseSnapshot_none increase opened]
    exact s.changesOnly_refl _
  | some e =>
    rw [State.raiseSnapshot_some increase opened]
    intro p hp
    cases p <;> first | rfl | simp at hp

theorem State.raiseSnapshot_onlyMarks (s : State) (increase : Tracked) : s.onlyMarks (s.raiseSnapshot increase) := by
  cases opened : s.log.openEntry with
  | none =>
    rw [State.raiseSnapshot_none increase opened]
    exact State.onlyMarks_of_same rfl
  | some e =>
    rw [State.raiseSnapshot_some increase opened]
    exact State.onlyMarks_after (State.markRecord_onlyMarks _ _) rfl

/-- RESTORED stands on the OPEN segment after its snapshot is raised. -/
theorem State.raiseSnapshot_flags (s : State) (increase : Tracked) (e : LogEntry)
    (found : (s.raiseSnapshot increase).log.openEntry = some e) : e.seg.flags.restored = true := by
  cases opened : s.log.openEntry with
  | none =>
    rw [State.raiseSnapshot_none increase opened, opened] at found
    cases found
  | some d =>
    rw [State.raiseSnapshot_some increase opened, State.markRecord_log, State.modifySegment_log,
      SegmentLog.openEntry_modify s.log d.slot (f := fun g => g.restored increase) fun _ => rfl, opened] at found
    cases found
    simp [Segment.restored]

theorem Tracked.zero_figures (j : AccountIx) :
    Tracked.zero.figures[j].active = 0 ∧ Tracked.zero.figures[j].wear = 0 ∧
      (j ≠ 4 → Tracked.zero.figures[j].events = some 0) := by
  revert j
  decide

/-- What account j gains in a figure by a restore of account i. -/
def gainedBy (i : AccountIx) (before after : Account) (j : AccountIx) (figure : Account → Nat) : Nat :=
  if j = i then figure after - figure before else 0

/-- What a restore adds to the figures of the accounts: those of account i by its increase, no other's. -/
theorem restoreIncrease_figures (i j : AccountIx) (before after : Account) :
    (restoreIncrease i before after).figures[j].active = gainedBy i before after j Account.activeTime ∧
      (restoreIncrease i before after).figures[j].wear = gainedBy i before after j Account.wear ∧
      (j ≠ 4 → (j = i → after.events.isSome = true ∧ before.events.isSome = true) →
        (restoreIncrease i before after).figures[j].events =
          some (gainedBy i before after j fun a => a.events.getD 0)) := by
  unfold gainedBy
  by_cases same : j = i
  · subst same
    refine ⟨by simp [restoreIncrease], by simp [restoreIncrease], fun _ present => ?_⟩
    obtain ⟨u, hu⟩ := Option.isSome_iff_exists.mp (present rfl).1
    obtain ⟨v, hv⟩ := Option.isSome_iff_exists.mp (present rfl).2
    simp [restoreIncrease, hu, hv]
  · have other : (restoreIncrease i before after).figures[j] = Tracked.zero.figures[j] := by
      simp [restoreIncrease, Fin.val_inj, Ne.symm same]
    obtain ⟨active, wear, events⟩ := Tracked.zero_figures j
    simp only [other, if_neg same]
    exact ⟨active, wear, fun small _ => events small⟩

/-- The combination of two tracked quantities, account by account. -/
theorem Tracked.combine_figures (f : Nat → Nat → Nat) (x y : Tracked) (j : AccountIx) :
    (Tracked.combine f x y).figures[j].active = f x.figures[j].active y.figures[j].active ∧
      (Tracked.combine f x y).figures[j].wear = f x.figures[j].wear y.figures[j].wear ∧
      ∀ v, y.figures[j].events = some v →
        (Tracked.combine f x y).figures[j].events = x.figures[j].events.map (f · v) := by
  have events : ∀ a b : Figures, ∀ v, b.events = some v →
      (match a.events, b.events with
        | some u, some v => some (f u v)
        | _, _ => none) = a.events.map (f · v) := by
    intro a b v h
    rw [h]
    cases a.events <;> rfl
  fin_cases j <;> exact ⟨rfl, rfl, fun v h => events _ _ v h⟩

/-- A snapshot raised by a restore, account by account. -/
theorem Tracked.raised_figures (snapshot : Tracked) (i j : AccountIx) (before after : Account) :
    (snapshot.raised (restoreIncrease i before after)).figures[j].active =
        min (snapshot.figures[j].active + gainedBy i before after j Account.activeTime) 4294967295 ∧
      (snapshot.raised (restoreIncrease i before after)).figures[j].wear =
        min (snapshot.figures[j].wear + gainedBy i before after j Account.wear) 4294967295 ∧
      (j ≠ 4 → (j = i → after.events.isSome = true ∧ before.events.isSome = true) →
        (snapshot.raised (restoreIncrease i before after)).figures[j].events =
          snapshot.figures[j].events.map fun u =>
            min (u + gainedBy i before after j fun a => a.events.getD 0) 4294967295) := by
  obtain ⟨active, wear, events⟩ := Tracked.combine_figures addTo snapshot (restoreIncrease i before after) j
  obtain ⟨activeBy, wearBy, eventsBy⟩ := restoreIncrease_figures i j before after
  refine ⟨?_, ?_, fun small present => events _ (eventsBy small present)⟩
  · rw [← activeBy]
    exact active
  · rw [← wearBy]
    exact wear

/-! ## RESTORE DONE (O30) -/

@[simp] theorem State.account_restartLinger (s : State) (i : AccountIx) : s.restartLinger.account i = s.account i := rfl

theorem State.setRestore_onlyMarks (s : State) (b : Option RestoreBuffer) : s.onlyMarks (s.setRestore b) :=
  State.onlyMarks_of_same rfl

/-- What RESTORE DONE leaves before the account record is handed (R21). -/
def State.restoreClosed (s : State) (i : AccountIx) (fields : List (Nat × Nat)) : State :=
  let a := (s.account i).restored fields
  ((((s.setAccount i a).report (accountPair i .recordSuspect) false none).evalThresholds i).raiseSnapshot
    (restoreIncrease i (s.account i) a)).setRestore none

theorem State.handleRestoreDone_restoring {s : State} {i : AccountIx} {account : Nat} {b : RestoreBuffer}
    (owner : accountOf account = some i) (restoring : (s.account i).state = .restoring)
    (buffer : s.engine.restore = some b) (named : b.account = i) :
    s.handleRestoreDone account = .durable ((s.restoreClosed i b.fields).hand (.account i)) [.account i] [] := by
  have closes : s.restoreOf i = some b := by simp [State.restoreOf, buffer, named, restoring]
  simp [State.handleRestoreDone, State.restoreClosed, owner, closes]

theorem State.handleRestoreDone_refused {s : State} {i : AccountIx} {account : Nat} (owner : accountOf account = some i)
    (h : (s.account i).state ≠ .restoring ∨ ∀ b, s.engine.restore = some b → b.account ≠ i) :
    s.handleRestoreDone account = .refusal s .stateRefused := by
  have none_ : s.restoreOf i = none := by
    unfold State.restoreOf
    split
    · next b buffer =>
      refine if_neg ?_
      rintro ⟨named, restoring⟩
      exact h.elim (absurd restoring) fun other => other b buffer named
    · rfl
  simp [State.handleRestoreDone, owner, none_]

section
variable (s : State) (i : AccountIx) (fields : List (Nat × Nat))

/-- The account restored and RECORD_SUSPECT reported false. -/
def State.restoreReported : State :=
  (s.setAccount i ((s.account i).restored fields)).report (accountPair i .recordSuspect) false none

theorem State.restoreReported_changesOnly : s.changesOnly (s.restoreReported i fields) [.accounts, .alerts, .port] :=
  State.changesOnly_then (s.setAccount_changesOnly i _) (State.report_changesOnly _ _ _ _) (by simp) (by simp)

theorem State.restoreClosed_eq :
    s.restoreClosed i fields =
      (((s.restoreReported i fields).evalThresholds i).raiseSnapshot
        (restoreIncrease i (s.account i) ((s.account i).restored fields))).setRestore none := rfl

theorem State.restoreClosed_onlyMarks : s.onlyMarks (s.restoreClosed i fields) := by
  rw [State.restoreClosed_eq]
  exact State.onlyMarks_trans (State.onlyMarks_of_changesOnly (s.restoreReported_changesOnly i fields) (by decide))
    (State.onlyMarks_trans (State.evalThresholds_onlyMarks _ i)
      (State.onlyMarks_trans (State.raiseSnapshot_onlyMarks _ _) (State.setRestore_onlyMarks _ none)))

theorem State.restoreClosed_changesOnly :
    s.changesOnly (s.restoreClosed i fields) [.accounts, .alerts, .port, .log, .store, .engine] := by
  rw [State.restoreClosed_eq]
  have evaluated := State.changesOnly_trans (s.restoreReported_changesOnly i fields) (State.evalThresholds_changesOnly _ i)
  exact State.changesOnly_then evaluated
    (State.changesOnly_then (State.raiseSnapshot_changesOnly _ _) (State.setRestore_changesOnly _ none)
      (rs := [.log, .store, .engine]) (by simp) (by simp)) (by simp) (by simp)

/-- The accounts and alerts of the closed restore are those of the evaluated thresholds. -/
theorem State.restoreClosed_accounts :
    (s.restoreClosed i fields).accounts = ((s.restoreReported i fields).evalThresholds i).accounts ∧
      (s.restoreClosed i fields).alerts = ((s.restoreReported i fields).evalThresholds i).alerts := by
  have raised := State.raiseSnapshot_changesOnly ((s.restoreReported i fields).evalThresholds i)
    (restoreIncrease i (s.account i) ((s.account i).restored fields))
  rw [State.restoreClosed_eq, State.setRestore_accounts, State.setRestore_alerts]
  exact ⟨raised .accounts (by decide), raised .alerts (by decide)⟩

theorem State.restoreClosed_account_same : (s.restoreClosed i fields).account i = (s.account i).restored fields := by
  rw [State.account, (s.restoreClosed_accounts i fields).1]
  exact (State.account_evalThresholds _ i i).trans (State.account_setAccount_same s i _)

theorem State.restoreClosed_account_other {j : AccountIx} (h : i ≠ j) :
    (s.restoreClosed i fields).account j = s.account j := by
  rw [State.account, (s.restoreClosed_accounts i fields).1]
  exact (State.account_evalThresholds _ i j).trans (State.account_setAccount_other s _ h)

theorem State.restoreClosed_settled : s.thresholdsSettled (s.restoreClosed i fields) i := by
  obtain ⟨accounts, alerts⟩ := s.restoreClosed_accounts i fields
  have settled := (s.restoreReported i fields).evalThresholds_settled i
  unfold State.thresholdsSettled State.account at settled ⊢
  rw [accounts, alerts]
  exact settled

theorem State.restoreClosed_holds :
    (s.restoreClosed i fields).alerts.holds (accountPair i .recordSuspect) = false := by
  rw [(s.restoreClosed_accounts i fields).2,
    State.holds_evalThresholds_other _ i (by simp [accountPair]) (by simp [accountPair])]
  exact State.holds_report_same _ _ false none

theorem State.restoreClosed_restore : (s.restoreClosed i fields).engine.restore = none := by
  rw [State.restoreClosed_eq, State.setRestore_engine]

theorem State.restoreClosed_flags (e : LogEntry) (found : (s.restoreClosed i fields).log.openEntry = some e) :
    e.seg.flags.restored = true := by
  rw [State.restoreClosed_eq, State.setRestore_log] at found
  exact State.raiseSnapshot_flags _ _ e found

theorem State.restoreEvaluated_log : ((s.restoreReported i fields).evalThresholds i).log = s.log :=
  ((State.evalThresholds_changesOnly _ i) .log (by decide)).trans
    (s.restoreReported_changesOnly i fields .log (by decide))

/-- With no OPEN segment the log stands. -/
theorem State.restoreClosed_log_none (none_ : s.log.openEntry = none) : (s.restoreClosed i fields).log = s.log := by
  have log := s.restoreEvaluated_log i fields
  rw [State.restoreClosed_eq, State.setRestore_log, State.raiseSnapshot_none _ (by rw [log]; exact none_), log]

/-- The OPEN segment is raised by the increase of the restore, and its record marked (R121). -/
theorem State.restoreClosed_log_some {e : LogEntry} (opened : s.log.openEntry = some e) :
    (s.restoreClosed i fields).log =
        s.log.modify e.slot (Segment.restored · (restoreIncrease i (s.account i) ((s.account i).restored fields))) ∧
      (s.restoreClosed i fields).store.isChanged (.slot e.slot) = true := by
  have log := s.restoreEvaluated_log i fields
  rw [State.restoreClosed_eq, State.raiseSnapshot_some _ (by rw [log]; exact opened), State.setRestore_log,
    State.setRestore_store, State.markRecord_log, State.markRecord_store, State.modifySegment_log, log]
  exact ⟨rfl, Store.isChanged_mark_same _ _⟩

end

/-- Settles O30: the restore is closed before the account's record is handed, and the handing changes only the time of a
write that begins. -/
theorem restoreDoneAddsFigures : Obligations.RestoreDoneAddsFigures := by
  intro s i rest hears resting
  have owner := accountOf_byteOf i
  refine ⟨fun other room => exec_refused (q := .restoreDone (byteOf i.val).toNat) rfl rfl hears resting room
    (State.handleRestoreDone_refused owner other), fun b restoring buffer named d => ?_⟩
  have defers : (s.restartLinger.restoreClosed i b.fields).defers :=
    State.defers_of_onlyMarks (s.restartLinger.restoreClosed_onlyMarks i b.fields) d
  obtain ⟨t, run, awaited⟩ := exec_deferred (c := .restoreDone 3 (byteOf i.val :: rest))
    (q := .restoreDone (byteOf i.val).toNat) rfl rfl hears resting
    (State.handleRestoreDone_restoring (s := s.restartLinger) owner restoring buffer named) defers
  have account := awaited.account_same i rfl
  rw [State.restoreClosed_account_same, State.account_restartLinger] at account
  have changed : s.restartLinger.changesOnly t [.accounts, .alerts, .port, .log, .store, .engine] :=
    State.changesOnly_then (s.restartLinger.restoreClosed_changesOnly i b.fields) awaited.changes (by simp) (by simp)
  have increased := Account.restored_raised (s.account i) b.fields
  refine ⟨t, run, account, by rw [account]; rfl, by rw [account]; exact Account.restored_credit _ _,
    fun j other => ?_, fun once => by rw [account]; exact increased once, by rw [account]; rfl,
    by rw [account]; exact min_le_right _ _, by rw [account]; exact min_le_right _ _, ?_, ?_,
    awaited.settled (s.restartLinger.restoreClosed_settled i b.fields), fun e found => ?_, fun distinct => ?_,
    awaited.covered, awaited.waits,
    State.changesOnly_then s.restartLinger_changesOnly changed (by simp) (by simp)⟩
  · rw [awaited.account_other j (by simpa using other.symm), State.restoreClosed_account_other _ _ _ other.symm]
    rfl
  · rw [awaited.alerts]
    exact s.restartLinger.restoreClosed_holds i b.fields
  · rw [awaited.restore]
    exact s.restartLinger.restoreClosed_restore i b.fields
  · rw [awaited.log] at found
    exact s.restartLinger.restoreClosed_flags i b.fields e found
  · cases opened : s.log.openEntry with
    | none => exact awaited.log.trans (s.restartLinger.restoreClosed_log_none i b.fields opened)
    | some e =>
      obtain ⟨raised, marked⟩ := s.restartLinger.restoreClosed_log_some i b.fields opened
      dsimp only
      rw [awaited.log, raised, account]
      refine ⟨awaited.marks _ marked, fun k other => ?_,
        e.seg.tracked.raised (restoreIncrease i (s.account i) ((s.account i).restored b.fields)), ?_, rfl, rfl, rfl,
        fun j => ?_⟩
      · exact (SegmentLog.inSlot_modify _ _ _ _).trans (if_neg other)
      · rw [SegmentLog.inSlot_modify, if_pos rfl]
        exact congrArg (Option.map _) (SegmentLog.inSlot_of_mem distinct (SegmentLog.openEntry_mem opened))
      · obtain ⟨active, wear, events⟩ := e.seg.tracked.raised_figures i j (s.account i) ((s.account i).restored b.fields)
        refine ⟨active, wear, fun small present => events small fun same => ⟨?_, same ▸ present⟩⟩
        rw [Account.restored_events, Account.withFields_events_isSome]
        exact same ▸ present

end Sys2Proof.Machine
end

section
/-! PROOFS. WRITE SETTING (O36): the table of R197 id by id, the reclassification at new limits (R32), and the statement. -/

namespace Sys2Proof.Machine

/-! ## The table of R197 -/

/-- A value clamped to a range of naturals. -/
def within (x lo hi : Int) : Nat := (max lo (min x hi)).toNat

theorem clampNat_eq_within (lo hi : Nat) (x : Int) : clampNat lo hi x = within x lo hi := rfl

/-- A code of three values, as a clamped write of it reads. -/
theorem clampNat_two (x : Int) : clampNat 0 2 x = if x ≤ 0 then 0 else if x = 1 then 1 else 2 := by
  simp only [clampNat, clamp]
  split
  · omega
  · split <;> omega

theorem crankModeOf_eq (x : Int) : crankModeOf x = if x ≤ 0 then .off else if x = 1 then .level else .edge := by
  unfold crankModeOf
  rw [clampNat_two]
  by_cases low : x ≤ 0
  · simp [low]
  · by_cases one : x = 1 <;> simp [low, one]

theorem Filter.writeField_format (f : Filter) (x : Int) :
    f.writeField 2 x =
      { f with format := if x ≤ 0 then .engineState else if x = 1 then .drivelineState else .drivelineEvent } := by
  simp only [Filter.writeField, clampNat_two]
  by_cases low : x ≤ 0
  · simp [low]
  · by_cases one : x = 1 <;> simp [low, one]

theorem Filter.writeField_enabled (f : Filter) (x : Int) : f.writeField 3 x = { f with enabled := decide (1 ≤ x) } := by
  have code : (clampNat 0 1 x == 1) = decide (1 ≤ x) := by
    rw [Bool.eq_iff_iff]
    simp only [clampNat, clamp, beq_iff_eq, decide_eq_true_eq]
    omega
  simp only [Filter.writeField, code]

/-- The four fields of filter entry k stand at four ids in succession (R41, R197). -/
theorem Settings.write_filter (v : Settings) (k f : Fin 4) (x : Int) :
    v.write (0x20 + 4 * k.val + f.val) x =
      some { v with filters := v.filters.set k (v.filters[k].writeField f.val x) } := by
  fin_cases k <;> fin_cases f <;> rfl

theorem Settings.write_filters (v : Settings) (k : Fin 4) (x : Int) :
    v.write (0x20 + 4 * k.val) x =
        some { v with filters := v.filters.set k { v.filters[k] with base := BitVec.ofNat 11 (within x 0 0x7FF) } } ∧
      v.write (0x21 + 4 * k.val) x =
        some { v with filters := v.filters.set k { v.filters[k] with mask := BitVec.ofNat 11 (within x 0 0x7FF) } } ∧
      v.write (0x22 + 4 * k.val) x =
        some
          { v with
            filters := v.filters.set k
              { v.filters[k] with
                format := if x ≤ 0 then .engineState else if x = 1 then .drivelineState else .drivelineEvent } } ∧
      v.write (0x23 + 4 * k.val) x =
        some { v with filters := v.filters.set k { v.filters[k] with enabled := decide (1 ≤ x) } } := by
  refine ⟨v.write_filter k 0 x, ?_, ?_, ?_⟩
  · rw [show 0x21 + 4 * k.val = 0x20 + 4 * k.val + (1 : Fin 4).val by simp; omega, v.write_filter k 1 x]
    rfl
  · rw [show 0x22 + 4 * k.val = 0x20 + 4 * k.val + (2 : Fin 4).val by simp; omega, v.write_filter k 2 x]
    exact congrArg (fun f => some { v with filters := v.filters.set k f }) (Filter.writeField_format _ x)
  · rw [show 0x23 + 4 * k.val = 0x20 + 4 * k.val + (3 : Fin 4).val by simp; omega, v.write_filter k 3 x]
    exact congrArg (fun f => some { v with filters := v.filters.set k f }) (Filter.writeField_enabled _ x)

/-- An id outside the table names no device setting. -/
theorem Settings.write_unknown (v : Settings) (id : Nat) (x : Int)
    (h : id = 0 ∨ (0x15 ≤ id ∧ id ≤ 0x1F) ∨ 0x30 ≤ id) : v.write id x = none := by
  have outside : ¬(0x20 ≤ id ∧ id ≤ 0x2F) := by omega
  unfold Settings.write
  split
  case h_21 => exact dif_neg outside
  all_goals exact absurd h (by decide)

/-- The per-account settings (R10). -/
theorem Account.writeSetting_table (a : Account) (raw : Nat) :
    a.writeSetting 0x40 raw = some { a with baseWeight := within (signedOf 32 raw) 0 65535 } ∧
      a.writeSetting 0x41 raw = some { a with fallbackWeight := within (signedOf 32 raw) 0 65535 } ∧
      a.writeSetting 0x42 raw =
        a.eventWeight.map (fun _ => { a with eventWeight := some (within (signedOf 32 raw) 0 65535) }) ∧
      a.writeSetting 0x43 raw = some { a with serviceThreshold := raw } ∧
      a.writeSetting 0x44 raw = some { a with lifeThreshold := raw } := by
  refine ⟨rfl, rfl, ?_, rfl, rfl⟩
  cases h : a.eventWeight <;> simp [Account.writeSetting, h, clampNat_eq_within]

/-! ## Reclassification at new limits (R32, R35) -/

/-- A signal is lost at the limits as they stand: known and older than the hold limit. -/
abbrev Ageing.lost (g : Ageing) (v : Settings) : Prop := g.cls ≠ .unknown ∧ v.holdLimit < g.age

/-- The class a signal's own age gives it, never backward (R32). -/
def Ageing.classAt (g : Ageing) (v : Settings) : AgeClass :=
  if g.lost v then .unknown
  else if g.cls = .fresh ∧ v.freshLimit < g.age then .held
  else g.cls

theorem Intake.setAgeing_self (x : Intake) (n : SignalName) : x.setAgeing (x.ageing n) n = x := by
  cases n <;> rfl

/-- The passage to UNKNOWN sets the class and the age, and drops the baselines of the group (R35). -/
theorem State.handUnknown_intake (s : State) (n : SignalName) :
    (s.handUnknown n).intake = if n = .drivelineEvent then s.intake.dropBaselines else s.intake := by
  cases n
  case engineSpeed => exact s.speedLost_changesOnly .intake (by decide)
  case starterStatus => exact s.reformCrank_changesOnly .intake (by decide)
  all_goals rfl

/-- What reclassification leaves of Intake: the signal in its new class, and no baselines where the group is lost. -/
theorem State.reclassify_intake (s : State) (n : SignalName) :
    (s.reclassify n).intake =
      let x := s.intake.setAgeing { s.intake.ageing n with cls := (s.intake.ageing n).classAt s.settings } n
      if n = .drivelineEvent ∧ (s.intake.ageing n).lost s.settings then x.dropBaselines else x := by
  have same : s.intake = s.intake.setAgeing { s.intake.ageing n with cls := (s.intake.ageing n).cls } n :=
    (s.intake.setAgeing_self n).symm
  unfold State.reclassify State.passUnknown Ageing.classAt Ageing.lost
  dsimp only
  by_cases old : s.settings.holdLimit < (s.intake.ageing n).age
  · cases cls : (s.intake.ageing n).cls
    case unknown => simpa [old, cls] using same
    all_goals simp [old, State.handUnknown_intake]
  · by_cases stale : (s.intake.ageing n).cls = .fresh ∧ s.settings.freshLimit < (s.intake.ageing n).age
    · simp [old, stale]
    · rw [if_neg old, if_neg (by simpa using stale)]
      simpa [old, stale] using same

theorem Intake.ageing_dropBaselines (x : Intake) (n : SignalName) : x.dropBaselines.ageing n = x.ageing n := by
  cases n <;> rfl

theorem Intake.baselines_setAgeing (x : Intake) (g : Ageing) (n : SignalName) :
    (x.setAgeing g n).shiftBaseline = x.shiftBaseline ∧
      (x.setAgeing g n).engagementBaseline = x.engagementBaseline := by
  cases n <;> exact ⟨rfl, rfl⟩

/-- One signal reclassified: its own class, no other's, and the baselines of a lost group. -/
theorem State.reclassify_effect (s : State) (n : SignalName) :
    (s.reclassify n).intake.ageing n = { s.intake.ageing n with cls := (s.intake.ageing n).classAt s.settings } ∧
      (∀ m, m ≠ n → (s.reclassify n).intake.ageing m = s.intake.ageing m) ∧
      (s.reclassify n).intake.shiftBaseline =
        (if n = .drivelineEvent ∧ (s.intake.ageing n).lost s.settings then none else s.intake.shiftBaseline) ∧
      (s.reclassify n).intake.engagementBaseline =
        (if n = .drivelineEvent ∧ (s.intake.ageing n).lost s.settings then none else s.intake.engagementBaseline) := by
  obtain ⟨shift, engagement⟩ := s.intake.baselines_setAgeing
    { s.intake.ageing n with cls := (s.intake.ageing n).classAt s.settings } n
  have other : ∀ m, m ≠ n → (s.intake.setAgeing { s.intake.ageing n with cls := (s.intake.ageing n).classAt s.settings }
      n).ageing m = s.intake.ageing m := fun m h => Intake.ageing_setAgeing_other _ _ h.symm
  rw [State.reclassify_intake]
  dsimp only
  by_cases gone : n = .drivelineEvent ∧ (s.intake.ageing n).lost s.settings
  · simp only [if_pos gone]
    refine ⟨?_, fun m h => ?_, rfl, rfl⟩
    · rw [Intake.ageing_dropBaselines, Intake.ageing_setAgeing_same]
    · rw [Intake.ageing_dropBaselines, other m h]
  · simp only [if_neg gone]
    exact ⟨Intake.ageing_setAgeing_same _ _ _, other, shift, engagement⟩

/-- Signals reclassified one after the other, each at most once. -/
theorem State.foldl_reclassify_effect (l : List SignalName) (once : l.Nodup) (s : State) :
    (∀ n, (l.foldl State.reclassify s).intake.ageing n =
        if n ∈ l then { s.intake.ageing n with cls := (s.intake.ageing n).classAt s.settings } else s.intake.ageing n) ∧
      (l.foldl State.reclassify s).intake.shiftBaseline =
        (if SignalName.drivelineEvent ∈ l ∧ (s.intake.ageing .drivelineEvent).lost s.settings then none
          else s.intake.shiftBaseline) ∧
      (l.foldl State.reclassify s).intake.engagementBaseline =
        (if SignalName.drivelineEvent ∈ l ∧ (s.intake.ageing .drivelineEvent).lost s.settings then none
          else s.intake.engagementBaseline) := by
  induction l generalizing s with
  | nil => simp
  | cons m l ih =>
    obtain ⟨out, once⟩ := List.nodup_cons.mp once
    obtain ⟨own, other, shift, engagement⟩ := s.reclassify_effect m
    obtain ⟨ages, shifts, engagements⟩ := ih once (s.reclassify m)
    have settings : (s.reclassify m).settings = s.settings := s.reclassify_changesOnly m .settings (by decide)
    rw [settings] at ages shifts engagements
    refine ⟨fun n => ?_, ?_, ?_⟩
    · rw [List.foldl_cons, ages]
      by_cases same : n = m
      · subst same
        rw [if_neg out, if_pos (List.mem_cons_self ..), own]
      · rw [other n same]
        simp [same]
    · rw [List.foldl_cons, shifts, shift]
      by_cases same : SignalName.drivelineEvent = m
      · subst same
        simp [out]
      · rw [other _ same]
        simp [same, Ne.symm same]
    · rw [List.foldl_cons, engagements, engagement]
      by_cases same : SignalName.drivelineEvent = m
      · subst same
        simp [out]
      · rw [other _ same]
        simp [same, Ne.symm same]

theorem mem_signalNames (n : SignalName) : n ∈ signalNames := by
  cases n <;> decide

/-- Every signal at new limits: each in the class of its own age, and no baselines where the group is lost (R32, R35). -/
theorem State.reclassifyAll_effect (s : State) :
    (∀ n, s.reclassifyAll.intake.ageing n =
        { s.intake.ageing n with cls := (s.intake.ageing n).classAt s.settings }) ∧
      s.reclassifyAll.intake.shiftBaseline =
        (if (s.intake.ageing .drivelineEvent).lost s.settings then none else s.intake.shiftBaseline) ∧
      s.reclassifyAll.intake.engagementBaseline =
        (if (s.intake.ageing .drivelineEvent).lost s.settings then none else s.intake.engagementBaseline) := by
  obtain ⟨ages, shift, engagement⟩ := State.foldl_reclassify_effect signalNames (by decide) s
  simp only [mem_signalNames, if_true, true_and] at ages shift engagement
  unfold State.reclassifyAll
  exact ⟨ages, shift, engagement⟩

/-! ## WRITE SETTING (O36) -/

/-- A handed record that is no account's changes no working copy and no threshold condition. -/
theorem State.awaited.accounts {u t : State} {kind : Byte} {payload : List Byte} {r : RecordId}
    (h : u.awaited t kind payload r) (other : ∀ i, r ≠ .account i) : t.accounts = u.accounts := by
  have copies : t.accounts.accounts = u.accounts.accounts :=
    Vector.ext fun i lt => h.account_other ⟨i, lt⟩ (other _)
  have due := h.serviceDue
  have life := h.lifeLimit
  generalize t.accounts = x at copies due life ⊢
  generalize u.accounts = y at copies due life ⊢
  cases x
  cases y
  simp_all

/-- What a written per-account setting leaves before its record is handed (R10, R11). -/
def State.accountWritten (s : State) (i : AccountIx) (id : Nat) (b : Account) : State :=
  if id = 0x43 ∨ id = 0x44 then (s.setAccount i b).evalThresholds i else s.setAccount i b

theorem State.handleWriteSetting_account {s : State} {i : AccountIx} {b : Account} {id account raw : Nat}
    (range : 0x40 ≤ id ∧ id ≤ 0x44) (owner : accountOf account = some i)
    (written : (s.account i).writeSetting id raw = some b) :
    s.handleWriteSetting id account raw = .durable ((s.accountWritten i id b).hand (.account i)) [.account i] [] := by
  simp [State.handleWriteSetting, State.writeAccount, State.accountWritten, range, owner, written]

theorem State.handleWriteSetting_accountRefused {s : State} {id account raw : Nat} (range : 0x40 ≤ id ∧ id ≤ 0x44)
    (none_ : ∀ i, accountOf account = some i → (s.account i).writeSetting id raw = none) :
    s.handleWriteSetting id account raw = .refusal s .badRequest := by
  unfold State.handleWriteSetting State.writeAccount
  rw [if_pos range]
  cases owner : accountOf account with
  | none => rfl
  | some i => simp [none_ i owner]

theorem State.handleWriteSetting_device {s : State} {v : Settings} {id account raw : Nat}
    (range : ¬(0x40 ≤ id ∧ id ≤ 0x44)) (written : s.settings.write id (signedOf 32 raw) = some v) :
    s.handleWriteSetting id account raw =
      .durable ((State.applySetting { s with settings := v } id).hand .settings) [.settings] [] := by
  simp [State.handleWriteSetting, State.writeDevice, range, written]

theorem State.handleWriteSetting_deviceRefused {s : State} {id account raw : Nat}
    (range : ¬(0x40 ≤ id ∧ id ≤ 0x44)) (none_ : s.settings.write id (signedOf 32 raw) = none) :
    s.handleWriteSetting id account raw = .refusal s .badRequest := by
  simp [State.handleWriteSetting, State.writeDevice, range, none_]

section
variable (s : State) (i : AccountIx) (id : Nat) (b : Account)

theorem State.accountWritten_changesOnly : s.changesOnly (s.accountWritten i id b) [.accounts, .alerts, .port] :=
  State.changesOnly_ite
    (State.changesOnly_then (s.setAccount_changesOnly i b) (State.evalThresholds_changesOnly _ i) (by simp) (by simp))
    (State.changesOnly_mono (s.setAccount_changesOnly i b) (by simp))

theorem State.accountWritten_account_same : (s.accountWritten i id b).account i = b := by
  unfold State.accountWritten
  split <;> simp

theorem State.accountWritten_account_other {j : AccountIx} (h : i ≠ j) :
    (s.accountWritten i id b).account j = s.account j := by
  unfold State.accountWritten
  split <;> simp [h]

/-- A written threshold has both conditions evaluated; a written weight leaves them (R11, R16). -/
theorem State.accountWritten_thresholds (range : id ≤ 0x44) :
    if 0x43 ≤ id then s.thresholdsSettled (s.accountWritten i id b) i
    else s.accountWritten i id b = s.setAccount i b := by
  unfold State.accountWritten
  split
  · rw [if_pos (by omega)]
    exact (s.setAccount i b).evalThresholds_settled i
  · exact if_neg (by omega)

end

/-- A write of a per-account setting answered after the write of the account's record. -/
theorem exec_writeSetting_account {s : State} {i : AccountIx} {b : Account} {id a v3 v2 v1 v0 : Byte} {rest : List Byte}
    (hears : s.hears 3) (resting : s.atRest = true) (d : s.defers) (range : 0x40 ≤ id.toNat ∧ id.toNat ≤ 0x44)
    (owner : accountOf a.toNat = some i)
    (written : (s.account i).writeSetting id.toNat (nat32 v3 v2 v1 v0) = some b) :
    ∃ t, exec (.writeSetting 3 (id :: a :: v3 :: v2 :: v1 :: v0 :: rest)) s = .next t ∧
      t.account i = { b with lastWrite := (t.account i).lastWrite } ∧ s.keepsOtherAccounts t i ∧
      t.store.covered (.account i) = true ∧ t.waitsWith 3 0x40#8 [] [.account i] ∧
      (if 0x43 ≤ id.toNat then s.thresholdsSettled t i
        else s.thresholdsStand t i ∧ t.alerts = s.alerts ∧ t.port = s.port) ∧
      s.changesOnly t [.time, .accounts, .alerts, .port, .store, .engine] := by
  have changed := s.restartLinger.accountWritten_changesOnly i id.toNat b
  have defers : (s.restartLinger.accountWritten i id.toNat b).defers :=
    State.defers_of_onlyMarks (State.onlyMarks_of_changesOnly changed (by decide)) d
  obtain ⟨t, run, awaited⟩ := exec_deferred (c := .writeSetting 3 (id :: a :: v3 :: v2 :: v1 :: v0 :: rest))
    (q := .writeSetting id.toNat a.toNat (nat32 v3 v2 v1 v0)) rfl rfl hears resting
    (State.handleWriteSetting_account (s := s.restartLinger) range owner written) defers
  have account := awaited.account_same i rfl
  rw [State.accountWritten_account_same] at account
  have all := State.changesOnly_then (rs := [.accounts, .alerts, .port, .store, .engine]) changed awaited.changes
    (by simp) (by simp)
  refine ⟨t, run, account, fun j other => ?_, awaited.covered, awaited.waits, ?_,
    State.changesOnly_then s.restartLinger_changesOnly all (by simp) (by simp)⟩
  · rw [awaited.account_other j (by simpa using other.symm), State.accountWritten_account_other _ _ _ _ other.symm]
    rfl
  · have thresholds := s.restartLinger.accountWritten_thresholds i id.toNat b range.2
    by_cases threshold : 0x43 ≤ id.toNat
    · rw [if_pos threshold] at thresholds ⊢
      exact awaited.settled thresholds
    · rw [if_neg threshold] at thresholds ⊢
      refine ⟨⟨?_, ?_⟩, ?_, ?_⟩
      · rw [awaited.serviceDue, thresholds]
        rfl
      · rw [awaited.lifeLimit, thresholds]
        rfl
      · rw [awaited.alerts, thresholds]
        rfl
      · rw [show t.port = _ from awaited.changes .port (by decide), thresholds]
        rfl

/-! ### A device setting -/

/-- The working settings replaced. -/
def State.withSettings (s : State) (v : Settings) : State := { s with settings := v }

theorem State.withSettings_changesOnly (s : State) (v : Settings) : s.changesOnly (s.withSettings v) [.settings] := by
  intro p hp
  cases p <;> first | rfl | simp at hp

theorem State.reclassifyAll_onlyMarks (s : State) : s.onlyMarks s.reclassifyAll := by
  have each : ∀ (l : List SignalName) (x : State), x.onlyMarks (l.foldl State.reclassify x) := by
    intro l
    induction l with
    | nil => exact fun _ => State.onlyMarks_of_same rfl
    | cons n l ih =>
      intro x
      refine State.onlyMarks_trans ?_ (ih _)
      exact State.onlyMarks_ite (x.passUnknown_onlyMarks n _)
        (State.onlyMarks_ite (State.onlyMarks_of_same rfl) (State.onlyMarks_of_same rfl))
  exact each signalNames s

/-- What a written device setting does at once, by its id (R32, R88, R158). -/
theorem State.applySetting_cases (s : State) (id : Nat) :
    ((id = 0x01 ∨ id = 0x02) ∧ s.applySetting id = s.reclassifyAll) ∨
      (id = 0x0F ∧ s.applySetting id = s.reformLatch) ∨
      (id ≠ 0x01 ∧ id ≠ 0x02 ∧ id ≠ 0x0F ∧
        s.applySetting id =
          { s with store := { s.store with checkpointMs := if id = 0x14 then 0 else s.store.checkpointMs } }) := by
  unfold State.applySetting
  by_cases limits : id = 0x01 ∨ id = 0x02
  · exact .inl ⟨limits, if_pos limits⟩
  · by_cases mode : id = 0x0F
    · exact .inr (.inl ⟨mode, by rw [if_neg limits, if_pos mode]⟩)
    · refine .inr (.inr ⟨fun e => limits (.inl e), fun e => limits (.inr e), mode, ?_⟩)
      rw [if_neg limits, if_neg mode]
      split <;> rfl

theorem State.applySetting_changesOnly (s : State) (id : Nat) : s.changesOnly (s.applySetting id) intakeParts := by
  rcases s.applySetting_cases id with ⟨-, e⟩ | ⟨-, e⟩ | ⟨-, -, -, e⟩ <;> rw [e]
  · exact s.reclassifyAll_changesOnly
  · exact State.changesOnly_mono s.reformLatch_changesOnly (by simp)
  · intro p hp
    cases p <;> first | rfl | simp at hp

theorem State.applySetting_defers {s : State} (d : s.defers) (id : Nat) : (s.applySetting id).defers := by
  rcases s.applySetting_cases id with ⟨-, e⟩ | ⟨-, e⟩ | ⟨-, -, -, e⟩ <;> rw [e]
  · exact State.defers_of_onlyMarks s.reclassifyAll_onlyMarks d
  · exact State.defers_of_onlyMarks (State.onlyMarks_of_changesOnly s.reformLatch_changesOnly (by decide)) d
  · exact d

/-- Crank active at the new mode goes to the latch where it is determinable; nothing is triggered (R88). -/
theorem State.reformLatch_qualifier (s : State) :
    s.reformLatch.qualifier.latch =
        (crankActive s.settings.crankMode s.lines.crank s.intake.starterStatus.known).getD s.qualifier.latch ∧
      s.reformLatch.qualifier.ring = s.qualifier.ring ∧ s.reformLatch.qualifier.failures = s.qualifier.failures := by
  unfold State.reformLatch State.crankActiveNow
  cases crankActive s.settings.crankMode s.lines.crank s.intake.starterStatus.known <;> exact ⟨rfl, rfl, rfl⟩

/-- A write of a device setting answered after the write of record 5. -/
theorem exec_writeSetting_device {s : State} {v : Settings} {id a v3 v2 v1 v0 : Byte} {rest : List Byte}
    (hears : s.hears 3) (resting : s.atRest = true) (d : s.defers) (range : ¬(0x40 ≤ id.toNat ∧ id.toNat ≤ 0x44))
    (written : s.settings.write id.toNat (signedOf 32 (nat32 v3 v2 v1 v0)) = some v) :
    ∃ t, exec (.writeSetting 3 (id :: a :: v3 :: v2 :: v1 :: v0 :: rest)) s = .next t ∧
      ((s.restartLinger.withSettings v).applySetting id.toNat).awaited t 0x40#8 [] .settings :=
  exec_deferred (q := .writeSetting id.toNat a.toNat (nat32 v3 v2 v1 v0)) rfl rfl hears resting
    (State.handleWriteSetting_device (s := s.restartLinger) range written)
    (State.applySetting_defers (s := s.restartLinger.withSettings v) d id.toNat)

/-- What a written device setting changes where it acts on the Qualifier, the checkpoint timer or nothing else. -/
theorem State.awaited.changesOnly_settings {s u t : State} {v : Settings} {kind : Byte} {ps : List Part}
    (h : u.awaited t kind [] .settings) (applied : (s.restartLinger.withSettings v).changesOnly u ps) :
    s.changesOnly t ([.time, .settings, .store, .engine] ++ ps) := by
  have handed : u.changesOnly t [.store, .engine] := by
    intro p hp
    by_cases accounts : p = .accounts
    · subst accounts
      exact h.accounts (by simp)
    · exact h.changes p (by simp_all)
  have settings := State.changesOnly_then (rs := [.time, .settings]) s.restartLinger_changesOnly
    (s.restartLinger.withSettings_changesOnly v) (by simp) (by simp)
  have last := State.changesOnly_then (rs := ps ++ [.store, .engine]) applied handed (by simp) (by simp)
  refine State.changesOnly_then settings last (by simp) fun p named => ?_
  rcases List.mem_append.mp named with m | m
  · exact List.mem_append_right _ m
  · exact List.mem_append_left _ (by revert m; cases p <;> decide)

section
variable {s t : State} {v : Settings} {kind : Byte}

/-- After a write of the fresh or the hold limit each signal stands in the class of its own age (R32, R35). -/
theorem State.awaited.atLimits (h : (s.restartLinger.withSettings v).reclassifyAll.awaited t kind [] .settings) :
    (∀ n, t.intake.ageing n = { s.intake.ageing n with cls := (s.intake.ageing n).classAt v }) ∧
      t.intake.shiftBaseline =
        (if (s.intake.ageing .drivelineEvent).lost v then none else s.intake.shiftBaseline) ∧
      t.intake.engagementBaseline =
        (if (s.intake.ageing .drivelineEvent).lost v then none else s.intake.engagementBaseline) ∧
      t.store.checkpointMs = s.store.checkpointMs := by
  obtain ⟨ages, shift, engagement⟩ := (s.restartLinger.withSettings v).reclassifyAll_effect
  have elapsed := (State.reclassifyAll_onlyMarks (s.restartLinger.withSettings v)).checkpointMs
  rw [show t.intake = _ from h.changes .intake (by decide)]
  exact ⟨ages, shift, engagement, h.checkpointMs.trans elapsed⟩

/-- After a write of the crank line mode the latch is re-formed, with no trigger (R88). -/
theorem State.awaited.atMode (h : (s.restartLinger.withSettings v).reformLatch.awaited t kind [] .settings) :
    t.qualifier.latch =
        (crankActive v.crankMode s.lines.crank s.intake.starterStatus.known).getD s.qualifier.latch ∧
      t.qualifier.ring = s.qualifier.ring ∧ t.qualifier.failures = s.qualifier.failures ∧
      t.store.checkpointMs = s.store.checkpointMs ∧
      s.changesOnly t [.time, .settings, .qualifier, .store, .engine] := by
  have formed := (s.restartLinger.withSettings v).reformLatch_changesOnly
  have store : (s.restartLinger.withSettings v).reformLatch.store = s.store := formed .store (by decide)
  obtain ⟨latch, ring, failures⟩ := (s.restartLinger.withSettings v).reformLatch_qualifier
  rw [show t.qualifier = _ from h.changes .qualifier (by decide), h.checkpointMs, store]
  exact ⟨latch, ring, failures, rfl, State.changesOnly_mono (h.changesOnly_settings formed) (by simp)⟩

/-- After a write of another setting nothing but the checkpoint timer may have changed with it (R158). -/
theorem State.awaited.atOther {n : Nat}
    (h : State.awaited
      { s.restartLinger.withSettings v with
        store := { s.store with checkpointMs := if n = 0x14 then 0 else s.store.checkpointMs } } t kind [] .settings) :
    t.store.checkpointMs = (if n = 0x14 then 0 else s.store.checkpointMs) ∧
      s.changesOnly t [.time, .settings, .store, .engine] := by
  refine ⟨h.checkpointMs, State.changesOnly_mono (h.changesOnly_settings (v := v) (ps := [.store]) ?_) (by simp)⟩
  intro p hp
  cases p <;> first | rfl | simp at hp

end

/-- Settles O36: by account or device setting, each answered after its record's write, and the tables of R10 and R197. -/
theorem writeSettingStores : Obligations.WriteSettingStores := by
  refine ⟨fun s id a v3 v2 v1 v0 rest hears resting d room => ?_, fun v x => ?_, fun b raw => b.writeSetting_table raw⟩
  · have refused : s.restartLinger.handleWriteSetting id.toNat a.toNat (nat32 v3 v2 v1 v0) =
        .refusal s.restartLinger .badRequest →
          exec (.writeSetting 3 (id :: a :: v3 :: v2 :: v1 :: v0 :: rest)) s =
            .next (s.responded 3 0x40#8 .badRequest []) :=
      exec_refused (q := .writeSetting id.toNat a.toNat (nat32 v3 v2 v1 v0)) rfl rfl hears resting room
    by_cases range : 0x40 ≤ id.toNat ∧ id.toNat ≤ 0x44
    · simp only [if_pos range]
      cases owner : accountOf a.toNat with
      | none => exact ⟨_, refused (State.handleWriteSetting_accountRefused range (by simp [owner])), rfl⟩
      | some i =>
        cases written : (s.account i).writeSetting id.toNat (nat32 v3 v2 v1 v0) with
        | none =>
          refine ⟨_, refused (State.handleWriteSetting_accountRefused range fun j same => ?_), by simp [written]⟩
          rw [owner] at same
          cases same
          exact written
        | some b =>
          simp only [written]
          exact exec_writeSetting_account hears resting d range owner written
    · simp only [if_neg range]
      cases written : s.settings.write id.toNat (signedOf 32 (nat32 v3 v2 v1 v0)) with
      | none => exact ⟨_, refused (State.handleWriteSetting_deviceRefused range written), rfl⟩
      | some v =>
        obtain ⟨t, run, awaited⟩ := exec_writeSetting_device (a := a) (rest := rest) hears resting d range written
        have applied := (s.restartLinger.withSettings v).applySetting_changesOnly id.toNat
        have all := awaited.changesOnly_settings applied
        have settings := (awaited.changes .settings (by decide)).trans (applied .settings (by decide))
        refine ⟨t, run, settings, awaited.covered, awaited.waits, all .bands (by decide), all .log (by decide),
          all .lines (by decide), ?_⟩
        rcases (s.restartLinger.withSettings v).applySetting_cases id.toNat with
          ⟨limits, e⟩ | ⟨mode, e⟩ | ⟨one, two, mode, e⟩ <;> rw [e] at awaited
        · rcases limits with limit | limit <;> rw [limit] <;> exact awaited.atLimits
        · rw [mode]
          exact awaited.atMode
        · split
          · exact absurd ‹_› one
          · exact absurd ‹_› two
          · exact absurd ‹_› mode
          · exact awaited.atOther
  · refine ⟨rfl, rfl, rfl, rfl, rfl, rfl, rfl, rfl, rfl, rfl, rfl, rfl, rfl, rfl, ?_, rfl, rfl, rfl, rfl, rfl,
      fun k => v.write_filters k x, fun id outside => v.write_unknown id x outside⟩
    exact congrArg (fun m => some { v with crankMode := m }) (crankModeOf_eq x)

end Sys2Proof.Machine
end

section
/-! PROOFS. The threshold conditions through operations that do not touch them, and the confirm timer's expiry (O48). -/

namespace Sys2Proof.Machine

/-! ## Threshold conditions that stand -/

/-- From s to t the two threshold conditions of account i stand, in the Account Table and as the Alert Unit holds them. -/
structure State.sameConditions (s t : State) (i : AccountIx) : Prop where
  due : t.accounts.serviceDue[i] = s.accounts.serviceDue[i]
  life : t.accounts.lifeLimit[i] = s.accounts.lifeLimit[i]
  dueHeld : t.alerts.holds (accountPair i .serviceDue) = s.alerts.holds (accountPair i .serviceDue)
  lifeHeld : t.alerts.holds (accountPair i .lifeLimit) = s.alerts.holds (accountPair i .lifeLimit)

theorem State.sameConditions_refl (s : State) (i : AccountIx) : s.sameConditions s i := ⟨rfl, rfl, rfl, rfl⟩

theorem State.sameConditions_trans {s t u : State} {i : AccountIx} (h : s.sameConditions t i)
    (k : t.sameConditions u i) : s.sameConditions u i :=
  ⟨k.due.trans h.due, k.life.trans h.life, k.dueHeld.trans h.dueHeld, k.lifeHeld.trans h.lifeHeld⟩

theorem State.sameConditions_of_changesOnly {s t : State} {ps : List Part} (h : s.changesOnly t ps)
    (accounts : Part.accounts ∉ ps) (alerts : Part.alerts ∉ ps) (i : AccountIx) : s.sameConditions t i := by
  have copies : t.accounts = s.accounts := h .accounts accounts
  have held : t.alerts = s.alerts := h .alerts alerts
  exact ⟨by rw [copies], by rw [copies], by rw [held], by rw [held]⟩

theorem State.sameConditions_stand {s t : State} {i : AccountIx} (h : s.sameConditions t i) : s.thresholdsStand t i :=
  ⟨h.due, h.life⟩

/-- Conditions settled from a state in which they stood as in s. -/
theorem State.settled_from {s s' t : State} {i : AccountIx} (h : s.sameConditions s' i)
    (settled : s'.thresholdsSettled t i) : s.thresholdsSettled t i := by
  unfold State.thresholdsSettled at settled ⊢
  rw [← h.due, ← h.life]
  exact settled

/-- Conditions settled stay settled while they, the thresholds and since-service wear stand. -/
theorem State.settled_to {s t u : State} {i : AccountIx} (settled : s.thresholdsSettled t i)
    (h : t.sameConditions u i) (service : (u.account i).serviceThreshold = (t.account i).serviceThreshold)
    (lifetime : (u.account i).lifeThreshold = (t.account i).lifeThreshold)
    (wear : (u.account i).ssWear = (t.account i).ssWear) : s.thresholdsSettled u i := by
  unfold State.thresholdsSettled at settled ⊢
  dsimp only at settled ⊢
  rw [h.due, h.life, h.dueHeld, h.lifeHeld, service, lifetime, wear]
  exact settled

theorem State.changeAccount_sameConditions (s : State) (i j : AccountIx) (f : Account → Account) :
    s.sameConditions (s.changeAccount i f) j := by
  unfold State.changeAccount
  split
  · exact s.sameConditions_refl j
  · exact ⟨rfl, rfl, rfl, rfl⟩

/-- A report leaves the conditions of every account but its own pair's. -/
theorem State.report_sameConditions (s : State) (p : AlertPair) (v : Bool) (param : Option Byte) {i : AccountIx}
    (due : accountPair i .serviceDue ≠ p) (life : accountPair i .lifeLimit ≠ p) :
    s.sameConditions (s.report p v param) i :=
  ⟨rfl, rfl, State.holds_report_other s v param due, State.holds_report_other s v param life⟩

theorem State.raiseEvent_sameConditions (s : State) (p : AlertPair) (param : Option Byte) (i : AccountIx) :
    s.sameConditions (s.raiseEvent p param) i :=
  ⟨rfl, rfl, AlertUnit.holds_raise _ _ _ _ _, AlertUnit.holds_raise _ _ _ _ _⟩

/-- An evaluation of the thresholds of one account leaves the conditions of another. -/
theorem State.evalThresholds_sameConditions (s : State) {i j : AccountIx} (h : i ≠ j) :
    s.sameConditions (s.evalThresholds i) j := by
  have pair : ∀ c d : Cause, accountPair j c ≠ accountPair i d := by
    intro c d same
    simp only [accountPair, AlertPair.mk.injEq, Source.account.injEq] at same
    exact h same.1.symm
  have apart : i.val ≠ j.val := fun e => h (Fin.ext e)
  have first : s.sameConditions (s.evalServiceDue i) j := by
    unfold State.evalServiceDue
    dsimp only
    split
    · exact s.sameConditions_refl j
    · refine State.sameConditions_trans ?_ (State.report_sameConditions _ _ _ _ (pair _ _) (pair _ _))
      exact ⟨by simp [apart], rfl, rfl, rfl⟩
  refine State.sameConditions_trans (u := (s.evalServiceDue i).evalLifeLimit i) first ?_
  unfold State.evalLifeLimit
  dsimp only
  split
  · exact State.sameConditions_refl _ j
  · refine State.sameConditions_trans ?_ (State.report_sameConditions _ _ _ _ (pair _ _) (pair _ _))
    exact ⟨rfl, by simp [apart], rfl, rfl⟩

theorem State.evalCarried_sameConditions (s : State) {i j : AccountIx} (n : Nat) (h : i ≠ j) :
    s.sameConditions (s.evalCarried i n) j := by
  unfold State.evalCarried
  split
  · exact s.sameConditions_refl j
  · exact s.evalThresholds_sameConditions h

theorem State.credit_sameConditions (s : State) {i j : AccountIx} (n : Nat) (h : i ≠ j) :
    s.sameConditions (s.credit i n) j :=
  State.sameConditions_trans (s.changeAccount_sameConditions i j _) (State.evalCarried_sameConditions _ _ h)

/-- A credit settles the conditions of its account when it carries a whole unit, and leaves them otherwise (R12). -/
theorem State.credit_settles (s : State) (i : AccountIx) (n : Nat) :
    if (s.account i).increment n = 0 then s.thresholdsStand (s.credit i n) i
    else s.thresholdsSettled (s.credit i n) i := by
  have changed := s.changeAccount_sameConditions i i fun a => a.addCredit n
  have carried := (s.changeAccount i fun a => a.addCredit n).evalCarried_settles i ((s.account i).increment n)
  split at carried
  · next none_ =>
    rw [if_pos none_]
    exact ⟨carried.1.trans changed.due, carried.2.trans changed.life⟩
  · next some_ =>
    rw [if_neg some_]
    exact State.settled_from changed carried

/-! ## The end of an attempt (R103 to R105) -/

theorem State.raiseFailures_qualifier (s : State) (o : AttemptOutcome) :
    (s.raiseFailures o).qualifier = s.qualifier := by
  unfold State.raiseFailures
  split <;> rfl

/-- The end of an attempt: the next state, the count, and the entry at the end of the ring. -/
theorem State.endAttempt_qualifier (s : State) (a : Attempt) (o : AttemptOutcome) (q : QualifierState) :
    (s.endAttempt a o q).qualifier =
      { s.qualifier with
        state := q
        failures := failuresAfter s.qualifier.failures o
        ring := pushRing s.qualifier.ring (a.entry o) } := by
  unfold State.endAttempt
  rw [State.raiseFailures_qualifier]

/-- The end of a QUALIFIED attempt changes the Qualifier alone: nothing is raised. -/
theorem State.endAttempt_qualified_changesOnly (s : State) (a : Attempt) (q : QualifierState) :
    s.changesOnly (s.endAttempt a .qualified q) [.qualifier] := by
  intro p hp
  cases p <;> first | rfl | simp at hp

/-- The newest entry of the ring is the one pushed. -/
theorem getLast?_pushRing (ring : List HistoryEntry) (e : HistoryEntry) : (pushRing ring e).getLast? = some e := by
  have short : ring.length + 1 - ringPlaces ≤ ring.length := by
    simp only [ringPlaces]
    omega
  unfold pushRing
  rw [List.drop_append_of_le_length short, List.getLast?_append]
  rfl

/-! ## The postings of a qualified start (R98) -/

/-- ENGINE after a qualified start: one event, its credit, and a cold start if the flag is set. -/
theorem State.postQualified_account (s : State) (a : Attempt) :
    (s.postQualified a).account 0 =
      let x := ((s.account 0).addEvents 1).addCredit ((s.account 0).eventNumerator (startMultiplier s.settings a.cold))
      if a.cold then x.addColdStart else x := by
  unfold State.postQualified
  dsimp only
  split
  · rw [State.account_changeAccount_same, State.account_postEvents_same]
    rfl
  · rw [State.account_postEvents_same]
    rfl

theorem State.postQualified_account_other (s : State) (a : Attempt) {j : AccountIx} (h : j ≠ 0) :
    (s.postQualified a).account j = s.account j := by
  unfold State.postQualified
  dsimp only
  split
  · rw [State.account_changeAccount_other _ _ h.symm, State.account_postEvents_other _ _ _ h.symm]
  · exact State.account_postEvents_other _ _ _ h.symm

/-- The event credit of a start in 1/288,000 (R80, R81). -/
theorem Account.eventNumerator_eq (x : Account) (v : Settings) (cold : Bool) :
    x.eventNumerator (startMultiplier v cold) =
      x.eventWeight.getD 0 * (if cold then v.coldStartMultiplier else 8) * 36000 := by
  unfold Account.eventNumerator startMultiplier
  cases x.eventWeight with
  | none => simp
  | some w => rfl

/-- A posting of one event settles the conditions of its account when its credit carries a whole unit (R12, R14). -/
theorem State.postEvents_one_settles (s : State) (i : AccountIx) (m : Nat) :
    if (s.account i).increment ((s.account i).eventNumerator m) = 0 then s.thresholdsStand (s.postEvents i 1 m) i
    else s.thresholdsSettled (s.postEvents i 1 m) i := by
  have changed := s.changeAccount_sameConditions i i fun a => a.addEvents 1
  have credited := (s.changeAccount i fun a => a.addEvents 1).credit_settles i ((s.account i).eventNumerator m)
  rw [State.account_changeAccount_same] at credited
  have same : ((s.account i).addEvents 1).increment ((s.account i).eventNumerator m) =
      (s.account i).increment ((s.account i).eventNumerator m) := rfl
  rw [same] at credited
  split at credited
  · next none_ =>
    rw [if_pos none_]
    exact ⟨credited.1.trans changed.due, credited.2.trans changed.life⟩
  · next some_ =>
    rw [if_neg some_]
    exact State.settled_from changed credited

/-- A cold start counted after the posting leaves the conditions as the posting left them. -/
theorem State.postQualified_settles (s : State) (a : Attempt) :
    if (s.account 0).increment ((s.account 0).eventNumerator (startMultiplier s.settings a.cold)) = 0 then
      s.thresholdsStand (s.postQualified a) 0
    else s.thresholdsSettled (s.postQualified a) 0 := by
  have posted := s.postEvents_one_settles 0 (startMultiplier s.settings a.cold)
  have counted := (s.postEvents 0 1 (startMultiplier s.settings a.cold)).changeAccount_sameConditions 0 0
    Account.addColdStart
  have account := (s.postEvents 0 1 (startMultiplier s.settings a.cold)).account_changeAccount_same 0
    Account.addColdStart
  unfold State.postQualified
  dsimp only
  split at posted
  · next none_ =>
    rw [if_pos none_]
    split
    · exact ⟨counted.due.trans posted.1, counted.life.trans posted.2⟩
    · exact posted
  · next some_ =>
    rw [if_neg some_]
    split
    · exact State.settled_to posted counted (by rw [account]; rfl) (by rw [account]; rfl) (by rw [account]; rfl)
    · exact posted

/-! ## Expiry of the confirm timer (O48) -/

theorem Account.addCredit_saturated {a : Account} (n : Nat) (h : a.saturated = true) :
    (a.addCredit n).saturated = true := by
  simp [Account.addCredit, h]

/-- A saturated account stays so through a qualified start (R8). -/
theorem State.postQualified_saturated (s : State) (a : Attempt) (h : (s.account 0).saturated = true) :
    ((s.postQualified a).account 0).saturated = true := by
  have event : ((s.account 0).addEvents 1).saturated = true := by simp [Account.addEvents, h]
  have credited := Account.addCredit_saturated ((s.account 0).eventNumerator (startMultiplier s.settings a.cold)) event
  rw [State.postQualified_account]
  dsimp only
  split
  · simp [Account.addColdStart, credited]
  · exact credited

/-- Settles O48: with speed known the postings, then the QUALIFIED end, which touches the Qualifier alone; with it UNKNOWN
the UNVERIFIED end. -/
theorem confirmExpiryQualifies : Obligations.ConfirmExpiryQualifies := by
  intro s a left running confirming
  have run : exec .confirmExpiry s = .next s.confirmDone := congrArg Host.Outcome.next (if_pos running)
  have done : s.confirmDone =
      if s.intake.engineSpeed.known.isSome then (s.postQualified a).endAttempt a .qualified (.running none)
      else s.endAttempt a .unverified .idle := by
    unfold State.confirmDone
    rw [confirming]
  rw [run, done]
  refine ⟨_, rfl, ?_⟩
  by_cases known : s.intake.engineSpeed.known.isSome = true
  · simp only [if_pos known]
    have posted := s.postQualified_changesOnly a
    have ended := (s.postQualified a).endAttempt_qualified_changesOnly a (.running none)
    have qualifier : (s.postQualified a).qualifier = s.qualifier := posted .qualifier (by decide)
    have thresholds := s.postQualified_settles a
    rw [Account.eventNumerator_eq] at thresholds
    rw [State.endAttempt_qualifier, qualifier, State.account_of_changesOnly ended (by decide)]
    refine ⟨rfl, rfl, rfl, getLast?_pushRing _ _, ?_, s.postQualified_saturated a, thresholds, fun j other => ?_,
      State.changesOnly_then posted ended (by simp) (by simp)⟩
    · rw [s.postQualified_account a, Account.eventNumerator_eq]
      cases a.cold <;> rfl
    · rw [State.account_of_changesOnly ended (by decide)]
      exact s.postQualified_account_other a other
  · simp only [if_neg known]
    rw [State.endAttempt_qualifier]
    exact ⟨rfl, rfl, rfl, getLast?_pushRing _ _, s.endAttempt_changesOnly _ _ _⟩

end Sys2Proof.Machine
end

section
/-! PROOFS. The metering pass: what a period leaves in each account and of its threshold conditions, for the times and
revolutions (O13) and for the credits and bins (O14). -/

namespace Sys2Proof.Machine

/-! ## Writes that begin only stamp (R9) -/

/-- From s to t the accounts change at most in their last write times, and no threshold condition changes. -/
structure State.onlyStamps (s t : State) : Prop where
  account : ∀ i, t.account i = { s.account i with lastWrite := (t.account i).lastWrite }
  conditions : ∀ i, s.sameConditions t i

theorem State.onlyStamps_of_same {s t : State} (accounts : t.accounts = s.accounts) (alerts : t.alerts = s.alerts) :
    s.onlyStamps t where
  account i := by
    unfold State.account
    rw [accounts]
  conditions i := ⟨by rw [accounts], by rw [accounts], by rw [alerts], by rw [alerts]⟩

theorem State.onlyStamps_trans {s t u : State} (h : s.onlyStamps t) (k : t.onlyStamps u) : s.onlyStamps u where
  account i := by rw [k.account i, h.account i]
  conditions i := State.sameConditions_trans (h.conditions i) (k.conditions i)

theorem State.startWrite_onlyStamps (s : State) (r : RecordId) : s.onlyStamps (s.startWrite r) where
  account i := by
    rw [State.startWrite_account]
    split <;> rfl
  conditions i := by
    have alerts : (s.startWrite r).alerts = s.alerts := s.startWrite_changesOnly r .alerts (by decide)
    exact ⟨by rw [State.startWrite_serviceDue], by rw [State.startWrite_lifeLimit], by rw [alerts], by rw [alerts]⟩

theorem State.nextWrite_onlyStamps (s : State) : s.onlyStamps s.nextWrite := by
  unfold State.nextWrite
  split
  · exact State.onlyStamps_of_same rfl rfl
  · next r rest _ =>
    exact State.onlyStamps_trans (t := { s with store := { s.store with state := .writing, queue := rest } })
      (State.onlyStamps_of_same rfl rfl) (State.startWrite_onlyStamps _ r)

theorem State.startIfReady_onlyStamps (s : State) : s.onlyStamps s.startIfReady := by
  unfold State.startIfReady
  split
  · exact s.nextWrite_onlyStamps
  all_goals exact State.onlyStamps_of_same rfl rfl

theorem State.hand_onlyStamps (s : State) (r : RecordId) : s.onlyStamps (s.hand r) := by
  have marked : s.onlyStamps (s.markRecord r) := State.onlyStamps_of_same rfl rfl
  have queued : s.onlyStamps (State.startIfReady { s.markRecord r with store := (s.markRecord r).store.append r }) :=
    State.onlyStamps_trans (t := { s.markRecord r with store := (s.markRecord r).store.append r })
      (State.onlyStamps_of_same rfl rfl) (State.startIfReady_onlyStamps _)
  unfold State.hand
  dsimp only
  split
  · exact marked
  · exact marked
  all_goals exact queued

/-! ## Activation of staged parts (R55) -/

theorem BandEntry.activated_of_not_staged {e : BandEntry} (h : e.hasStaged = false) : e.activated = e := by
  cases e
  simp_all [BandEntry.hasStaged, BandEntry.activated]

theorem State.activateBand_onlyStamps (s : State) (k : Fin 16) : s.onlyStamps (s.activateBand k) := by
  unfold State.activateBand
  split
  · exact State.onlyStamps_trans (t := s.setBand k s.bands.entries[k].activated) (State.onlyStamps_of_same rfl rfl)
      (State.hand_onlyStamps _ _)
  · exact State.onlyStamps_of_same rfl rfl

theorem State.activateStaged_onlyStamps (s : State) : s.onlyStamps s.activateStaged := by
  have each : ∀ (l : List (Fin 16)) (x : State), x.onlyStamps (l.foldl State.activateBand x) := by
    intro l
    induction l with
    | nil => exact fun _ => State.onlyStamps_of_same rfl rfl
    | cons k l ih => exact fun x => State.onlyStamps_trans (x.activateBand_onlyStamps k) (ih _)
  exact each _ s

/-- Entry k made active, whether a part was staged or not. -/
theorem State.activateBand_entries (s : State) (k : Fin 16) :
    (s.activateBand k).bands.entries = s.bands.entries.set k s.bands.entries[k].activated := by
  unfold State.activateBand
  split
  · rw [show ((s.setBand k s.bands.entries[k].activated).hand (.band k)).bands = _ from
      State.hand_changesOnly _ _ .bands (by decide)]
    rfl
  · next none_ =>
    rw [BandEntry.activated_of_not_staged (by simpa using none_)]
    simp

/-- The entries after a pass over some of them. -/
theorem State.foldl_activateBand_entries (l : List (Fin 16)) (s : State) (j : Fin 16) :
    (l.foldl State.activateBand s).bands.entries[j] =
      if j ∈ l then s.bands.entries[j].activated else s.bands.entries[j] := by
  induction l generalizing s with
  | nil => rfl
  | cons k l ih =>
    rw [List.foldl_cons, ih, State.activateBand_entries]
    by_cases same : k = j
    · subst same
      have again (e : BandEntry) : e.activated.activated = e.activated := BandEntry.activated_of_not_staged rfl
      simp [again]
    · simp [Fin.val_inj, same, Ne.symm same]

theorem State.activateStaged_entries (s : State) :
    s.activateStaged.bands.entries = s.bands.entries.map BandEntry.activated := by
  refine Vector.ext fun k lt => ?_
  have entry := State.foldl_activateBand_entries (List.finRange 16) s ⟨k, lt⟩
  rw [if_pos (List.mem_finRange _)] at entry
  simpa [State.activateStaged] using entry

/-! ## One account's period (R64 to R77) -/

/-- The account as a period leaves it, by its activity and the entries that select its bin and weight. -/
def State.meteredAccount (s : State) (es : Vector BandEntry 16) (i : AccountIx) (a : Account) : Account :=
  match activity s.settings s.lines.crank s.intake i with
  | some true =>
    (a.addActive (selectedBin es (winner es s.intake i))).addCredit
      (selectedWeight es a.baseWeight (winner es s.intake i) * periodMultiplier s.settings s.intake i)
  | some false => a
  | none => if s.lines.ign then a.addUnobserved.addCredit (a.fallbackWeight * 8) else a

/-- The whole units that the credit of the period carries into wear. -/
def State.carriedUnits (s : State) (es : Vector BandEntry 16) (i : AccountIx) (a : Account) : Nat :=
  match activity s.settings s.lines.crank s.intake i with
  | some true =>
    a.increment (selectedWeight es a.baseWeight (winner es s.intake i) * periodMultiplier s.settings s.intake i)
  | some false => 0
  | none => if s.lines.ign then a.increment (a.fallbackWeight * 8) else 0

theorem State.meterAccount_account_same (s : State) (i : AccountIx) :
    (s.meterAccount i).account i = s.meteredAccount s.bands.entries i (s.account i) := by
  unfold State.meterAccount State.meteredAccount
  rcases activity s.settings s.lines.crank s.intake i with _ | _ | _
  · dsimp only
    split
    · exact s.account_unobservedPeriod_same i
    · rfl
  · exact State.account_of_changesOnly (s.clearUnobserved_changesOnly i) (by decide) i
  · exact s.account_activePeriod_same i

/-- A report of UNOBSERVED leaves every threshold condition. -/
theorem State.reportUnobserved_sameConditions (s : State) (i j : AccountIx) (v : Bool) (param : Option Byte) :
    s.sameConditions (s.report (accountPair i .unobserved) v param) j :=
  s.report_sameConditions _ v param (by simp [accountPair]) (by simp [accountPair])

theorem State.clearUnobserved_sameConditions (s : State) (i j : AccountIx) :
    s.sameConditions (s.clearUnobserved i) j := by
  unfold State.clearUnobserved
  split
  · exact State.sameConditions_trans (t := s.setUnobservedNow i false) ⟨rfl, rfl, rfl, rfl⟩
      (State.reportUnobserved_sameConditions _ i j _ _)
  · exact s.sameConditions_refl j

theorem State.noteUnobserved_sameConditions (s : State) (i j : AccountIx) :
    s.sameConditions (s.noteUnobserved i) j := by
  unfold State.noteUnobserved
  split
  · exact s.sameConditions_refl j
  · exact State.sameConditions_trans (t := s.setUnobservedNow i true) ⟨rfl, rfl, rfl, rfl⟩
      (State.reportUnobserved_sameConditions _ i j _ _)

theorem State.noteWinner_sameConditions (s : State) (i j : AccountIx) (w : Option (Fin 16)) :
    s.sameConditions (s.noteWinner i w) j := by
  have noted : s.sameConditions { s with meter := { s.meter with lastWinner := s.meter.lastWinner.set i w } } j :=
    ⟨rfl, rfl, rfl, rfl⟩
  unfold State.noteWinner
  dsimp only
  split
  · split
    · exact State.sameConditions_trans noted (State.raiseEvent_sameConditions _ _ _ j)
    · exact noted
  · exact noted

theorem State.flagOpen_sameConditions (s : State) (f : SegmentFlags → SegmentFlags) (j : AccountIx) :
    s.sameConditions (s.flagOpen f) j :=
  State.sameConditions_of_changesOnly (s.flagOpen_changesOnly f) (by decide) (by decide) j

/-- An active period up to its credit: flag, winner, time and bin. -/
theorem State.activePeriod_eq (s : State) (i : AccountIx) :
    ∃ x : State, (∀ j, s.sameConditions x j) ∧ (x.account i).increment = (s.account i).increment ∧
      s.activePeriod i = x.credit i
        (selectedWeight s.bands.entries (s.account i).baseWeight (winner s.bands.entries s.intake i) *
          periodMultiplier s.settings s.intake i) := by
  refine ⟨_, fun j => ?_, ?_, rfl⟩
  · exact State.sameConditions_trans
      (State.sameConditions_trans (s.clearUnobserved_sameConditions i j) (State.noteWinner_sameConditions _ i j _))
      (State.changeAccount_sameConditions _ i j _)
  · rw [State.account_changeAccount_same, State.account_of_changesOnly (State.noteWinner_changesOnly _ i _) (by decide),
      State.account_of_changesOnly (s.clearUnobserved_changesOnly i) (by decide)]
    rfl

/-- An unobserved period up to the evaluation of the thresholds. -/
theorem State.unobservedPeriod_eq (s : State) (i : AccountIx) :
    ∃ x : State, (∀ j, s.sameConditions x j) ∧
      s.unobservedPeriod i = x.evalCarried i ((s.account i).increment ((s.account i).fallbackWeight * 8)) :=
  ⟨_, fun j => State.sameConditions_trans (s.changeAccount_sameConditions i j _)
    (State.sameConditions_trans (State.noteUnobserved_sameConditions _ i j) (State.flagOpen_sameConditions _ _ j)), rfl⟩

/-- A result of settling from a state with the same conditions. -/
theorem State.settles_from {s x t : State} {i : AccountIx} {n : Nat} (h : s.sameConditions x i)
    (settles : if n = 0 then x.thresholdsStand t i else x.thresholdsSettled t i) :
    if n = 0 then s.thresholdsStand t i else s.thresholdsSettled t i := by
  split at settles
  · next none_ =>
    rw [if_pos none_]
    exact ⟨settles.1.trans h.due, settles.2.trans h.life⟩
  · next some_ =>
    rw [if_neg some_]
    exact State.settled_from h settles

/-- The conditions of the account metered settle when its credit carries a whole unit, and stand otherwise (R12). -/
theorem State.meterAccount_settles (s : State) (i : AccountIx) :
    if s.carriedUnits s.bands.entries i (s.account i) = 0 then s.thresholdsStand (s.meterAccount i) i
    else s.thresholdsSettled (s.meterAccount i) i := by
  unfold State.meterAccount State.carriedUnits
  rcases activity s.settings s.lines.crank s.intake i with _ | _ | _
  · dsimp only
    split
    · obtain ⟨x, same, e⟩ := s.unobservedPeriod_eq i
      rw [e]
      exact State.settles_from (same i) (x.evalCarried_settles i _)
    · exact ⟨rfl, rfl⟩
  · exact State.sameConditions_stand (s.clearUnobserved_sameConditions i i)
  · obtain ⟨x, same, units, e⟩ := s.activePeriod_eq i
    have credited := x.credit_settles i
      (selectedWeight s.bands.entries (s.account i).baseWeight (winner s.bands.entries s.intake i) *
        periodMultiplier s.settings s.intake i)
    rw [units] at credited
    dsimp only
    rw [e]
    exact State.settles_from (same i) credited

/-- The metering of one account leaves the conditions of another. -/
theorem State.meterAccount_sameConditions (s : State) {i j : AccountIx} (h : i ≠ j) :
    s.sameConditions (s.meterAccount i) j := by
  unfold State.meterAccount
  split
  · obtain ⟨x, same, -, e⟩ := s.activePeriod_eq i
    rw [e]
    exact State.sameConditions_trans (same j) (x.credit_sameConditions _ h)
  · exact s.clearUnobserved_sameConditions i j
  · split
    · obtain ⟨x, same, e⟩ := s.unobservedPeriod_eq i
      rw [e]
      exact State.sameConditions_trans (same j) (x.evalCarried_sameConditions _ h)
    · exact s.sameConditions_refl j

/-! ## The five accounts in turn (R64) -/

/-- What the period of an account depends on stands through the metering of the others. -/
theorem State.metered_congr {s t : State} {ps : List Part} (h : s.changesOnly t ps) (settings : Part.settings ∉ ps)
    (lines : Part.lines ∉ ps) (intake : Part.intake ∉ ps) (bands : Part.bands ∉ ps) (i : AccountIx) (a : Account) :
    t.meteredAccount t.bands.entries i a = s.meteredAccount s.bands.entries i a ∧
      t.carriedUnits t.bands.entries i a = s.carriedUnits s.bands.entries i a := by
  have v : t.settings = s.settings := h .settings settings
  have l : t.lines = s.lines := h .lines lines
  have x : t.intake = s.intake := h .intake intake
  have b : t.bands = s.bands := h .bands bands
  unfold State.meteredAccount State.carriedUnits
  rw [v, l, x, b]
  exact ⟨rfl, rfl⟩

/-- An account's figures after the metering of a list of accounts. -/
theorem State.foldl_meterAccount_account (l : List AccountIx) (once : l.Nodup) (s : State) (i : AccountIx) :
    (l.foldl State.meterAccount s).account i =
      if i ∈ l then s.meteredAccount s.bands.entries i (s.account i) else s.account i := by
  induction l generalizing s with
  | nil => rfl
  | cons j l ih =>
    obtain ⟨out, once⟩ := List.nodup_cons.mp once
    obtain ⟨metered, -⟩ := State.metered_congr (s.meterAccount_changesOnly j) (by decide) (by decide) (by decide)
      (by decide) i (s.account i)
    rw [List.foldl_cons, ih once]
    by_cases same : j = i
    · subst same
      rw [if_neg out, if_pos (List.mem_cons_self ..), State.meterAccount_account_same]
    · rw [s.account_meterAccount_other same, metered]
      simp [Ne.symm same]

/-- An account's conditions after the metering of a list of accounts. -/
theorem State.foldl_meterAccount_settles (l : List AccountIx) (once : l.Nodup) (s : State) (i : AccountIx) :
    (i ∈ l →
        if s.carriedUnits s.bands.entries i (s.account i) = 0 then s.thresholdsStand (l.foldl State.meterAccount s) i
        else s.thresholdsSettled (l.foldl State.meterAccount s) i) ∧
      (i ∉ l → s.sameConditions (l.foldl State.meterAccount s) i) := by
  induction l generalizing s with
  | nil => exact ⟨fun m => absurd m (List.not_mem_nil), fun _ => s.sameConditions_refl i⟩
  | cons j l ih =>
    obtain ⟨out, once⟩ := List.nodup_cons.mp once
    obtain ⟨-, units⟩ := State.metered_congr (s.meterAccount_changesOnly j) (by decide) (by decide) (by decide)
      (by decide) i (s.account i)
    obtain ⟨inside, outside⟩ := ih once (s.meterAccount j)
    refine ⟨fun m => ?_, fun m => ?_⟩
    · by_cases same : j = i
      · subst same
        have rest := outside out
        have account := State.foldl_meterAccount_account l once (s.meterAccount j) j
        rw [if_neg out] at account
        have settles := s.meterAccount_settles j
        rw [List.foldl_cons]
        split at settles
        · next none_ =>
          rw [if_pos none_]
          exact ⟨rest.due.trans settles.1, rest.life.trans settles.2⟩
        · next some_ =>
          rw [if_neg some_]
          exact State.settled_to settles rest (by rw [account]) (by rw [account]) (by rw [account])
      · have later := inside ((List.mem_cons.mp m).resolve_left (Ne.symm same))
        rw [s.account_meterAccount_other same, units] at later
        exact State.settles_from (s.meterAccount_sameConditions same) later
    · obtain ⟨differs, rest⟩ := not_or.mp (fun h => m (List.mem_cons.mpr h))
      exact State.sameConditions_trans (s.meterAccount_sameConditions (Ne.symm differs)) (outside rest)

/-! ## The whole pass -/

/-- The five accounts metered after the activation. -/
def State.meteredAll (s : State) : State := ([0, 1, 2, 3, 4] : List AccountIx).foldl State.meterAccount s.activateStaged

theorem State.meteringPass_eq (s : State) : s.meteringPass = s.meteredAll.revolutions := by
  simp only [State.meteringPass, State.meteredAll, List.foldl_cons, List.foldl_nil]

/-! The metering of an account leaves the timer. -/

theorem State.report_meter (s : State) (p : AlertPair) (v : Bool) (param : Option Byte) :
    (s.report p v param).meter = s.meter := s.report_changesOnly p v param .meter (by decide)

theorem State.clearUnobserved_timer (s : State) (i : AccountIx) :
    (s.clearUnobserved i).meter.timer = s.meter.timer := by
  unfold State.clearUnobserved
  split
  · rw [State.report_meter]
    rfl
  · rfl

theorem State.noteUnobserved_timer (s : State) (i : AccountIx) : (s.noteUnobserved i).meter.timer = s.meter.timer := by
  unfold State.noteUnobserved
  split
  · rfl
  · rw [State.report_meter]
    rfl

theorem State.noteWinner_timer (s : State) (i : AccountIx) (w : Option (Fin 16)) :
    (s.noteWinner i w).meter.timer = s.meter.timer := by
  unfold State.noteWinner
  dsimp only
  split
  · split
    · rw [show (State.raiseEvent _ _ _).meter = _ from State.raiseEvent_changesOnly _ _ _ .meter (by decide)]
    · rfl
  · rfl

theorem State.activePeriod_timer (s : State) (i : AccountIx) : (s.activePeriod i).meter.timer = s.meter.timer := by
  unfold State.activePeriod
  dsimp only
  rw [show (State.credit _ i _).meter = _ from State.credit_changesOnly _ i _ .meter (by decide),
    show (State.changeAccount _ i _).meter = _ from State.changeAccount_changesOnly _ i _ .meter (by decide),
    State.noteWinner_timer, State.clearUnobserved_timer]

theorem State.unobservedPeriod_timer (s : State) (i : AccountIx) :
    (s.unobservedPeriod i).meter.timer = s.meter.timer := by
  unfold State.unobservedPeriod
  dsimp only
  rw [show (State.evalCarried _ i _).meter = _ from State.evalCarried_changesOnly _ i _ .meter (by decide),
    show (State.flagOpen _ _).meter = _ from State.flagOpen_changesOnly _ _ .meter (by decide),
    State.noteUnobserved_timer,
    show (State.changeAccount _ i _).meter = _ from State.changeAccount_changesOnly _ i _ .meter (by decide)]

theorem State.meterAccount_timer (s : State) (i : AccountIx) : (s.meterAccount i).meter.timer = s.meter.timer := by
  unfold State.meterAccount
  split
  · exact s.activePeriod_timer i
  · exact s.clearUnobserved_timer i
  · split
    · exact s.unobservedPeriod_timer i
    · rfl

theorem State.foldl_meterAccount_timer (l : List AccountIx) (s : State) :
    (l.foldl State.meterAccount s).meter.timer = s.meter.timer := by
  induction l generalizing s with
  | nil => rfl
  | cons i l ih => rw [List.foldl_cons, ih, State.meterAccount_timer]

theorem State.meteringPass_timer (s : State) : s.meteringPass.meter.timer = s.meter.timer := by
  rw [State.meteringPass_eq, show State.meter (State.revolutions _) = _ from
    State.revolutions_changesOnly _ .meter (by decide), State.meteredAll, State.foldl_meterAccount_timer,
    show s.activateStaged.meter = _ from s.activateStaged_changesOnly .meter (by decide)]

/-- The entries with every staged part active (R55). -/
def State.activeEntries (s : State) : Vector BandEntry 16 := s.bands.entries.map BandEntry.activated

/-- The time of a write that begins passes through the period of its account. -/
theorem State.meteredAccount_lastWrite (s : State) (es : Vector BandEntry 16) (i : AccountIx) (a : Account)
    (time : Option Nat) :
    s.meteredAccount es i { a with lastWrite := time } = { s.meteredAccount es i a with lastWrite := time } := by
  unfold State.meteredAccount
  rcases activity s.settings s.lines.crank s.intake i with _ | _ | _
  · by_cases ign : s.lines.ign = true
    · simp only [if_pos ign]
      rfl
    · simp only [if_neg ign]
  · rfl
  · rfl

/-- The activation leaves what a period does to an account but for the time of a write that begins. -/
theorem State.activateStaged_period (s : State) (i : AccountIx) :
    s.activateStaged.meteredAccount s.activateStaged.bands.entries i (s.activateStaged.account i) =
        { s.meteredAccount s.activeEntries i (s.account i) with lastWrite := (s.activateStaged.account i).lastWrite } ∧
      s.activateStaged.carriedUnits s.activateStaged.bands.entries i (s.activateStaged.account i) =
        s.carriedUnits s.activeEntries i (s.account i) := by
  have rest := s.activateStaged_changesOnly
  have settings : s.activateStaged.settings = s.settings := rest .settings (by decide)
  have lines : s.activateStaged.lines = s.lines := rest .lines (by decide)
  have intake : s.activateStaged.intake = s.intake := rest .intake (by decide)
  have entries : s.activateStaged.bands.entries = s.activeEntries := s.activateStaged_entries
  have period (a : Account) :
      s.activateStaged.meteredAccount s.activateStaged.bands.entries i a = s.meteredAccount s.activeEntries i a := by
    unfold State.meteredAccount
    rw [settings, lines, intake, entries]
  have units (a : Account) :
      s.activateStaged.carriedUnits s.activateStaged.bands.entries i a = s.carriedUnits s.activeEntries i a := by
    unfold State.carriedUnits
    rw [settings, lines, intake, entries]
  rw [period, units, s.activateStaged_onlyStamps.account i]
  generalize (s.activateStaged.account i).lastWrite = time
  exact ⟨s.meteredAccount_lastWrite _ i _ time, rfl⟩

/-- The revolutions of the pass in account i (R79). -/
def State.revolved (s : State) (i : AccountIx) (a : Account) : Account :=
  match s.intake.outputSpeed.known with
  | some v => if i = 4 then a.addRevolutions v.toNat else a
  | none => a

theorem State.revolutions_account (s : State) (i : AccountIx) :
    s.revolutions.account i = s.revolved i (s.account i) := by
  unfold State.revolutions State.revolved
  cases s.intake.outputSpeed.known with
  | none => rfl
  | some v =>
    dsimp only
    split
    · next four =>
      rw [four, State.account_changeAccount_same]
    · next other => exact s.account_changeAccount_other _ (Ne.symm other)

theorem State.revolutions_sameConditions (s : State) (i : AccountIx) : s.sameConditions s.revolutions i := by
  unfold State.revolutions
  split
  · exact s.changeAccount_sameConditions _ i _
  · exact s.sameConditions_refl i

/-- Revolutions leave all but the remainder, the count and the saturation of an account. -/
theorem Account.addRevolutions_rest (a : Account) (n : Nat) :
    a.addRevolutions n = { a with
      revRemainder := (a.addRevolutions n).revRemainder
      revolutions := (a.addRevolutions n).revolutions
      saturated := (a.addRevolutions n).saturated } := by
  unfold Account.addRevolutions
  split <;> rfl

theorem State.revolved_rest (s : State) (i : AccountIx) (a : Account) :
    s.revolved i a = { a with
      revRemainder := (s.revolved i a).revRemainder
      revolutions := (s.revolved i a).revolutions
      saturated := (s.revolved i a).saturated } := by
  unfold State.revolved
  split
  · split
    · exact a.addRevolutions_rest _
    · rfl
  · rfl

theorem State.thresholdsSettled.revolutions {s t : State} {i : AccountIx} (settled : s.thresholdsSettled t i) :
    s.thresholdsSettled t.revolutions i := by
  have rest := t.revolved_rest i (t.account i)
  rw [← t.revolutions_account i] at rest
  exact State.settled_to settled (t.revolutions_sameConditions i) (by rw [rest]) (by rw [rest])
    (by rw [rest])

/-- What a metering pass leaves in the accounts and of the threshold conditions. -/
structure State.metered (s t : State) : Prop where
  account : ∀ i, t.account i =
    { s.revolved i (s.meteredAccount s.activeEntries i (s.account i)) with lastWrite := (t.account i).lastWrite }
  settles : ∀ i, if s.carriedUnits s.activeEntries i (s.account i) = 0 then s.thresholdsStand t i
    else s.thresholdsSettled t i

theorem Account.addRevolutions_lastWrite (a : Account) (n : Nat) (time : Option Nat) :
    ({ a with lastWrite := time } : Account).addRevolutions n = { a.addRevolutions n with lastWrite := time } := by
  cases r : a.revRemainder <;> simp only [Account.addRevolutions, r]

/-- The time of a write that begins passes through the revolutions. -/
theorem State.revolved_lastWrite (s : State) (i : AccountIx) (a : Account) (time : Option Nat) :
    s.revolved i { a with lastWrite := time } = { s.revolved i a with lastWrite := time } := by
  unfold State.revolved
  cases s.intake.outputSpeed.known with
  | none => rfl
  | some v =>
    by_cases four : i = 4
    · simp only [if_pos four]
      exact a.addRevolutions_lastWrite _ _
    · simp only [if_neg four]

theorem State.meteringPass_metered (s : State) : s.metered s.meteringPass := by
  have once : ([0, 1, 2, 3, 4] : List AccountIx).Nodup := by decide
  have each (i : AccountIx) : i ∈ ([0, 1, 2, 3, 4] : List AccountIx) := by
    revert i
    decide
  have intake : s.meteredAll.intake = s.intake := by
    rw [State.meteredAll]
    exact State.changesOnly_then (rs := .bands :: .engine :: meterParts) s.activateStaged_changesOnly
      (State.changesOnly_foldl State.meterAccount_changesOnly _ _) (by decide) (by decide) .intake (by decide)
  have account (i : AccountIx) : s.meteredAll.account i =
      { s.meteredAccount s.activeEntries i (s.account i) with
        lastWrite := (s.activateStaged.account i).lastWrite } := by
    rw [State.meteredAll, State.foldl_meterAccount_account _ once, if_pos (each i), (s.activateStaged_period i).1]
  have revolved (i : AccountIx) : s.meteringPass.account i = s.revolved i (s.meteredAll.account i) := by
    rw [State.meteringPass_eq, State.revolutions_account, State.revolved, intake]
    rfl
  refine ⟨fun i => ?_, fun i => ?_⟩
  · rw [revolved i, account i, State.revolved_lastWrite]
  · have settles := (State.foldl_meterAccount_settles _ once s.activateStaged i).1 (each i)
    rw [(s.activateStaged_period i).2] at settles
    have all : if _ then s.thresholdsStand s.meteredAll i else s.thresholdsSettled s.meteredAll i :=
      State.settles_from (s.activateStaged_onlyStamps.conditions i) settles
    have last := s.meteredAll.revolutions_sameConditions i
    rw [State.meteringPass_eq]
    split at all
    · next none_ =>
      rw [if_pos none_]
      exact ⟨last.due.trans all.1, last.life.trans all.2⟩
    · next some_ =>
      rw [if_neg some_]
      exact all.revolutions

theorem exec_meteringExpiry (s : State) (running : s.isRunning = true) (timed : s.meter.timer.isSome = true) :
    ∃ t, exec .meteringExpiry s = .next t ∧ t.meter.timer = some 100 ∧ s.metered t := by
  refine ⟨State.meteringPass { s with meter := { s.meter with timer := some periodMs } }, ?_, ?_, ?_⟩
  · show execMeteringExpiry s = _
    unfold execMeteringExpiry
    rw [if_pos (by rw [running, timed]; rfl)]
  · exact State.meteringPass_timer _
  · obtain ⟨account, settles⟩ :=
      State.meteringPass_metered { s with meter := { s.meter with timer := some periodMs } }
    exact ⟨account, settles⟩

/-- The times of an account after a pass. -/
theorem State.metered.times {s t : State} (h : s.metered t) (i : AccountIx) :
    (t.account i).activeTime = (s.meteredAccount s.activeEntries i (s.account i)).activeTime ∧
      (t.account i).ssActiveTime = (s.meteredAccount s.activeEntries i (s.account i)).ssActiveTime ∧
      (t.account i).unobserved = (s.meteredAccount s.activeEntries i (s.account i)).unobserved := by
  rw [h.account i, State.revolved_rest]
  exact ⟨rfl, rfl, rfl⟩

/-- The credit, the wear and the bins of an account after a pass. -/
theorem State.metered.figures {s t : State} (h : s.metered t) (i : AccountIx) :
    (t.account i).credit = (s.meteredAccount s.activeEntries i (s.account i)).credit ∧
      (t.account i).wear = (s.meteredAccount s.activeEntries i (s.account i)).wear ∧
      (t.account i).ssWear = (s.meteredAccount s.activeEntries i (s.account i)).ssWear ∧
      (t.account i).bins = (s.meteredAccount s.activeEntries i (s.account i)).bins := by
  rw [h.account i, State.revolved_rest]
  exact ⟨rfl, rfl, rfl, rfl⟩

/-- A period touches neither the revolutions of its account nor their remainder. -/
theorem State.meteredAccount_revolutions (s : State) (es : Vector BandEntry 16) (i : AccountIx) (a : Account) :
    (s.meteredAccount es i a).revRemainder = a.revRemainder ∧
      (s.meteredAccount es i a).revolutions = a.revolutions := by
  unfold State.meteredAccount
  rcases activity s.settings s.lines.crank s.intake i with _ | _ | _
  · by_cases ign : s.lines.ign = true
    · simp only [if_pos ign]
      exact ⟨rfl, rfl⟩
    · simp only [if_neg ign, and_self]
  · exact ⟨rfl, rfl⟩
  · exact ⟨rfl, rfl⟩

theorem Account.addRevolutions_of_none {a : Account} (n : Nat) (h : a.revRemainder = none) :
    a.addRevolutions n = a := by
  simp only [Account.addRevolutions, h]

theorem Account.addRevolutions_of_some {a : Account} {r : Nat} (n : Nat) (h : a.revRemainder = some r) :
    (a.addRevolutions n).revRemainder = some ((r + n) % 600) ∧
      (a.addRevolutions n).revolutions = addToOpt a.revolutions ((r + n) / 600) := by
  simp only [Account.addRevolutions, h]
  exact ⟨trivial, trivial⟩

/-- The revolutions of DRIVELINE after a pass. -/
theorem State.metered.revolved {s t : State} (h : s.metered t) :
    (t.account 4).revRemainder = (s.revolved 4 (s.meteredAccount s.activeEntries 4 (s.account 4))).revRemainder ∧
      (t.account 4).revolutions = (s.revolved 4 (s.meteredAccount s.activeEntries 4 (s.account 4))).revolutions := by
  rw [h.account 4]
  exact ⟨rfl, rfl⟩

/-- The times of an account, by its activity. -/
theorem State.metered.periods {s t : State} (h : s.metered t) (i : AccountIx) :
    match activity s.settings s.lines.crank s.intake i with
    | some true =>
      (t.account i).activeTime = min ((s.account i).activeTime + 1) 4294967295 ∧
        (t.account i).ssActiveTime = min ((s.account i).ssActiveTime + 1) 4294967295 ∧
        (t.account i).unobserved = (s.account i).unobserved
    | some false =>
      (t.account i).activeTime = (s.account i).activeTime ∧
        (t.account i).ssActiveTime = (s.account i).ssActiveTime ∧ (t.account i).unobserved = (s.account i).unobserved
    | none =>
      (t.account i).activeTime = (s.account i).activeTime ∧
        (t.account i).ssActiveTime = (s.account i).ssActiveTime ∧
        (t.account i).unobserved =
          if s.lines.ign then min ((s.account i).unobserved + 1) 4294967295 else (s.account i).unobserved := by
  obtain ⟨active, since, unobserved⟩ := h.times i
  rw [active, since, unobserved]
  unfold State.meteredAccount
  rcases activity s.settings s.lines.crank s.intake i with _ | _ | _
  · by_cases ign : s.lines.ign = true
    · simp only [if_pos ign]
      exact ⟨rfl, rfl, rfl⟩
    · simp only [if_neg ign, and_self]
  · exact ⟨rfl, rfl, rfl⟩
  · exact ⟨rfl, rfl, rfl⟩

/-- Settles O13: the timer restarts, each account has its period, and DRIVELINE its revolutions. -/
theorem meteringCountsPeriods : Obligations.MeteringCountsPeriods := by
  intro s running timed
  obtain ⟨t, run, timer, metered⟩ := exec_meteringExpiry s running timed
  refine ⟨t, run, timer, metered.periods, ?_⟩
  obtain ⟨remainder, count⟩ := metered.revolved
  obtain ⟨sameRemainder, sameCount⟩ := s.meteredAccount_revolutions s.activeEntries 4 (s.account 4)
  rw [remainder, count]
  unfold State.revolved
  cases s.intake.outputSpeed.known with
  | none => exact ⟨sameRemainder, sameCount⟩
  | some v =>
    simp only [if_pos]
    cases rem : (s.account 4).revRemainder with
    | none =>
      rw [Account.addRevolutions_of_none _ (sameRemainder.trans rem), sameCount]
      exact ⟨sameRemainder.trans rem, rfl⟩
    | some r =>
      obtain ⟨one, two⟩ := Account.addRevolutions_of_some v.toNat (sameRemainder.trans rem)
      rw [one, two, sameCount]
      exact ⟨rfl, rfl⟩

/-- Settles O14: the credit of the period, what it carries, and the conditions it settles. -/
theorem meteringCreditsWear : Obligations.MeteringCreditsWear := by
  intro s running timed
  obtain ⟨t, run, -, metered⟩ := exec_meteringExpiry s running timed
  refine ⟨t, run, fun i => ?_⟩
  obtain ⟨credit, wear, since, bins⟩ := metered.figures i
  have settles := metered.settles i
  rw [credit, wear, since, bins]
  revert settles
  unfold State.meteredAccount State.carriedUnits
  rcases activity s.settings s.lines.crank s.intake i with _ | _ | _
  · by_cases ign : s.lines.ign = true
    · simp only [if_pos ign]
      exact fun settles => ⟨⟨rfl, rfl, rfl, settles⟩, rfl⟩
    · simp only [if_neg ign]
      exact fun settles => ⟨trivial, trivial, trivial, trivial, settles⟩
  · exact fun settles => ⟨rfl, rfl, rfl, rfl, settles⟩
  · exact fun settles => ⟨⟨rfl, rfl, rfl, settles⟩, rfl⟩

end Sys2Proof.Machine
end

section
/-! PROOFS. The end of a load (O57): what is told to the Alert Unit, the accounts with their thresholds, the settings, the
bands and the log as their records form them, and the start of the blocks. -/

namespace Sys2Proof.Machine

/-! ## What the Alert Unit is told (R61, R129, R135) -/

/-- RECORD_SUSPECT of the device is held exactly while a record is listed (R135). -/
def AlertUnit.summed (u : AlertUnit) : Prop := u.holds (devicePair .recordSuspect) = !u.suspects.isEmpty

/-- From u to v the records told suspect join the list, no other does, and none leaves it. -/
structure AlertUnit.tells (u v : AlertUnit) (told : RecordId → Prop) : Prop where
  suspects : ∀ r, r ∈ v.suspects ↔ r ∈ u.suspects ∨ told r
  summed : u.summed → v.summed

theorem AlertUnit.tells_refl (u : AlertUnit) : u.tells u fun _ => False :=
  ⟨fun _ => (or_false _).to_iff.symm, id⟩

theorem AlertUnit.tells_trans {u v w : AlertUnit} {p q : RecordId → Prop} (h : u.tells v p) (k : v.tells w q) :
    u.tells w fun r => p r ∨ q r :=
  ⟨fun r => by rw [k.suspects, h.suspects, or_assoc], k.summed ∘ h.summed⟩

theorem AlertUnit.tells_congr {u v : AlertUnit} {p q : RecordId → Prop} (h : u.tells v p) (same : ∀ r, p r ↔ q r) :
    u.tells v q :=
  ⟨fun r => by rw [h.suspects, same], h.summed⟩

@[simp] theorem AlertUnit.suspects_raise (u : AlertUnit) (p : AlertPair) (param : Option Byte) (now : Nat) :
    (u.raise p param now).1.suspects = u.suspects := by
  unfold AlertUnit.raise
  split <;> rfl

@[simp] theorem AlertUnit.suspects_reportTrue (u : AlertUnit) (p : AlertPair) (param : Option Byte) (now : Nat) :
    (u.reportTrue p param now).1.suspects = u.suspects := by
  unfold AlertUnit.reportTrue
  split
  · rfl
  · rw [AlertUnit.suspects_raise]

@[simp] theorem AlertUnit.suspects_reportFalse (u : AlertUnit) (p : AlertPair) :
    (u.reportFalse p).suspects = u.suspects := by
  unfold AlertUnit.reportFalse
  split <;> rfl

theorem State.report_suspects (s : State) (p : AlertPair) (v : Bool) (param : Option Byte) :
    (s.report p v param).alerts.suspects = s.alerts.suspects := by
  cases v
  · exact AlertUnit.suspects_reportFalse _ _
  · exact AlertUnit.suspects_reportTrue _ _ _ _

theorem State.report_tells (s : State) {p : AlertPair} (v : Bool) (param : Option Byte)
    (h : devicePair .recordSuspect ≠ p) : s.alerts.tells (s.report p v param).alerts fun _ => False := by
  refine ⟨fun r => ?_, fun summed => ?_⟩
  · rw [State.report_suspects, or_false]
  · unfold AlertUnit.summed at summed ⊢
    rw [State.report_suspects, State.holds_report_other _ _ _ h, summed]

theorem State.raiseEvent_tells (s : State) (p : AlertPair) (param : Option Byte) :
    s.alerts.tells (s.raiseEvent p param).alerts fun _ => False := by
  refine ⟨fun r => ?_, fun summed => ?_⟩
  · rw [State.raiseEvent, State.withAlerts_alerts, AlertUnit.suspects_raise, or_false]
  · unfold AlertUnit.summed at summed ⊢
    rw [State.raiseEvent, State.withAlerts_alerts, AlertUnit.suspects_raise, AlertUnit.holds_raise, summed]

/-- A record reported suspect joins the list (R135). -/
theorem AlertUnit.recordSuspect_tells (u : AlertUnit) (r : RecordId) (param : Byte) (now : Nat) :
    u.tells (u.recordSuspect r param now).1 fun q => q = r := by
  unfold AlertUnit.recordSuspect
  split
  · next listed =>
    refine ⟨fun q => ⟨.inl, fun h => h.elim id fun same => ?_⟩, id⟩
    rw [same]
    simpa using listed
  · split
    · next empty =>
      have none_ : u.suspects = [] := by simpa using empty
      refine ⟨fun q => ?_, fun _ => ?_⟩
      · simp [none_]
      · unfold AlertUnit.summed
        rw [AlertUnit.holds_reportTrue, AlertUnit.suspects_reportTrue]
        rfl
    · next some_ =>
      refine ⟨fun q => ?_, fun summed => ?_⟩
      · simp
      · unfold AlertUnit.summed at summed ⊢
        rw [AlertUnit.holds_raise, AlertUnit.suspects_raise]
        have listed : u.suspects.isEmpty = false := by simpa using some_
        have held : u.holds (devicePair .recordSuspect) = true := by rw [summed, listed]; rfl
        show u.holds (devicePair .recordSuspect) = _
        rw [held]
        simp

theorem AlertUnit.recordSuspect_holds (u : AlertUnit) (r : RecordId) (param : Byte) (now : Nat) {p : AlertPair}
    (h : p ≠ devicePair .recordSuspect) : (u.recordSuspect r param now).1.holds p = u.holds p := by
  unfold AlertUnit.recordSuspect
  split
  · rfl
  · split
    · unfold AlertUnit.reportTrue
      split
      · rfl
      · rw [AlertUnit.holds_raise]
        simp [AlertUnit.holds, h]
    · rw [AlertUnit.holds_raise]
      rfl

/-! ## The accounts (R16, R24, R149) -/

/-- Both conditions of account i are held as they stand in the accounts. -/
structure State.conditionsHeld (s : State) (i : AccountIx) : Prop where
  due : s.alerts.holds (accountPair i .serviceDue) = s.accounts.serviceDue[i]
  life : s.alerts.holds (accountPair i .lifeLimit) = s.accounts.lifeLimit[i]

/-- Both conditions of account i are as its thresholds and its wear give them. -/
structure State.conditionsFormed (s : State) (i : AccountIx) : Prop where
  due : s.accounts.serviceDue[i] =
    decide ((s.account i).serviceThreshold ≠ 0 ∧ (s.account i).serviceThreshold ≤ (s.account i).ssWear)
  life : s.accounts.lifeLimit[i] =
    decide ((s.account i).lifeThreshold ≠ 0 ∧ (s.account i).lifeThreshold ≤ (s.account i).ssWear)

theorem State.evalServiceDue_held (s : State) (i : AccountIx)
    (h : s.alerts.holds (accountPair i .serviceDue) = s.accounts.serviceDue[i]) :
    (s.evalServiceDue i).alerts.holds (accountPair i .serviceDue) = (s.evalServiceDue i).accounts.serviceDue[i] := by
  unfold State.evalServiceDue
  dsimp only
  split
  · exact h
  · rw [State.holds_report_same]
    simp [State.report]

theorem State.evalLifeLimit_held (s : State) (i : AccountIx)
    (h : s.alerts.holds (accountPair i .lifeLimit) = s.accounts.lifeLimit[i]) :
    (s.evalLifeLimit i).alerts.holds (accountPair i .lifeLimit) = (s.evalLifeLimit i).accounts.lifeLimit[i] := by
  unfold State.evalLifeLimit
  dsimp only
  split
  · exact h
  · rw [State.holds_report_same]
    simp [State.report]

theorem State.evalThresholds_held {s : State} {i : AccountIx} (h : s.conditionsHeld i) :
    (s.evalThresholds i).conditionsHeld i := by
  obtain ⟨due, life⟩ := h
  obtain ⟨-, limits, -⟩ := s.evalServiceDue_kept i
  have lifeHeld : (s.evalServiceDue i).alerts.holds (accountPair i .lifeLimit) =
      s.alerts.holds (accountPair i .lifeLimit) := by
    unfold State.evalServiceDue
    dsimp only
    split
    · rfl
    · exact State.holds_report_other _ _ _ (by simp [accountPair])
  obtain ⟨-, dues, dueHeld, -⟩ := (s.evalServiceDue i).evalLifeLimit_kept i
  refine ⟨?_, State.evalLifeLimit_held _ i (by rw [lifeHeld, limits, life])⟩
  show ((s.evalServiceDue i).evalLifeLimit i).alerts.holds _ =
    ((s.evalServiceDue i).evalLifeLimit i).accounts.serviceDue[i]
  rw [dueHeld, dues]
  exact s.evalServiceDue_held i due

theorem State.evalThresholds_tells (s : State) (i : AccountIx) :
    s.alerts.tells (s.evalThresholds i).alerts fun _ => False := by
  have due : s.alerts.tells (s.evalServiceDue i).alerts fun _ => False := by
    unfold State.evalServiceDue
    dsimp only
    split
    · exact AlertUnit.tells_refl _
    · exact State.report_tells _ _ _ (by simp [devicePair, accountPair])
  have life : (s.evalServiceDue i).alerts.tells (s.evalThresholds i).alerts fun _ => False := by
    unfold State.evalThresholds State.evalLifeLimit
    dsimp only
    split
    · exact AlertUnit.tells_refl _
    · exact State.report_tells _ _ _ (by simp [devicePair, accountPair])
  exact AlertUnit.tells_congr (AlertUnit.tells_trans due life) fun _ => or_self_iff

theorem State.evalThresholds_formed (s : State) (i : AccountIx) : (s.evalThresholds i).conditionsFormed i := by
  obtain ⟨due, life, -⟩ := s.evalThresholds_settled i
  exact ⟨due, life⟩

theorem State.sameConditions.heldAt {s t : State} {i : AccountIx} (h : s.sameConditions t i)
    (held : s.conditionsHeld i) : t.conditionsHeld i :=
  ⟨by rw [h.dueHeld, h.due, held.due], by rw [h.lifeHeld, h.life, held.life]⟩

theorem State.sameConditions.formedAt {s t : State} {i : AccountIx} (h : s.sameConditions t i)
    (account : t.account i = s.account i) (formed : s.conditionsFormed i) : t.conditionsFormed i :=
  ⟨by rw [h.due, formed.due, account], by rw [h.life, formed.life, account]⟩

/-- From s to t the accounts and the values held besides their conditions stand, and nothing is told. -/
structure State.evaluates (s t : State) : Prop where
  account : ∀ i, t.account i = s.account i
  recordHeld : ∀ i, t.alerts.holds (accountPair i .recordSuspect) = s.alerts.holds (accountPair i .recordSuspect)
  held : (∀ i, s.conditionsHeld i) → ∀ i, t.conditionsHeld i
  tells : s.alerts.tells t.alerts fun _ => False

theorem State.evalThresholds_evaluates (s : State) (i : AccountIx) : s.evaluates (s.evalThresholds i) where
  account j := State.account_evalThresholds s i j
  recordHeld j := s.holds_evalThresholds_other i (by simp [accountPair]) (by simp [accountPair])
  held h j := by
    by_cases same : i = j
    · subst same
      exact State.evalThresholds_held (h i)
    · exact (s.evalThresholds_sameConditions same).heldAt (h j)
  tells := s.evalThresholds_tells i

theorem State.foldl_evalThresholds_evaluates (l : List AccountIx) (s : State) :
    s.evaluates (l.foldl State.evalThresholds s) ∧
      ∀ i, s.conditionsFormed i ∨ i ∈ l → (l.foldl State.evalThresholds s).conditionsFormed i := by
  induction l generalizing s with
  | nil =>
    exact ⟨⟨fun _ => rfl, fun _ => rfl, id, AlertUnit.tells_refl _⟩,
      fun i h => h.elim id fun m => absurd m List.not_mem_nil⟩
  | cons j l ih =>
    have first := s.evalThresholds_evaluates j
    obtain ⟨rest, formed⟩ := ih (s.evalThresholds j)
    refine ⟨⟨fun i => (rest.account i).trans (first.account i), fun i => (rest.recordHeld i).trans (first.recordHeld i),
      fun h => rest.held (first.held h),
      AlertUnit.tells_congr (AlertUnit.tells_trans first.tells rest.tells) fun _ => or_self_iff⟩, fun i h => ?_⟩
    refine formed i ?_
    by_cases same : j = i
    · subst same
      exact .inl (s.evalThresholds_formed j)
    · rcases h with h | h
      · exact .inl ((s.evalThresholds_sameConditions same).formedAt (first.account i) h)
      · exact .inr ((List.mem_cons.mp h).resolve_left (Ne.symm same))

/-- From s to t accounts are reported suspect, and nothing else. -/
structure State.reportsLoaded (s t : State) : Prop where
  accounts : t.accounts = s.accounts
  dueHeld : ∀ i, t.alerts.holds (accountPair i .serviceDue) = s.alerts.holds (accountPair i .serviceDue)
  lifeHeld : ∀ i, t.alerts.holds (accountPair i .lifeLimit) = s.alerts.holds (accountPair i .lifeLimit)
  tells : s.alerts.tells t.alerts fun _ => False

theorem State.reportLoaded_reports (s : State) (i : AccountIx) : s.reportsLoaded (s.reportLoaded i) := by
  unfold State.reportLoaded
  split
  · exact ⟨rfl, fun _ => rfl, fun _ => rfl, AlertUnit.tells_refl _⟩
  · exact ⟨rfl, fun _ => State.holds_report_other _ _ _ (by simp [accountPair]),
      fun _ => State.holds_report_other _ _ _ (by simp [accountPair]),
      State.report_tells _ _ _ (by simp [devicePair, accountPair])⟩

/-- A report of one account leaves a value that is held. -/
theorem State.reportLoaded_holds (s : State) (i j : AccountIx)
    (h : s.alerts.holds (accountPair j .recordSuspect) = true ∨ i = j ∧ (s.account j).state ≠ .normal) :
    (s.reportLoaded i).alerts.holds (accountPair j .recordSuspect) = true := by
  unfold State.reportLoaded
  by_cases same : accountPair j .recordSuspect = accountPair i .recordSuspect
  · split
    · next normal =>
      rcases h with h | ⟨rfl, suspect⟩
      · exact h
      · exact absurd normal suspect
    · rw [same, State.holds_report_same]
  · have apart : i ≠ j := fun e => same (by rw [e])
    have held := h.resolve_right fun e => apart e.1
    split
    · exact held
    · rw [State.holds_report_other _ _ _ same, held]

theorem State.foldl_reportLoaded_reports (l : List AccountIx) (s : State) :
    s.reportsLoaded (l.foldl State.reportLoaded s) ∧
      ∀ i, s.alerts.holds (accountPair i .recordSuspect) = true ∨ i ∈ l ∧ (s.account i).state ≠ .normal →
        (l.foldl State.reportLoaded s).alerts.holds (accountPair i .recordSuspect) = true := by
  induction l generalizing s with
  | nil => exact ⟨⟨rfl, fun _ => rfl, fun _ => rfl, AlertUnit.tells_refl _⟩,
      fun i h => h.elim id fun m => absurd m.1 List.not_mem_nil⟩
  | cons j l ih =>
    have first := s.reportLoaded_reports j
    obtain ⟨rest, holds⟩ := ih (s.reportLoaded j)
    refine ⟨⟨rest.accounts.trans first.accounts, fun i => (rest.dueHeld i).trans (first.dueHeld i),
      fun i => (rest.lifeHeld i).trans (first.lifeHeld i),
      AlertUnit.tells_congr (AlertUnit.tells_trans first.tells rest.tells) fun _ => or_self_iff⟩, fun i h => ?_⟩
    have account : (s.reportLoaded j).account i = s.account i := by
      unfold State.account
      rw [first.accounts]
    refine holds i ?_
    rcases h with h | ⟨m, suspect⟩
    · exact .inl (s.reportLoaded_holds j i (.inl h))
    · rcases List.mem_cons.mp m with same | m
      · exact .inl (s.reportLoaded_holds j i (.inr ⟨same.symm, suspect⟩))
      · exact .inr ⟨m, by rw [account]; exact suspect⟩

/-- The accounts as a load leaves them. -/
structure State.accountsLoaded (t : State) (st : Store) : Prop where
  account : ∀ i, t.account i = st.loadAccount i
  recordHeld : ∀ i, (t.account i).state ≠ .normal → t.alerts.holds (accountPair i .recordSuspect) = true
  formed : ∀ i, t.conditionsFormed i
  held : ∀ i, t.conditionsHeld i

/-- The account table as read, no condition true. -/
def State.tableFormed (s : State) : State :=
  { s with
    accounts :=
      { accounts :=
          #v[s.store.loadAccount 0, s.store.loadAccount 1, s.store.loadAccount 2, s.store.loadAccount 3,
            s.store.loadAccount 4]
        serviceDue := Vector.replicate 5 false
        lifeLimit := Vector.replicate 5 false } }

theorem State.account_tableFormed (s : State) (i : AccountIx) : s.tableFormed.account i = s.store.loadAccount i := by
  match i with
  | 0 | 1 | 2 | 3 | 4 => rfl

theorem State.loadAccounts_eq (s : State) :
    s.loadAccounts =
      (List.finRange 5).foldl State.evalThresholds ((List.finRange 5).foldl State.reportLoaded s.tableFormed) := by
  simp only [State.loadAccounts, State.tableFormed]

theorem State.loadAccounts_loaded (s : State) (initial : s.alerts = AlertUnit.initial) :
    s.loadAccounts.accountsLoaded s.store ∧ s.alerts.tells s.loadAccounts.alerts fun _ => False := by
  obtain ⟨reports, reported⟩ := State.foldl_reportLoaded_reports (List.finRange 5) s.tableFormed
  rw [State.loadAccounts_eq]
  generalize (List.finRange 5).foldl State.reportLoaded s.tableFormed = u at reports reported ⊢
  obtain ⟨evaluates, formed⟩ := State.foldl_evalThresholds_evaluates (List.finRange 5) u
  generalize (List.finRange 5).foldl State.evalThresholds u = t at evaluates formed ⊢
  have account (i : AccountIx) : u.account i = s.tableFormed.account i := by
    unfold State.account
    rw [reports.accounts]
  have blank (i : AccountIx) : u.conditionsHeld i := by
    refine ⟨?_, ?_⟩
    · rw [reports.dueHeld, reports.accounts]
      simp [State.tableFormed, initial, AlertUnit.initial, AlertUnit.holds]
    · rw [reports.lifeHeld, reports.accounts]
      simp [State.tableFormed, initial, AlertUnit.initial, AlertUnit.holds]
  refine ⟨⟨fun i => ?_, fun i suspect => ?_, fun i => formed i (.inr (List.mem_finRange i)), evaluates.held blank⟩,
    AlertUnit.tells_congr (AlertUnit.tells_trans reports.tells evaluates.tells) fun _ => or_self_iff⟩
  · rw [evaluates.account, account, State.account_tableFormed]
  · rw [evaluates.account, account] at suspect
    rw [evaluates.recordHeld]
    exact reported i (.inr ⟨List.mem_finRange i, suspect⟩)

end Sys2Proof.Machine
end

section
/-! PROOFS. The end of a load (O57), continued: the settings, the bands and the log as their records form them, the start of
the blocks, and the whole. -/

namespace Sys2Proof.Machine

/-! ## What a part of the load leaves of the rest -/

/-- From s to t the accounts stand, the store keeps its records and takes only slot records into its queue, the time keeps
all but the TIMEBASE value held, and the Alert Unit is told of those records and of no account. -/
structure State.loadStep (s t : State) (told : RecordId → Prop) : Prop where
  rest : s.changesOnly t [.settings, .store, .bands, .log, .alerts, .port, .time]
  time : { t.time with timebaseHeld := s.time.timebaseHeld } = s.time
  store : { t.store with changed := s.store.changed, queue := s.store.queue, inFlight := s.store.inFlight } = s.store
  queue : ∀ r, r ∈ t.store.queue → r ∈ s.store.queue ∨ ∃ k, r = .slot k
  tells : s.alerts.tells t.alerts told
  held : ∀ i c, t.alerts.holds (accountPair i c) = s.alerts.holds (accountPair i c)

theorem State.loadStep_trans {s t u : State} {p q : RecordId → Prop} (h : s.loadStep t p) (k : t.loadStep u q) :
    s.loadStep u fun r => p r ∨ q r where
  rest := State.changesOnly_trans h.rest k.rest
  time := by
    have first := h.time
    rw [← k.time] at first
    exact first
  store := by
    have first := h.store
    rw [← k.store] at first
    exact first
  queue r m := (k.queue r m).elim (h.queue r) .inr
  tells := AlertUnit.tells_trans h.tells k.tells
  held i c := (k.held i c).trans (h.held i c)

theorem State.loadStep_congr {s t : State} {p q : RecordId → Prop} (h : s.loadStep t p) (same : ∀ r, p r ↔ q r) :
    s.loadStep t q :=
  { h with tells := AlertUnit.tells_congr h.tells same }

theorem State.loadStep.state {s t : State} {told : RecordId → Prop} (h : s.loadStep t told) :
    t.store.state = s.store.state := by
  have e := congrArg Store.state h.store
  exact e

theorem State.loadStep.array {s t : State} {told : RecordId → Prop} (h : s.loadStep t told) :
    t.store.array = s.store.array := by
  have e := congrArg Store.array h.store
  exact e

/-- A step of which nothing is told, before another. -/
theorem State.loadStep_silent {s t u : State} {p : RecordId → Prop} (h : s.loadStep t fun _ => False)
    (k : t.loadStep u p) : s.loadStep u p :=
  State.loadStep_congr (State.loadStep_trans h k) fun _ => (false_or _).to_iff

/-- A step of which nothing is told, after another. -/
theorem State.loadStep_then {s t u : State} {p : RecordId → Prop} (h : s.loadStep t p)
    (k : t.loadStep u fun _ => False) : s.loadStep u p :=
  State.loadStep_congr (State.loadStep_trans h k) fun _ => (or_false _).to_iff

/-- A change of the settings, the bands, the log and the port. -/
theorem State.loadStep_of_changesOnly {s t : State} (h : s.changesOnly t [.settings, .bands, .log, .port]) :
    s.loadStep t fun _ => False := by
  have time : t.time = s.time := h .time (by decide)
  have store : t.store = s.store := h .store (by decide)
  have alerts : t.alerts = s.alerts := h .alerts (by decide)
  refine ⟨State.changesOnly_mono h (by decide), by rw [time], by rw [store], fun r m => .inl (store ▸ m), ?_, ?_⟩
  · rw [alerts]
    exact AlertUnit.tells_refl _
  · intro i c
    rw [alerts]

theorem State.loadStep_refl (s : State) : s.loadStep s fun _ => False :=
  State.loadStep_of_changesOnly (s.changesOnly_refl _)

theorem State.markRecord_loadStep (s : State) (r : RecordId) : s.loadStep (s.markRecord r) fun _ => False where
  rest := State.changesOnly_mono (s.markRecord_changesOnly r) (by decide)
  time := rfl
  store := rfl
  queue _ m := .inl m
  tells := AlertUnit.tells_refl _
  held _ _ := rfl

/-- A change of the Alert Unit that tells and keeps what the accounts hold. -/
theorem State.loadStep_of_alerts {s t : State} {told : RecordId → Prop} (h : s.changesOnly t [.alerts, .port])
    (tells : s.alerts.tells t.alerts told)
    (held : ∀ i c, t.alerts.holds (accountPair i c) = s.alerts.holds (accountPair i c)) : s.loadStep t told := by
  have time : t.time = s.time := h .time (by decide)
  have store : t.store = s.store := h .store (by decide)
  exact ⟨State.changesOnly_mono h (by decide), by rw [time], by rw [store], fun r m => .inl (store ▸ m), tells, held⟩

theorem State.reportSuspect_loadStep (s : State) (r : RecordId) : s.loadStep (s.reportSuspect r) fun q => q = r :=
  State.loadStep_of_alerts (s.reportSuspect_changesOnly r) (s.alerts.recordSuspect_tells r _ _)
    fun _ _ => s.alerts.recordSuspect_holds r _ _ (by simp [accountPair, devicePair])

theorem State.report_loadStep (s : State) {c : Cause} (v : Bool) (param : Option Byte) (h : Cause.recordSuspect ≠ c) :
    s.loadStep (s.report (devicePair c) v param) fun _ => False :=
  State.loadStep_of_alerts (s.report_changesOnly _ v param) (s.report_tells v param (by simpa [devicePair] using h))
    fun _ _ => State.holds_report_other _ _ _ (by simp [accountPair, devicePair])

theorem State.raiseEvent_loadStep (s : State) (p : AlertPair) (param : Option Byte) :
    s.loadStep (s.raiseEvent p param) fun _ => False :=
  State.loadStep_of_alerts (s.raiseEvent_changesOnly p param) (s.raiseEvent_tells p param)
    fun _ _ => s.alerts.holds_raise _ _ _ _

theorem Store.append_keeps (st : Store) (r : RecordId) :
    { st.append r with queue := st.queue } = st ∧ ∀ q, q ∈ (st.append r).queue → q ∈ st.queue ∨ q = r := by
  unfold Store.append
  split
  · exact ⟨rfl, fun _ m => .inl m⟩
  · exact ⟨rfl, fun q m => by simpa using m⟩

/-- A slot record handed during a load waits in the queue (R155). -/
theorem State.hand_loadStep {s : State} {kind : LoadKind} (loading : s.store.state = .loading kind) (k : Fin 24) :
    s.loadStep (s.hand (.slot k)) fun _ => False := by
  obtain ⟨kept, queue⟩ := (s.markRecord (.slot k)).store.append_keeps (.slot k)
  have state : ((s.markRecord (.slot k)).store.append (.slot k)).state = .loading kind := by
    have e := congrArg Store.state kept
    exact e.trans loading
  have handed : s.hand (.slot k) =
      { s.markRecord (.slot k) with store := (s.markRecord (.slot k)).store.append (.slot k) } := by
    unfold State.hand State.startIfReady
    dsimp only
    rw [show (s.markRecord (.slot k)).store.state = .loading kind from loading, state]
  rw [handed]
  refine State.loadStep_silent (s.markRecord_loadStep (.slot k)) ?_
  generalize s.markRecord (.slot k) = u at kept queue
  generalize u.store.append (.slot k) = st at kept queue
  refine ⟨?_, rfl, ?_, fun r m => (queue r m).imp id fun e => ⟨k, e⟩, AlertUnit.tells_refl _, fun _ _ => rfl⟩
  · intro p hp
    cases p <;> first | rfl | simp at hp
  · exact (congrArg (fun x : Store => { x with changed := u.store.changed, inFlight := u.store.inFlight }) kept)

/-! ## Settings (R153, R190) -/

/-- The settings and their mark as the load forms them. -/
def State.formSettings (s : State) (k : LoadKind) : State :=
  match k, (s.store.stored .settings).judgeSettings with
  | .failedCheck, _ => s
  | .cold, .good v => { s with settings := v, store := { s.store with settingsSuspect := false } }
  | .cold, .blank => { s with settings := Settings.default, store := { s.store with settingsSuspect := false } }
  | .cold, .bad => { s with settings := Settings.default, store := { s.store with settingsSuspect := true } }

theorem State.loadSettings_loadStep (s : State) (k : LoadKind) :
    (s.formSettings k).loadStep (s.loadSettings k)
      fun r => r = .settings ∧ (s.formSettings k).store.settingsSuspect = true := by
  show (s.formSettings k).loadStep
    (if (s.formSettings k).store.settingsSuspect then (s.formSettings k).reportSuspect .settings
      else s.formSettings k) _
  split
  · next marked => exact State.loadStep_congr (State.reportSuspect_loadStep _ _) fun r => by simp [marked]
  · next clear => exact State.loadStep_congr (State.loadStep_refl _) fun r => by simp [clear]

/-! ## Bands (R60, R61, R190) -/

/-- Entry k and its mark as the load forms them. -/
def State.loadedBand (s : State) (kind : LoadKind) (k : Fin 16) : BandEntry × Bool :=
  match kind with
  | .failedCheck => (s.bands.entries[k], s.bands.suspect[k])
  | .cold =>
    match (s.store.stored (.band k)).judgeBand k with
    | .blank => (BandEntry.blank, false)
    | .good e => (e, false)
    | .bad => (BandEntry.blank, true)

/-- Entry k put in place with its mark. -/
def BandTable.put (b : BandTable) (k : Fin 16) (e : BandEntry × Bool) : BandTable :=
  { entries := b.entries.set k e.1, suspect := b.suspect.set k e.2 }

theorem State.formBand_eq (s : State) (k : Fin 16) :
    s.formBand k = { s with bands := s.bands.put k (s.loadedBand .cold k) } := by
  unfold State.formBand State.loadedBand
  cases (s.store.stored (.band k)).judgeBand k <;> rfl

theorem State.loadBand_formed (s : State) (kind : LoadKind) (k : Fin 16) :
    s.loadStep (s.loadBand kind k) (fun r => r = .band k ∧ (s.loadedBand kind k).2 = true) ∧
      (s.loadBand kind k).bands = s.bands.put k (s.loadedBand kind k) := by
  have formed : s.loadBand kind k =
      if (s.loadedBand kind k).2 then
        State.reportSuspect { s with bands := s.bands.put k (s.loadedBand kind k) } (.band k)
      else { s with bands := s.bands.put k (s.loadedBand kind k) } := by
    unfold State.loadBand
    cases kind with
    | cold =>
      dsimp only
      rw [s.formBand_eq k]
      simp [BandTable.put]
    | failedCheck => simp [State.loadedBand, BandTable.put]
  have placed : s.loadStep { s with bands := s.bands.put k (s.loadedBand kind k) } fun _ => False :=
    State.loadStep_of_changesOnly (by intro p hp; cases p <;> first | rfl | simp at hp)
  rw [formed]
  split
  · next marked =>
    exact ⟨State.loadStep_congr (State.loadStep_silent placed (State.reportSuspect_loadStep _ _))
      fun r => by simp [marked], rfl⟩
  · next clear => exact ⟨State.loadStep_congr placed fun r => by simp [clear], rfl⟩

theorem State.loadBand_changesOnly (kind : LoadKind) (s : State) (k : Fin 16) :
    s.changesOnly (s.loadBand kind k) [.bands, .alerts, .port] := by
  have formed : s.changesOnly (s.formBand k) [.bands] := by
    rw [s.formBand_eq k]
    intro p hp
    cases p <;> first | rfl | simp at hp
  unfold State.loadBand
  cases kind with
  | cold =>
    exact State.changesOnly_ite
      (State.changesOnly_then formed (State.reportSuspect_changesOnly _ _) (by decide) (by decide))
      (State.changesOnly_mono formed (by decide))
  | failedCheck =>
    exact State.changesOnly_ite (State.changesOnly_mono (s.reportSuspect_changesOnly _) (by decide))
      (s.changesOnly_refl _)

/-- What the load forms of an entry does not depend on the entries placed before. -/
theorem State.loadedBand_loadBand (s : State) (kind : LoadKind) (j k : Fin 16) :
    (s.loadBand kind j).loadedBand kind k = s.loadedBand kind k := by
  obtain ⟨step, bands⟩ := s.loadBand_formed kind j
  cases kind with
  | cold =>
    have array : (s.loadBand .cold j).store.array = s.store.array := step.array
    unfold State.loadedBand Store.stored
    rw [array]
  | failedCheck =>
    have same : (s.loadBand .failedCheck j).bands = s.bands := by
      rw [bands]
      simp [State.loadedBand, BandTable.put]
    unfold State.loadedBand
    rw [same]

theorem State.foldl_loadBand_formed (kind : LoadKind) (l : List (Fin 16)) (s : State) :
    s.loadStep (l.foldl (State.loadBand kind) s) (fun r => ∃ k ∈ l, r = .band k ∧ (s.loadedBand kind k).2 = true) ∧
      ∀ k, ((l.foldl (State.loadBand kind) s).bands.entries[k], (l.foldl (State.loadBand kind) s).bands.suspect[k]) =
        if k ∈ l then s.loadedBand kind k else (s.bands.entries[k], s.bands.suspect[k]) := by
  induction l generalizing s with
  | nil => exact ⟨State.loadStep_congr s.loadStep_refl fun r => by simp, fun k => rfl⟩
  | cons j l ih =>
    obtain ⟨first, bands⟩ := s.loadBand_formed kind j
    obtain ⟨rest, formed⟩ := ih (s.loadBand kind j)
    simp only [State.loadedBand_loadBand] at rest formed
    refine ⟨State.loadStep_congr (State.loadStep_trans first rest) fun r => by simp, fun k => ?_⟩
    rw [List.foldl_cons, formed k]
    by_cases same : j = k
    · subst same
      simp [bands, BandTable.put]
    · simp [bands, BandTable.put, same, Ne.symm same, Fin.val_inj]

/-- After a failed check the kept entries and marks stand (R190). -/
theorem State.foldl_loadBand_failedCheck (l : List (Fin 16)) (s : State) :
    (l.foldl (State.loadBand .failedCheck) s).bands = s.bands := by
  have each (x : State) (k : Fin 16) : x.changesOnly (x.loadBand .failedCheck k) [.alerts, .port] := by
    unfold State.loadBand
    exact State.changesOnly_ite (x.reportSuspect_changesOnly _) (x.changesOnly_refl _)
  exact State.changesOnly_foldl each l s .bands (by decide)

/-! ## Segment slots (R129 to R131) -/

/-- The slot holds a DAMAGED segment. -/
def SegmentLog.damagedAt (l : SegmentLog) (k : Fin 24) : Prop := ∃ g, l.inSlot k = some g ∧ g.state = .damaged

theorem State.reportDamaged_loadStep (s : State) (k : Fin 24) :
    s.loadStep (s.reportDamaged k) fun r => r = .slot k ∧ s.log.damagedAt k := by
  unfold State.reportDamaged SegmentLog.damagedAt
  split
  · next g held =>
    split
    · next damaged =>
      exact State.loadStep_congr (s.reportSuspect_loadStep _) fun r => by simp [held, damaged]
    · next sound => exact State.loadStep_congr s.loadStep_refl fun r => by simp [held, sound]
  · next none_ => exact State.loadStep_congr s.loadStep_refl fun r => by simp [none_]

theorem State.reportDamaged_changesOnly (s : State) (k : Fin 24) :
    s.changesOnly (s.reportDamaged k) [.alerts, .port] := by
  unfold State.reportDamaged
  split
  · exact State.changesOnly_ite (s.reportSuspect_changesOnly _) (s.changesOnly_refl _)
  · exact s.changesOnly_refl _

theorem State.foldl_reportDamaged_loadStep (l : List (Fin 24)) (s : State) :
    s.loadStep (l.foldl State.reportDamaged s) fun r => ∃ k ∈ l, r = .slot k ∧ s.log.damagedAt k := by
  induction l generalizing s with
  | nil => exact State.loadStep_congr s.loadStep_refl fun r => by simp
  | cons j l ih =>
    have log : (s.reportDamaged j).log = s.log := s.reportDamaged_changesOnly j .log (by decide)
    have rest := ih (s.reportDamaged j)
    simp only [log] at rest
    exact State.loadStep_congr (State.loadStep_trans (s.reportDamaged_loadStep j) rest) fun r => by simp

theorem State.settleCounters_loadStep (s : State) : s.loadStep s.settleCounters fun _ => False := by
  unfold State.settleCounters
  split
  · next e _ =>
    split
    · refine State.loadStep_silent (t := { s with
        settings := { s.settings with lastSerial := e.seg.serial, lastSegment := e.seg.number } })
        (State.loadStep_of_changesOnly ?_) (State.markRecord_loadStep _ _)
      intro p hp
      cases p <;> first | rfl | simp at hp
    · exact s.loadStep_refl
  · exact s.loadStep_refl

/-- The counters of the newest segment that is not DAMAGED, where its serial is the greater (R130). -/
def Settings.counted (v : Settings) (l : List LogEntry) : Settings :=
  match l.reverse.find? fun e => e.seg.state != .damaged with
  | some e =>
    if v.lastSerial < e.seg.serial then { v with lastSegment := e.seg.number, lastSerial := e.seg.serial } else v
  | none => v

theorem State.settleCounters_counted (s : State) :
    s.settleCounters.settings = s.settings.counted s.log.entries ∧ s.settleCounters.log = s.log := by
  unfold State.settleCounters Settings.counted
  cases s.log.entries.reverse.find? fun e => e.seg.state != .damaged with
  | none => exact ⟨rfl, rfl⟩
  | some e =>
    dsimp only
    split <;> exact ⟨rfl, rfl⟩

theorem State.loadStep.loading {s t : State} {told : RecordId → Prop} {kind : LoadKind} (h : s.loadStep t told)
    (loading : s.store.state = .loading kind) : t.store.state = .loading kind :=
  h.state.trans loading

theorem State.raiseGap_loadStep {s : State} {kind : LoadKind} (loading : s.store.state = .loading kind)
    (e : LogEntry) : s.loadStep (s.raiseGap e) fun _ => False :=
  have raised := s.raiseEvent_loadStep (devicePair .powerGap) (some (byteOf e.seg.number))
  State.loadStep_silent raised (State.hand_loadStep (raised.loading loading) e.slot)

theorem State.foldl_raiseGap_loadStep (l : List LogEntry) {s : State} {kind : LoadKind}
    (loading : s.store.state = .loading kind) : s.loadStep (l.foldl State.raiseGap s) fun _ => False := by
  induction l generalizing s with
  | nil => exact s.loadStep_refl
  | cons e l ih =>
    have first := State.raiseGap_loadStep loading e
    exact State.loadStep_silent first (ih (first.loading loading))

theorem State.handleOpen_loadStep {s : State} {kind : LoadKind} (loading : s.store.state = .loading kind) :
    s.loadStep s.handleOpen fun _ => False := by
  unfold State.handleOpen
  dsimp only
  refine State.loadStep_silent (t := { s with
    log := { s.log with entries := gapEntries (Tracked.current s.accounts.accounts) s.log.entries } })
    (State.loadStep_of_changesOnly ?_) (State.foldl_raiseGap_loadStep _ loading)
  intro p hp
  cases p <;> first | rfl | simp at hp

theorem State.evalNearFull_loadStep (s : State) : s.loadStep s.evalNearFull fun _ => False := by
  unfold State.evalNearFull
  dsimp only
  split
  · exact s.loadStep_refl
  · refine State.loadStep_silent (t := { s with
      log := { s.log with nearFull := decide (nearFullCount ≤ s.log.closedCount) } })
      (State.loadStep_of_changesOnly ?_) (State.report_loadStep _ _ _ (by decide))
    intro p hp
    cases p <;> first | rfl | simp at hp

theorem State.flagOpen_loadStep (s : State) (f : SegmentFlags → SegmentFlags) :
    s.loadStep (s.flagOpen f) fun _ => False := by
  unfold State.flagOpen
  split
  · exact s.loadStep_refl
  · next e _ =>
    split
    · exact s.loadStep_refl
    · refine State.loadStep_silent (t := { s with
        log := s.log.modify e.slot fun g => { g with flags := f g.flags } })
        (State.loadStep_of_changesOnly ?_) (State.markRecord_loadStep _ _)
      intro p hp
      cases p <;> first | rfl | simp at hp

theorem State.reportTimebase_loadStep (s : State) (v : Bool) : s.loadStep (s.reportTimebase v) fun _ => False := by
  unfold State.reportTimebase
  split
  · exact s.loadStep_refl
  · refine State.loadStep_silent (t := { s with time := { s.time with timebaseHeld := v } }) ?_
      (State.report_loadStep _ _ _ (by decide))
    refine ⟨?_, rfl, rfl, fun _ m => .inl m, AlertUnit.tells_refl _, fun _ _ => rfl⟩
    intro p hp
    cases p <;> first | rfl | simp at hp

theorem State.settleTimebase_loadStep (s : State) : s.loadStep s.settleTimebase fun _ => False := by
  unfold State.settleTimebase
  split
  · exact State.loadStep_silent (s.reportTimebase_loadStep true) (State.flagOpen_loadStep _ _)
  · exact s.reportTimebase_loadStep false
  · exact s.loadStep_refl
  · exact s.loadStep_refl

/-! ## Which segments stand DAMAGED -/

/-- The slot of an entry, and whether its segment is DAMAGED. -/
def LogEntry.damage (e : LogEntry) : Fin 24 × Bool := (e.slot, decide (e.seg.state = .damaged))

/-- What the log holds DAMAGED depends on the slots and the damage of its entries. -/
theorem SegmentLog.damagedAt_iff (l : SegmentLog) (k : Fin 24) :
    l.damagedAt k ↔ ((l.entries.map LogEntry.damage).find? fun d => d.1 == k) = some (k, true) := by
  have slots : (fun d : Fin 24 × Bool => d.1 == k) ∘ LogEntry.damage = fun e : LogEntry => e.slot == k := rfl
  unfold SegmentLog.damagedAt SegmentLog.inSlot
  rw [List.find?_map, slots]
  cases found : l.entries.find? fun e => e.slot == k with
  | none => simp
  | some e =>
    have at_ : e.slot = k := by simpa using List.find?_some found
    simp [LogEntry.damage, at_]

theorem SegmentLog.damagedAt_congr {l m : SegmentLog}
    (h : m.entries.map LogEntry.damage = l.entries.map LogEntry.damage) (k : Fin 24) :
    m.damagedAt k ↔ l.damagedAt k := by
  rw [SegmentLog.damagedAt_iff, SegmentLog.damagedAt_iff, h]

theorem Segment.afterGap_sound {g : Segment} (current : Tracked) (newer : List LogEntry) (h : g.state = .opened) :
    (g.afterGap current newer).state ≠ .damaged := by
  unfold Segment.afterGap
  split
  · simp
  · simp [h]

/-- An OPEN segment is handled to one that is not DAMAGED (R131). -/
theorem gapEntries_damage (current : Tracked) (l : List LogEntry) :
    (gapEntries current l).map LogEntry.damage = l.map LogEntry.damage := by
  induction l with
  | nil => rfl
  | cons e newer ih =>
    unfold gapEntries
    rw [List.map_cons, List.map_cons, ih]
    congr 1
    split
    · next opened => simp [LogEntry.damage, Segment.afterGap_sound current newer opened, opened]
    · rfl

theorem State.foldl_raiseGap_log (l : List LogEntry) (s : State) : (l.foldl State.raiseGap s).log = s.log := by
  have each (x : State) (e : LogEntry) : x.changesOnly (x.raiseGap e) [.accounts, .alerts, .port, .store, .engine] :=
    State.changesOnly_then (x.raiseEvent_changesOnly _ _) (State.hand_changesOnly _ _) (by decide) (by decide)
  exact State.changesOnly_foldl each l s .log (by decide)

theorem State.handleOpen_damage (s : State) :
    s.handleOpen.log.entries.map LogEntry.damage = s.log.entries.map LogEntry.damage := by
  unfold State.handleOpen
  dsimp only
  rw [State.foldl_raiseGap_log]
  exact gapEntries_damage _ _

theorem State.evalNearFull_entries (s : State) : s.evalNearFull.log.entries = s.log.entries := by
  unfold State.evalNearFull
  dsimp only
  split <;> rfl

theorem State.flagOpen_damage (s : State) (f : SegmentFlags → SegmentFlags) :
    (s.flagOpen f).log.entries.map LogEntry.damage = s.log.entries.map LogEntry.damage := by
  unfold State.flagOpen
  split
  · rfl
  · next e _ =>
    split
    · rfl
    · show ((s.log.modify e.slot fun g => { g with flags := f g.flags }).entries).map LogEntry.damage = _
      unfold SegmentLog.modify
      rw [List.map_map]
      refine List.map_congr_left fun x _ => ?_
      rw [Function.comp_apply]
      split <;> rfl

theorem State.reportTimebase_changesOnly (s : State) (v : Bool) :
    s.changesOnly (s.reportTimebase v) [.time, .alerts, .port] := by
  refine State.changesOnly_ite (s.changesOnly_refl _) ?_
  intro p hp
  cases p <;> first | rfl | simp at hp

theorem State.reportTimebase_log (s : State) (v : Bool) : (s.reportTimebase v).log = s.log :=
  s.reportTimebase_changesOnly v .log (by decide)

theorem State.settleTimebase_damage (s : State) :
    s.settleTimebase.log.entries.map LogEntry.damage = s.log.entries.map LogEntry.damage := by
  unfold State.settleTimebase
  split
  · rw [State.timebaseBad, State.flagOpen_damage, State.reportTimebase_log]
  · rw [State.reportTimebase_log]
  · rfl
  · rfl

theorem State.settleTimebase_changesOnly (s : State) :
    s.changesOnly s.settleTimebase [.time, .alerts, .port, .log, .store] := by
  unfold State.settleTimebase
  split
  · exact s.timebaseBad_changesOnly
  · exact State.changesOnly_mono (s.reportTimebase_changesOnly false) (by decide)
  · exact s.changesOnly_refl _
  · exact s.changesOnly_refl _

theorem State.handleOpen_changesOnly (s : State) :
    s.changesOnly s.handleOpen [.log, .accounts, .alerts, .port, .store, .engine] := by
  have each (x : State) (e : LogEntry) : x.changesOnly (x.raiseGap e) [.accounts, .alerts, .port, .store, .engine] :=
    State.changesOnly_then (x.raiseEvent_changesOnly _ _) (State.hand_changesOnly _ _) (by decide) (by decide)
  have logged : s.changesOnly
      { s with log := { s.log with entries := gapEntries (Tracked.current s.accounts.accounts) s.log.entries } }
      [.log] := by
    intro p hp
    cases p <;> first | rfl | simp at hp
  exact State.changesOnly_then logged (State.changesOnly_foldl each _ _) (by decide) (by decide)

/-! ## The load up to the start of the blocks -/

/-- The log as the slot records load (R129, R130). -/
def Store.formedLog (st : Store) : SegmentLog := { entries := st.loadLog, nearFull := false }

theorem Store.formedLog_congr {st ts : Store} (h : ts.array = st.array) : ts.formedLog = st.formedLog := by
  unfold Store.formedLog Store.loadLog Store.loadSlot Store.stored
  rw [h]

/-- The log and the settings a load forms, with the accounts, the settings and the bands as they stand in s. -/
structure State.segmentsLoaded (s t : State) : Prop where
  step : s.loadStep t fun r => ∃ k, r = .slot k ∧ s.store.formedLog.damagedAt k
  settings : t.settings = s.settings.counted s.store.loadLog
  bands : t.bands = s.bands
  damage : t.log.entries.map LogEntry.damage = s.store.formedLog.entries.map LogEntry.damage

theorem State.loadSegments_loaded {s : State} {kind : LoadKind} (loading : s.store.state = .loading kind) :
    s.segmentsLoaded s.loadSegments := by
  have placed : s.loadStep { s with log := s.store.formedLog } fun _ => False :=
    State.loadStep_of_changesOnly (by intro p hp; cases p <;> first | rfl | simp at hp)
  have reports := State.foldl_reportDamaged_loadStep (List.finRange 24) { s with log := s.store.formedLog }
  have kept := State.changesOnly_foldl State.reportDamaged_changesOnly (List.finRange 24)
    { s with log := s.store.formedLog }
  rw [show s.loadSegments =
    ((List.finRange 24).foldl State.reportDamaged
      { s with log := s.store.formedLog }).settleCounters.handleOpen.evalNearFull from rfl]
  generalize (List.finRange 24).foldl State.reportDamaged { s with log := s.store.formedLog } = u at reports kept ⊢
  have settings : u.settings = s.settings := kept .settings (by decide)
  have bands : u.bands = s.bands := kept .bands (by decide)
  have log : u.log = s.store.formedLog := kept .log (by decide)
  have told : s.loadStep u fun r => ∃ k, r = .slot k ∧ s.store.formedLog.damagedAt k :=
    State.loadStep_congr (State.loadStep_silent placed reports) fun r => by simp
  obtain ⟨counted, sameLog⟩ := u.settleCounters_counted
  have counts := State.loadStep_then told u.settleCounters_loadStep
  have countedBands : u.settleCounters.bands = u.bands := by
    unfold State.settleCounters
    split
    · split <;> rfl
    · rfl
  generalize u.settleCounters = v at counted sameLog counts countedBands ⊢
  have handled := State.loadStep_then counts (State.handleOpen_loadStep (counts.loading loading))
  have handledRest := v.handleOpen_changesOnly
  have nearRest := v.handleOpen.evalNearFull_changesOnly
  refine ⟨State.loadStep_then handled (State.evalNearFull_loadStep _), ?_, ?_, ?_⟩
  · rw [show v.handleOpen.evalNearFull.settings = _ from nearRest .settings (by decide),
      show v.handleOpen.settings = _ from handledRest .settings (by decide), counted, settings, log]
    rfl
  · rw [show v.handleOpen.evalNearFull.bands = _ from nearRest .bands (by decide),
      show v.handleOpen.bands = _ from handledRest .bands (by decide), countedBands, bands]
  · rw [State.evalNearFull_entries, State.handleOpen_damage, sameLog, log]

/-- The state with the accounts and the settings formed, before anything but an account is reported. -/
def State.headFormed (s : State) (kind : LoadKind) : State := (s.startLoad kind).loadAccounts.formSettings kind

/-- The records a load tells suspect. -/
def State.toldSuspect (s : State) (kind : LoadKind) (r : RecordId) : Prop :=
  match r with
  | .account _ => False
  | .settings => s.store.settingsSuspect = true
  | .band k => (s.loadedBand kind k).2 = true
  | .slot k => s.store.formedLog.damagedAt k

/-- What a load forms besides the accounts, from the state with their copies and the settings formed. -/
structure State.formsRest (s t : State) (kind : LoadKind) : Prop where
  step : s.loadStep t (s.toldSuspect kind)
  settings : t.settings = s.settings.counted s.store.loadLog
  bands : ∀ k, (t.bands.entries[k], t.bands.suspect[k]) = s.loadedBand kind k
  keptBands : kind = .failedCheck → t.bands = s.bands
  damage : t.log.entries.map LogEntry.damage = s.store.formedLog.entries.map LogEntry.damage

theorem State.loadedBand_congr {s t : State} (array : t.store.array = s.store.array) (bands : t.bands = s.bands)
    (kind : LoadKind) (k : Fin 16) : t.loadedBand kind k = s.loadedBand kind k := by
  unfold State.loadedBand Store.stored
  rw [array, bands]

theorem State.formAll_formsRest (s : State) (kind : LoadKind)
    (loading : (s.headFormed kind).store.state = .loading kind) :
    (s.headFormed kind).formsRest (s.formAll kind) kind := by
  have told := State.loadSettings_loadStep (s.startLoad kind).loadAccounts kind
  have rest : (s.headFormed kind).changesOnly ((s.startLoad kind).loadAccounts.loadSettings kind) [.alerts, .port] :=
    State.changesOnly_ite (State.reportSuspect_changesOnly _ _) (State.changesOnly_refl _ _)
  rw [show s.formAll kind =
    ((List.finRange 16).foldl (State.loadBand kind)
      ((s.startLoad kind).loadAccounts.loadSettings kind)).loadSegments.settleTimebase from rfl]
  rw [show (s.startLoad kind).loadAccounts.formSettings kind = s.headFormed kind from rfl] at told
  generalize s.headFormed kind = x at *
  generalize (s.startLoad kind).loadAccounts.loadSettings kind = y at *
  have loaded (k : Fin 16) : y.loadedBand kind k = x.loadedBand kind k :=
    State.loadedBand_congr told.array (rest .bands (by decide)) kind k
  obtain ⟨bandStep, bands⟩ := State.foldl_loadBand_formed kind (List.finRange 16) y
  have bandRest := State.changesOnly_foldl (State.loadBand_changesOnly kind) (List.finRange 16) y
  have keptBands : kind = .failedCheck → ((List.finRange 16).foldl (State.loadBand kind) y).bands = x.bands := by
    rintro rfl
    exact (State.foldl_loadBand_failedCheck _ y).trans (rest .bands (by decide))
  generalize (List.finRange 16).foldl (State.loadBand kind) y = z at *
  have both := State.loadStep_trans told bandStep
  obtain ⟨step, settings, sameBands, damage⟩ := State.loadSegments_loaded (both.loading loading)
  have log : z.store.formedLog = x.store.formedLog := Store.formedLog_congr both.array
  have timebase := z.loadSegments.settleTimebase_changesOnly
  have settled : z.loadSegments.settleTimebase.bands = z.bands := (timebase .bands (by decide)).trans sameBands
  refine ⟨State.loadStep_congr (State.loadStep_then (State.loadStep_trans both step)
    (State.settleTimebase_loadStep _)) fun r => ?_, ?_, fun k => ?_, fun failed => ?_, ?_⟩
  · simp only [log, loaded]
    cases r <;> simp [State.toldSuspect]
  · have sameSettings : z.settings = x.settings := (bandRest .settings (by decide)).trans (rest .settings (by decide))
    have sameLog : z.store.loadLog = x.store.loadLog := congrArg SegmentLog.entries log
    rw [show z.loadSegments.settleTimebase.settings = _ from timebase .settings (by decide), settings, sameSettings,
      sameLog]
  · rw [settled, bands k, if_pos (List.mem_finRange k), loaded]
  · rw [settled, keptBands failed]
  · rw [State.settleTimebase_damage, damage, log]

end Sys2Proof.Machine
end

section
/-! PROOFS. The end of a load (O57), the last part: the start of the blocks, and the whole. -/

namespace Sys2Proof.Machine

/-! ## The start of the blocks (R62, R87, R154) -/

/-- The state formed, with the store READY and the reset record's device time. -/
def State.readied (s : State) : State :=
  { s with
    store := { s.store with state := .ready }
    time := { s.time with resetRecord := { s.time.resetRecord with deviceTime := s.time.deviceTime } } }

/-- What the first write of a queue leaves of the accounts and of the store. -/
structure State.firstWrite (s t : State) : Prop where
  rest : s.changesOnly t [.accounts, .store, .engine]
  account : ∀ i, t.account i = s.account i
  due : t.accounts.serviceDue = s.accounts.serviceDue
  life : t.accounts.lifeLimit = s.accounts.lifeLimit
  array : t.store.array = s.store.array
  mark : t.store.settingsSuspect = s.store.settingsSuspect
  checkpoint : t.store.checkpointMs = s.store.checkpointMs
  state : t.store.state = .ready ∨ t.store.state = .writing

theorem State.startWrite_settingsSuspect (s : State) (r : RecordId) :
    (s.startWrite r).store.settingsSuspect = s.store.settingsSuspect := by
  cases r <;> rfl

/-- A queue of slot records: the write that begins stamps no account (R9). -/
theorem State.startIfReady_firstWrite {s : State} (ready : s.store.state = .ready)
    (slots : ∀ r, r ∈ s.store.queue → ∃ k, r = .slot k) : s.firstWrite s.startIfReady := by
  have rest := s.startIfReady_changesOnly
  unfold State.startIfReady at rest ⊢
  rw [ready] at rest ⊢
  dsimp only at rest ⊢
  unfold State.nextWrite at rest ⊢
  cases queued : s.store.queue with
  | nil =>
    rw [queued] at rest
    exact ⟨rest, fun _ => rfl, rfl, rfl, rfl, rfl, rfl, .inl rfl⟩
  | cons r left =>
    rw [queued] at rest
    obtain ⟨k, rfl⟩ := slots r (queued ▸ List.mem_cons_self ..)
    exact ⟨rest, fun i => (State.startWrite_account _ _ i).trans (if_neg (by simp)),
      by rw [State.startWrite_serviceDue], by rw [State.startWrite_lifeLimit], by rw [State.startWrite_array],
      by rw [State.startWrite_settingsSuspect], by rw [State.startWrite_checkpointMs],
      .inr (by rw [State.startWrite_state])⟩

/-- With the starter unknown and the line released no mode finds crank active (R87). -/
theorem State.crankActiveNow_released {s : State} (intake : s.intake = Intake.afterReset)
    (crank : s.lines.crank = false) : s.crankActiveNow ≠ some true := by
  have unknown : s.intake.starterStatus.known = none := by rw [intake]; rfl
  unfold State.crankActiveNow crankActive
  rw [unknown, crank]
  cases s.settings.crankMode <;> simp

/-- Crank active is re-formed with no trigger (R88, R89). -/
theorem State.reformCrank_released {s : State} (intake : s.intake = Intake.afterReset) (crank : s.lines.crank = false)
    (latch : s.qualifier.latch = false) : s.changesOnly s.reformCrank [.qualifier] := by
  have active := State.crankActiveNow_released intake crank
  have still : s.reformLatch.qualifier.latch = false := by
    unfold State.reformLatch
    split
    · exact latch
    · next v now =>
      cases v
      · rfl
      · exact absurd now active
  unfold State.reformCrank
  dsimp only
  rw [if_neg (by simp [still])]
  exact s.reformLatch_changesOnly

theorem State.startUp_released {s : State} (pfw : s.lines.pfw = false) :
    s.startUp = { s with meter := { s.meter with timer := some periodMs } } := by
  unfold State.startUp
  dsimp only
  rw [if_neg (by simp [pfw])]

/-- The blocks started on the state f formed. -/
structure State.started (f t : State) : Prop where
  rest : f.changesOnly t [.accounts, .store, .engine, .time, .meter, .qualifier]
  account : ∀ i, t.account i = f.account i
  due : t.accounts.serviceDue = f.accounts.serviceDue
  life : t.accounts.lifeLimit = f.accounts.lifeLimit
  time : t.time = { f.time with resetRecord := { f.time.resetRecord with deviceTime := f.time.deviceTime } }
  timer : t.meter.timer = some 100
  array : t.store.array = f.store.array
  mark : t.store.settingsSuspect = f.store.settingsSuspect
  checkpoint : t.store.checkpointMs = f.store.checkpointMs
  state : t.store.state = .ready ∨ t.store.state = .writing

theorem State.finishLoad_started (s : State) (kind : LoadKind)
    (slots : ∀ r, r ∈ (s.formAll kind).store.queue → ∃ k, r = .slot k)
    (intake : (s.formAll kind).intake = Intake.afterReset) (qualifier : (s.formAll kind).qualifier = Qualifier.initial)
    (crank : (s.formAll kind).lines.crank = false) (pfw : (s.formAll kind).lines.pfw = false) :
    (s.formAll kind).started (s.finishLoad kind) := by
  rw [show s.finishLoad kind = ((s.formAll kind).readied.startIfReady.reformCrank).startUp from rfl]
  generalize s.formAll kind = f at *
  have ready : f.changesOnly f.readied [.store, .time] := by
    intro p hp
    cases p <;> first | rfl | simp at hp
  have write : f.readied.firstWrite f.readied.startIfReady := State.startIfReady_firstWrite rfl slots
  generalize f.readied.startIfReady = u at *
  have readyThen : f.changesOnly u [.store, .time, .accounts, .engine] :=
    State.changesOnly_then ready write.rest (by decide) (by decide)
  have sameIntake : u.intake = f.intake := readyThen .intake (by decide)
  have sameLines : u.lines = f.lines := readyThen .lines (by decide)
  have sameQualifier : u.qualifier = f.qualifier := readyThen .qualifier (by decide)
  have formed := State.reformCrank_released (s := u) (by rw [sameIntake, intake]) (by rw [sameLines, crank])
    (by rw [sameQualifier, qualifier]; rfl)
  generalize u.reformCrank = v at *
  have lines : v.lines = u.lines := formed .lines (by decide)
  have accounts : v.accounts = u.accounts := formed .accounts (by decide)
  have store : v.store = u.store := formed .store (by decide)
  have time : v.time = u.time := formed .time (by decide)
  rw [State.startUp_released (by rw [lines, sameLines, pfw])]
  have metered : v.changesOnly { v with meter := { v.meter with timer := some periodMs } } [.meter] := by
    intro p hp
    cases p <;> first | rfl | simp at hp
  refine
    { rest := State.changesOnly_then (State.changesOnly_then (rs := [.accounts, .store, .engine, .time, .qualifier])
        readyThen formed (by decide) (by decide)) metered (by decide) (by decide)
      account := fun i => ?_, due := ?_, life := ?_, time := ?_, timer := rfl, array := ?_, mark := ?_
      checkpoint := ?_, state := ?_ }
  · show v.accounts.accounts[i] = _
    rw [accounts]
    exact write.account i
  · show v.accounts.serviceDue = _
    rw [accounts, write.due]
    rfl
  · show v.accounts.lifeLimit = _
    rw [accounts, write.life]
    rfl
  · show v.time = _
    rw [time, show u.time = _ from write.rest .time (by decide)]
    rfl
  · show v.store.array = _
    rw [store, write.array]
    rfl
  · show v.store.settingsSuspect = _
    rw [store, write.mark]
    rfl
  · show v.store.checkpointMs = _
    rw [store, write.checkpoint]
    rfl
  · show v.store.state = _ ∨ v.store.state = _
    rw [store]
    exact write.state

/-! ## The accounts and the settings formed -/

theorem State.formSettings_changesOnly (s : State) (kind : LoadKind) :
    s.changesOnly (s.formSettings kind) [.settings, .store] := by
  have put (v : Settings) (m : Bool) :
      s.changesOnly { s with settings := v, store := { s.store with settingsSuspect := m } } [.settings, .store] := by
    intro p hp
    cases p <;> first | rfl | simp at hp
  unfold State.formSettings
  split
  · exact s.changesOnly_refl _
  all_goals exact put _ _

theorem State.formSettings_store (s : State) (kind : LoadKind) :
    { (s.formSettings kind).store with settingsSuspect := s.store.settingsSuspect } = s.store := by
  unfold State.formSettings
  split <;> rfl

/-- The settings a load forms and their mark (R153, R190). -/
theorem State.formSettings_formed (s : State) (kind : LoadKind) :
    (s.formSettings kind).settings =
        (match kind, (s.store.stored .settings).judgeSettings with
          | .failedCheck, _ => s.settings
          | .cold, .good v => v
          | .cold, .blank | .cold, .bad => Settings.default) ∧
      (s.formSettings kind).store.settingsSuspect =
        (match kind, (s.store.stored .settings).judgeSettings with
          | .failedCheck, _ => s.store.settingsSuspect
          | .cold, .bad => true
          | .cold, .blank | .cold, .good _ => false) := by
  unfold State.formSettings
  cases kind
  · cases (s.store.stored .settings).judgeSettings <;> exact ⟨rfl, rfl⟩
  · exact ⟨rfl, rfl⟩

theorem State.loadAccounts_changesOnly (s : State) : s.changesOnly s.loadAccounts [.accounts, .alerts, .port] := by
  have table : s.changesOnly s.tableFormed [.accounts] := by
    intro p hp
    cases p <;> first | rfl | simp at hp
  have report (x : State) (i : AccountIx) : x.changesOnly (x.reportLoaded i) [.alerts, .port] :=
    State.changesOnly_ite (x.changesOnly_refl _) (x.report_changesOnly _ _ _)
  rw [State.loadAccounts_eq]
  exact State.changesOnly_then
    (State.changesOnly_then (rs := [.accounts, .alerts, .port]) table (State.changesOnly_foldl report _ _) (by decide)
      (by decide))
    (State.changesOnly_foldl State.evalThresholds_changesOnly _ _) (by decide) (by decide)

/-- Accounts, conditions and held values that stand from one state to another. -/
theorem State.accountsLoaded_congr {x t : State} {st : Store} (h : x.accountsLoaded st)
    (account : ∀ i, t.account i = x.account i) (due : t.accounts.serviceDue = x.accounts.serviceDue)
    (life : t.accounts.lifeLimit = x.accounts.lifeLimit)
    (held : ∀ i c, t.alerts.holds (accountPair i c) = x.alerts.holds (accountPair i c)) : t.accountsLoaded st where
  account i := (account i).trans (h.account i)
  recordHeld i suspect := by
    rw [account] at suspect
    rw [held]
    exact h.recordHeld i suspect
  formed i := by
    obtain ⟨dueNow, lifeNow⟩ := h.formed i
    exact ⟨by rw [due, dueNow, account], by rw [life, lifeNow, account]⟩
  held i := by
    obtain ⟨dueHeld, lifeHeld⟩ := h.held i
    exact ⟨by rw [held, dueHeld, due], by rw [held, lifeHeld, life]⟩

/-- The state x with the accounts and the settings formed from s. -/
structure State.headed (s x : State) (kind : LoadKind) : Prop where
  rest : s.changesOnly x [.time, .store, .accounts, .alerts, .port, .settings]
  accounts : x.accountsLoaded s.store
  tells : AlertUnit.initial.tells x.alerts fun _ => False
  settings : x.settings = (s.formSettings kind).settings
  mark : x.store.settingsSuspect = (s.formSettings kind).store.settingsSuspect
  time : x.time = { s.time with deviceTime := s.store.loadedTime, subSecondMs := 0 }
  array : x.store.array = s.store.array
  state : x.store.state = s.store.state
  queue : x.store.queue = []
  checkpoint : x.store.checkpointMs = s.store.checkpointMs

theorem State.headFormed_headed (s : State) (kind : LoadKind) (alerts : s.alerts = AlertUnit.initial) :
    s.headed (s.headFormed kind) kind := by
  have started : s.changesOnly (s.startLoad kind) [.time, .store] := by
    intro p hp
    cases p <;> first | rfl | simp at hp
  obtain ⟨loaded, tells⟩ := (s.startLoad kind).loadAccounts_loaded alerts
  have accountRest := (s.startLoad kind).loadAccounts_changesOnly
  rw [show s.headFormed kind = (s.startLoad kind).loadAccounts.formSettings kind from rfl]
  generalize (s.startLoad kind).loadAccounts = y at *
  have store : y.store = (s.startLoad kind).store := accountRest .store (by decide)
  have settings : y.settings = s.settings := accountRest .settings (by decide)
  have time : y.time = (s.startLoad kind).time := accountRest .time (by decide)
  have formedRest := y.formSettings_changesOnly kind
  have formedStore := y.formSettings_store kind
  obtain ⟨formed, marked⟩ := y.formSettings_formed kind
  generalize y.formSettings kind = x at *
  have accounts : x.accounts = y.accounts := formedRest .accounts (by decide)
  have sameAlerts : x.alerts = y.alerts := formedRest .alerts (by decide)
  have rest : s.changesOnly y [.time, .store, .accounts, .alerts, .port] :=
    State.changesOnly_then started accountRest (by decide) (by decide)
  rw [store] at formedStore formed marked
  refine
    { rest := State.changesOnly_then rest formedRest (by decide) (by decide)
      accounts := State.accountsLoaded_congr (x := y) ?_ (fun i => by unfold State.account; rw [accounts])
        (by rw [accounts]) (by rw [accounts]) (fun i c => by rw [sameAlerts])
      tells := ?_, settings := ?_, mark := ?_, time := ?_
      array := ?_, state := ?_, queue := ?_, checkpoint := ?_ }
  · exact ⟨loaded.account, loaded.recordHeld, loaded.formed, loaded.held⟩
  · rw [sameAlerts, ← alerts]
    exact tells
  · rw [settings] at formed
    exact formed.trans (s.formSettings_formed kind).1.symm
  · exact marked.trans (s.formSettings_formed kind).2.symm
  · rw [show x.time = _ from formedRest .time (by decide), time]
    rfl
  · have e := congrArg Store.array formedStore
    exact e
  · have e := congrArg Store.state formedStore
    exact e
  · have e := congrArg Store.queue formedStore
    exact e
  · have e := congrArg Store.checkpointMs formedStore
    exact e

/-! ## Records outside their ranges (R153) -/

theorem Stored.judgeAccount_outOfRange {a : Account} (i : AccountIx)
    (h : 288000 ≤ a.credit ∨ 255 < a.serviceCount ∨ 65535 < a.baseWeight ∨ 4294967295 < a.wear) :
    (Stored.whole (.account i a)).judgeAccount i = .bad := by
  have out : a.inRange i = false := by
    by_contra inside
    have all : a.inRange i = true := by simpa using inside
    simp [Account.inRange, counterIn, counterMax, creditScale, weightIn] at all
    omega
  simp [Stored.judgeAccount, out]

theorem Stored.judgeSettings_outOfRange {v : Settings}
    (h : v.holdLimit < 250 ∨ 5000 < v.holdLimit ∨ v.freshLimit < 100 ∨ 1000 < v.freshLimit) :
    (Stored.whole (.settings v)).judgeSettings = .bad := by
  have out : v.inRange = false := by
    by_contra inside
    have all : v.inRange = true := by simpa using inside
    simp [Settings.inRange, withinNat] at all
    omega
  simp [Stored.judgeSettings, out]

theorem Stored.judgeBand_outOfRange {e : BandEntry} (k : Fin 16) (h : 65535 < e.weightPart.weight) :
    (Stored.whole (.band k e)).judgeBand k = .bad := by
  have out : e.inRange = false := by
    by_contra inside
    have all : e.inRange = true := by simpa using inside
    simp [BandEntry.inRange, weightIn] at all
    omega
  simp [Stored.judgeBand, out]

/-! ## The whole load -/

/-- What the end of a load leaves in t, the accounts and the settings formed from s in x. -/
structure State.loaded (s x t : State) (kind : LoadKind) : Prop where
  head : s.headed x kind
  accounts : t.accountsLoaded s.store
  settings : t.settings = x.settings.counted s.store.loadLog
  mark : t.store.settingsSuspect = x.store.settingsSuspect
  bands : ∀ k, (t.bands.entries[k], t.bands.suspect[k]) = s.loadedBand kind k
  keptBands : kind = .failedCheck → t.bands = s.bands
  damaged : ∀ k, t.log.damagedAt k ↔ s.store.formedLog.damagedAt k
  tells : AlertUnit.initial.tells t.alerts (x.toldSuspect kind)
  time : t.time =
    { s.time with
      deviceTime := s.store.loadedTime
      subSecondMs := 0
      timebaseHeld := t.time.timebaseHeld
      resetRecord := { s.time.resetRecord with deviceTime := s.store.loadedTime } }
  timer : t.meter.timer = some 100
  array : t.store.array = s.store.array
  checkpoint : t.store.checkpointMs = s.store.checkpointMs
  state : t.store.state = .ready ∨ t.store.state = .writing

theorem State.finishLoad_loaded {s : State} {kind : LoadKind} (loading : s.store.state = .loading kind)
    (intake : s.intake = Intake.afterReset) (qualifier : s.qualifier = Qualifier.initial)
    (alerts : s.alerts = AlertUnit.initial) (crank : s.lines.crank = false) (pfw : s.lines.pfw = false) :
    s.loaded (s.headFormed kind) (s.finishLoad kind) kind := by
  have head := s.headFormed_headed kind alerts
  have forms := s.formAll_formsRest kind (head.state.trans loading)
  have blocks := s.finishLoad_started kind
  generalize s.headFormed kind = x at *
  generalize s.formAll kind = f at *
  obtain ⟨step, settings, bands, keptBands, damage⟩ := forms
  have before : s.changesOnly f [.settings, .store, .bands, .log, .alerts, .port, .time, .accounts] :=
    State.changesOnly_then head.rest step.rest (by decide) (by decide)
  have sameIntake : f.intake = s.intake := before .intake (by decide)
  have sameLines : f.lines = s.lines := before .lines (by decide)
  have sameQualifier : f.qualifier = s.qualifier := before .qualifier (by decide)
  have started := blocks
    (fun r m => (step.queue r m).resolve_left (by rw [head.queue]; exact List.not_mem_nil))
    (by rw [sameIntake, intake]) (by rw [sameQualifier, qualifier]) (by rw [sameLines, crank]) (by rw [sameLines, pfw])
  generalize s.finishLoad kind = t at *
  have log : x.store.formedLog = s.store.formedLog := Store.formedLog_congr head.array
  have xBands : x.bands = s.bands := head.rest .bands (by decide)
  have fAccounts : f.accounts = x.accounts := step.rest .accounts (by decide)
  have tSettings : t.settings = f.settings := started.rest .settings (by decide)
  have tBands : t.bands = f.bands := started.rest .bands (by decide)
  have tLog : t.log = f.log := started.rest .log (by decide)
  have tAlerts : t.alerts = f.alerts := started.rest .alerts (by decide)
  have xMark : f.store.settingsSuspect = x.store.settingsSuspect := by
    have e := congrArg Store.settingsSuspect step.store
    exact e
  have xCheckpoint : f.store.checkpointMs = x.store.checkpointMs := by
    have e := congrArg Store.checkpointMs step.store
    exact e
  have fTime : f.time = { x.time with timebaseHeld := f.time.timebaseHeld } := by
    rw [← step.time]
  refine
    { head := head
      accounts := State.accountsLoaded_congr head.accounts (fun i => ?_) (by rw [started.due, fAccounts])
        (by rw [started.life, fAccounts]) (fun i c => by rw [tAlerts, step.held])
      settings := ?_
      mark := started.mark.trans xMark
      bands := fun k => ?_
      keptBands := fun failed => by rw [tBands, keptBands failed, xBands]
      damaged := fun k => ?_
      tells := ?_
      time := ?_
      timer := started.timer
      array := by rw [started.array, step.array, head.array]
      checkpoint := by rw [started.checkpoint, xCheckpoint, head.checkpoint]
      state := started.state }
  · rw [started.account]
    unfold State.account
    rw [fAccounts]
  · rw [tSettings, settings]
    exact congrArg (fun l : SegmentLog => x.settings.counted l.entries) log
  · rw [tBands, bands, State.loadedBand_congr head.array xBands]
  · rw [tLog, ← log]
    exact SegmentLog.damagedAt_congr damage k
  · rw [tAlerts]
    exact AlertUnit.tells_congr (AlertUnit.tells_trans head.tells step.tells) fun _ => (false_or _).to_iff
  · rw [started.time, fTime, head.time]

/-- The records told suspect are those that stand marked or DAMAGED after the load. -/
theorem State.loaded.toldSuspect_iff {s x t : State} {kind : LoadKind} (h : s.loaded x t kind) (r : RecordId) :
    x.toldSuspect kind r ↔
      match r with
      | .account _ => False
      | .settings => t.store.settingsSuspect = true
      | .band k => t.bands.suspect[k] = true
      | .slot k => ∃ g, t.log.inSlot k = some g ∧ g.state = .damaged := by
  cases r with
  | account _ => exact Iff.rfl
  | settings =>
    show x.store.settingsSuspect = true ↔ t.store.settingsSuspect = true
    rw [h.mark]
  | band k =>
    have formed : t.bands.suspect[k] = (s.loadedBand kind k).2 := congrArg Prod.snd (h.bands k)
    show (x.loadedBand kind k).2 = true ↔ t.bands.suspect[k] = true
    rw [formed, State.loadedBand_congr h.head.array (h.head.rest .bands (by decide))]
  | slot k =>
    show x.store.formedLog.damagedAt k ↔ t.log.damagedAt k
    rw [h.damaged, Store.formedLog_congr h.head.array]

/-- Settles O57: each clause from what the end of the load leaves. -/
theorem coldLoadFormsState : Obligations.ColdLoadFormsState := by
  intro s kind loading _ outside _ intake qualifier alerts crank pfw
  have done := State.finishLoad_loaded loading intake qualifier alerts crank pfw
  have run : exec .loadEnd s = .next (s.finishLoad kind) := by
    show execLoadEnd s = _
    unfold execLoadEnd
    rw [loading, outside]
  refine ⟨s.finishLoad kind, run, ?_⟩
  generalize s.headFormed kind = x at done
  generalize s.finishLoad kind = t at done ⊢
  obtain ⟨settings, mark⟩ := s.formSettings_formed kind
  rw [← done.head.settings] at settings
  rw [← done.head.mark, ← done.mark] at mark
  refine ⟨fun i => ⟨done.accounts.account i, fun a whole out => ?_, done.accounts.recordHeld i,
      (done.accounts.formed i).due, (done.accounts.formed i).life, (done.accounts.held i).due,
      (done.accounts.held i).life⟩, ?_, mark, fun cold v whole out => ?_, done.keptBands,
    fun cold k => ⟨?_, fun e whole out => ?_⟩, fun r => ?_, ?_, ?_, ?_, done.array, ?_, done.state, done.timer, ?_,
    done.checkpoint⟩
  · rw [done.accounts.account i, Store.loadAccount, whole, Stored.judgeAccount_outOfRange i out]
    rfl
  · rw [done.settings, settings]
    rfl
  · subst cold
    rw [mark, whole, Stored.judgeSettings_outOfRange out]
  · subst cold
    exact done.bands k
  · subst cold
    have formed := done.bands k
    rw [State.loadedBand, whole, Stored.judgeBand_outOfRange k out] at formed
    exact congrArg Prod.snd formed
  · rw [done.tells.suspects]
    exact (or_iff_right List.not_mem_nil).trans (done.toldSuspect_iff r)
  · exact done.tells.summed rfl
  all_goals rw [done.time]

end Sys2Proof.Machine
end

section
/-! PROOFS. The state after a cold reset (O4), the frames that wake a PARKED part (O41), the ageing of signals (O42), and the
decoding of observation frames (O39). -/

namespace Sys2Proof.Machine

/-! ## The state after reset (O4) -/

/-- A cold reset leaves every slot IDLE (R180). -/
theorem State.reset_slot (k : SlotIx) : State.reset.engine.slots[k] = ClientSlot.idle := by
  simp [State.reset, State.coldStart, RequestEngine.afterReset]

/-- A cold reset leaves the Meter with no winning entry and no flag (R86). -/
theorem State.reset_meter (i : AccountIx) :
    State.reset.meter.lastWinner[i] = none ∧ State.reset.meter.unobservedNow[i] = false := by
  simp [State.reset, State.coldStart, Meter.afterReset]

/-- No threshold condition stands after a cold reset (R16). -/
theorem State.reset_conditions (i : AccountIx) :
    State.reset.accounts.serviceDue[i] = false ∧ State.reset.accounts.lifeLimit[i] = false := by
  simp [State.reset, State.coldStart, AccountTable.blank]

/-- Every band entry is blank and none suspect until the load forms it (R60). -/
theorem State.reset_band (k : Fin 16) :
    State.reset.bands.entries[k] = BandEntry.blank ∧ State.reset.bands.suspect[k] = false := by
  simp [State.reset, State.coldStart]

/-- Settles O4: the tables by their lemmas, every other field as `State.coldStart` writes it. -/
theorem resetLeavesInitialState : Obligations.ResetLeavesInitialState := by
  have slots (k : SlotIx) :
      State.reset.engine.slots[k].inFlight = none ∧ State.reset.engine.slots[k].buffer = none := by
    rw [State.reset_slot]
    exact ⟨rfl, rfl⟩
  refine ⟨rfl, rfl, rfl, rfl, rfl, rfl, rfl, rfl, rfl, State.reset_meter, rfl, rfl, rfl, rfl, rfl, rfl, rfl, rfl, rfl, rfl,
    rfl, rfl, slots, rfl, rfl, rfl, rfl, rfl, fun i => ⟨State.reset_account i, State.reset_conditions i⟩,
    State.reset_band, rfl, rfl, rfl⟩

/-! ## Frames heard and waking (O41) -/

/-- Every frame is heard by the port, whatever the part then takes of it. -/
theorem exec_frame {c : Instr} (frame : isFrame c = true) :
    ∃ take : State → State, ∀ s, exec c s = .next (s.hearFrame take) := by
  cases request : requestOf c with
  | some r =>
    obtain ⟨slot, kind, ops⟩ := r
    exact ⟨fun x => x.takeRequest slot kind ops, exec_request request⟩
  | none =>
    cases c
    case unknownRequest | engineState | drivelineState | drivelineEvent | wakeFrame => exact ⟨_, fun _ => rfl⟩
    all_goals simp [isFrame, requestOf] at frame request

/-- The first frame seen in PARKED wakes the part and is lost (R43, R187). -/
theorem State.hearFrame_parked (s : State) (take : State → State) (on : s.onBus = true) (parked : s.time.mode = .parked) :
    s.hearFrame take = s.restartLinger.wake := by
  simp [State.hearFrame, on, parked]

/-- A wake frame outside PARKED changes nothing (log 12). -/
theorem State.hearFrame_awake (s : State) (awake : s.time.mode ≠ .parked) : s.hearFrame id = s := by
  simp [State.hearFrame, awake]

theorem State.wake_time (s : State) : s.wake.time = { s.time with mode := .active } :=
  State.reformCrank_changesOnly _ .time (by decide)

theorem State.wake_meter (s : State) : s.wake.meter = { s.meter with timer := some periodMs } :=
  State.reformCrank_changesOnly _ .meter (by decide)

/-- IGN asserted. -/
def State.keyedOn (s : State) : State := { s with lines := { s.lines with ign := true } }

theorem State.keyedOn_changesOnly (s : State) : s.changesOnly s.keyedOn [.lines] := by
  intro p hp
  cases p <;> first | rfl | simp at hp

theorem exec_ignAsserted {s : State} (released : s.lines.ign = false) (outside : s.time.inReset = none) :
    exec .ignAsserted s = .next (if s.time.mode = .parked then s.keyedOn.wake else s.keyedOn) := by
  show execIgnAsserted s = _
  simp [execIgnAsserted, released, outside, State.keyedOn]

/-- Settles O41: every frame goes through `hearFrame`, and a wake changes the mode, the timers and what the Qualifier may. -/
theorem parkedPartWakes : Obligations.ParkedPartWakes := by
  refine ⟨fun s c frame => ⟨fun off => ?_, fun on parked => ?_, fun awake => ?_⟩, fun s released outside => ?_⟩
  · obtain ⟨take, run⟩ := exec_frame frame
    rw [run, s.hearFrame_offBus take off]
  · obtain ⟨take, run⟩ := exec_frame frame
    rw [run, s.hearFrame_parked take on parked]
    exact ⟨_, rfl, State.wake_time _, State.wake_meter _,
      State.changesOnly_then s.restartLinger_changesOnly (State.wake_changesOnly _) (by simp) (by simp)⟩
  · exact congrArg Host.Outcome.next (s.hearFrame_awake awake)
  · rw [exec_ignAsserted released outside]
    refine ⟨_, rfl, ?_⟩
    by_cases parked : s.time.mode = .parked
    · rw [if_pos parked]
      refine ⟨s.keyedOn.wake_changesOnly .lines (by decide), fun _ => ⟨s.keyedOn.wake_time, s.keyedOn.wake_meter, ?_⟩,
        absurd parked⟩
      exact State.changesOnly_then s.keyedOn_changesOnly s.keyedOn.wake_changesOnly (by simp) (by simp)
    · rw [if_neg parked]
      exact ⟨rfl, fun h => absurd h parked, fun _ => s.keyedOn_changesOnly⟩

/-! ## Signals grow old (O42) -/

/-- A replaced class and age leave every stored value. -/
theorem Intake.engineSpeed_value_setAgeing (x : Intake) (g : Ageing) (n : SignalName) :
    (x.setAgeing g n).engineSpeed.value = x.engineSpeed.value := by
  cases n <;> rfl

/-- A FRESH signal past the fresh limit is HELD; its value and every other signal stand (R31). -/
theorem State.passHeld_effect (s : State) (n : SignalName) :
    ((s.passHeld n).intake.ageing n).cls =
        (if (s.intake.ageing n).cls = .fresh then .held else (s.intake.ageing n).cls) ∧
      (∀ m, m ≠ n → (s.passHeld n).intake.ageing m = s.intake.ageing m) ∧
      (s.passHeld n).intake.engineSpeed.value = s.intake.engineSpeed.value ∧ s.changesOnly (s.passHeld n) [.intake] := by
  unfold State.passHeld
  cases cls : (s.intake.ageing n).cls with
  | fresh =>
    refine ⟨?_, fun m other => Intake.ageing_setAgeing_other _ _ other.symm,
      Intake.engineSpeed_value_setAgeing _ _ _, s.setAgeing_changesOnly n _⟩
    simp
  | held => exact ⟨cls, fun _ _ => rfl, rfl, s.changesOnly_refl _⟩
  | unknown => exact ⟨cls, fun _ _ => rfl, rfl, s.changesOnly_refl _⟩

/-- What is handed on changes no class and no age. -/
theorem State.handUnknown_ageing (s : State) (n m : SignalName) :
    (s.handUnknown n).intake.ageing m = s.intake.ageing m := by
  rw [State.handUnknown_intake]
  split
  · exact Intake.ageing_dropBaselines _ m
  · rfl

theorem State.passUnknown_of_unknown {s : State} {n : SignalName} (age : Nat) (h : (s.intake.ageing n).cls = .unknown) :
    s.passUnknown n age = s := by
  simp [State.passUnknown, h]

theorem State.passUnknown_of_known {s : State} {n : SignalName} (age : Nat) (h : (s.intake.ageing n).cls ≠ .unknown) :
    s.passUnknown n age = (s.setAgeing n { cls := .unknown, age := age }).handUnknown n := by
  unfold State.passUnknown
  split
  · next unknown => exact absurd unknown h
  · rfl
  · rfl

/-- A signal past the hold limit is UNKNOWN, and no other signal is touched (R33). -/
theorem State.passUnknown_ageing (s : State) (n : SignalName) (age : Nat) :
    ((s.passUnknown n age).intake.ageing n).cls = .unknown ∧
      ∀ m, m ≠ n → (s.passUnknown n age).intake.ageing m = s.intake.ageing m := by
  by_cases unknown : (s.intake.ageing n).cls = .unknown
  · rw [State.passUnknown_of_unknown age unknown]
    exact ⟨unknown, fun _ _ => rfl⟩
  · rw [State.passUnknown_of_known age unknown]
    refine ⟨?_, fun m other => ?_⟩
    · rw [State.handUnknown_ageing]
      simp
    · rw [State.handUnknown_ageing]
      exact Intake.ageing_setAgeing_other _ _ other.symm

/-- The DRIVELINE EVENT group takes both baselines with it (R35). -/
theorem State.passUnknown_baselines {s : State} (age : Nat) (h : (s.intake.ageing .drivelineEvent).cls ≠ .unknown) :
    (s.passUnknown .drivelineEvent age).intake.shiftBaseline = none ∧
      (s.passUnknown .drivelineEvent age).intake.engagementBaseline = none := by
  rw [State.passUnknown_of_known age h]
  exact ⟨rfl, rfl⟩

/-- Loss of engine speed ends a confirmation UNVERIFIED (R97). -/
theorem State.speedLost_confirming {s : State} {a : Attempt} {left : Nat}
    (h : s.qualifier.state = .confirming a left) : s.speedLost = s.endAttempt a .unverified .idle := by
  simp [State.speedLost, h]

/-- Loss of engine speed starts the stop timer of RUNNING (R101). -/
theorem State.speedLost_running {s : State} {stop : Option Nat} (h : s.qualifier.state = .running stop) :
    s.speedLost = s.startStop stop := by
  simp [State.speedLost, h]

theorem exec_signalHeld (n : SignalName) {s : State} (running : s.isRunning = true) :
    exec (.signalHeld n) s = .next (s.passHeld n) :=
  congrArg Host.Outcome.next (if_pos running)

theorem exec_signalUnknown (n : SignalName) {s : State} (running : s.isRunning = true) :
    exec (.signalUnknown n) s =
      .next (s.passUnknown n (max (s.intake.ageing n).age (s.settings.holdLimit + 1))) :=
  congrArg Host.Outcome.next (if_pos running)

/-- Settles O42: the two passages by class, and what the passage of engine speed hands to the Qualifier. -/
theorem signalsGrowOld : Obligations.SignalsGrowOld := by
  intro s n running
  refine ⟨⟨_, exec_signalHeld n running, s.passHeld_effect n⟩, _, exec_signalUnknown n running, ?_⟩
  generalize max (s.intake.ageing n).age (s.settings.holdLimit + 1) = age
  obtain ⟨own, others⟩ := s.passUnknown_ageing n age
  refine ⟨own, others, State.passUnknown_of_unknown age, fun known group => ?_, fun known speed => ?_,
    State.changesOnly_mono (s.passUnknown_changesOnly n age) (by simp)⟩
  · subst group
    exact State.passUnknown_baselines age known
  · subst speed
    rw [State.passUnknown_of_known age known]
    refine ⟨fun a left confirming => ?_, fun stopped => ?_⟩
    · have lost := State.speedLost_confirming (s := s.setAgeing .engineSpeed { cls := .unknown, age := age }) confirming
      rw [State.handUnknown, lost, State.endAttempt_qualifier]
      exact ⟨rfl, getLast?_pushRing _ _⟩
    · have lost := State.speedLost_running (s := s.setAgeing .engineSpeed { cls := .unknown, age := age }) stopped
      rw [State.handUnknown, lost]
      rfl

/-! ## Observation frames (O39) -/

theorem exec_observation {s : State} {id : CanId} {data : List Byte} {c : Instr}
    (frame : c = .engineState id data ∨ c = .drivelineState id data ∨ c = .drivelineEvent id data)
    (on : s.onBus = true) (active : s.time.mode = .active) : exec c s = .next (s.routeFrame id data) := by
  have heard : s.observationFrame id data = s.routeFrame id data := s.hearFrame_active _ on active
  rcases frame with rfl | rfl | rfl <;> exact congrArg Host.Outcome.next heard

theorem State.routeFrame_request {s : State} {id : CanId} {slot : SlotIx} (data : List Byte)
    (route : routeOf s.time.straps s.settings.filters id = .request slot) :
    s.routeFrame id data = s.takeRequestData slot data := by
  simp [State.routeFrame, route]

theorem State.routeFrame_observation {s : State} {id : CanId} {f : ObsFormat} (data : List Byte)
    (route : routeOf s.time.straps s.settings.filters id = .observation f) :
    s.routeFrame id data = s.restartLinger.decode f data := by
  simp [State.routeFrame, route]

theorem State.routeFrame_ignored {s : State} {id : CanId} (data : List Byte)
    (route : routeOf s.time.straps s.settings.filters id = .ignored) : s.routeFrame id data = s := by
  simp [State.routeFrame, route]

theorem State.setIntake_changesOnly (s : State) (x : Intake) : s.changesOnly { s with intake := x } [.intake] := by
  intro p hp
  cases p <;> first | rfl | simp at hp

/-- A whole ENGINE STATE frame is stored, and its update changes besides Intake the Qualifier's parts alone (R26, R30). -/
theorem State.decodeEngine_effect (s : State) (b0 b1 b2 b3 b4 : Byte) (rest : List Byte) :
    (s.decodeEngine (b0 :: b1 :: b2 :: b3 :: b4 :: rest)).intake = s.intake.takeEngine b0 b1 b2 b3 b4 ∧
      s.changesOnly (s.decodeEngine (b0 :: b1 :: b2 :: b3 :: b4 :: rest)) intakeParts := by
  have taken := s.setIntake_changesOnly (s.intake.takeEngine b0 b1 b2 b3 b4)
  have updated := State.changesOnly_trans (State.reformCrank_changesOnly _)
    (State.speedUpdate_changesOnly (State.reformCrank { s with intake := s.intake.takeEngine b0 b1 b2 b3 b4 }))
  unfold State.decodeEngine
  dsimp only
  split
  · exact ⟨updated .intake (by decide), State.changesOnly_then taken updated (by simp) (by simp)⟩
  · exact ⟨rfl, State.changesOnly_mono taken (by simp)⟩

theorem State.postCounted_changesOnly (s : State) (i : AccountIx) (n : Nat) :
    s.changesOnly (s.postCounted i n) [.accounts, .store, .alerts, .port] :=
  State.changesOnly_ite (s.changesOnly_refl _) (s.postEvents_changesOnly i n _)

/-- A whole DRIVELINE EVENT frame refreshes the group and takes both baselines; the postings change no more of Intake
(R34, R36). -/
theorem State.decodeEvent_effect (s : State) (shift engagement : Byte) (rest : List Byte) :
    (s.decodeEvent (shift :: engagement :: rest)).intake = s.intake.takeEvent shift engagement ∧
      s.changesOnly (s.decodeEvent (shift :: engagement :: rest)) [.intake, .accounts, .store, .alerts, .port] := by
  have taken := s.setIntake_changesOnly (s.intake.takeEvent shift engagement)
  have posted := State.changesOnly_trans
    (State.postCounted_changesOnly { s with intake := s.intake.takeEvent shift engagement } 3
      (counted s.intake.shiftBaseline shift))
    (State.postCounted_changesOnly _ 2 (counted s.intake.engagementBaseline engagement))
  exact ⟨posted .intake (by decide), State.changesOnly_then taken posted (by simp) (by simp)⟩

/-- Settles O39: the three routes of a frame, and the fields of a frame of each format that meets its minimum length. -/
theorem observationFramesAreDecoded : Obligations.ObservationFramesAreDecoded := by
  intro s id data c frame on active
  refine ⟨_, exec_observation frame on active, ?_⟩
  have restarted := s.restartLinger_changesOnly
  cases route : routeOf s.time.straps s.settings.filters id with
  | ignored => exact s.routeFrame_ignored data route
  | request slot => exact s.routeFrame_request data route
  | observation f =>
    rw [s.routeFrame_observation data route]
    cases f with
    | engineState =>
      match data with
      | b0 :: b1 :: b2 :: b3 :: b4 :: rest =>
        obtain ⟨intake, stands⟩ := s.restartLinger.decodeEngine_effect b0 b1 b2 b3 b4 rest
        exact ⟨intake, stands .time (by decide), State.changesOnly_then restarted stands (by simp) (by simp)⟩
      | [] | [_] | [_, _] | [_, _, _] | [_, _, _, _] => rfl
    | drivelineState =>
      match data with
      | b0 :: b1 :: b2 :: b3 :: b4 :: b5 :: b6 :: rest => rfl
      | [] | [_] | [_, _] | [_, _, _] | [_, _, _, _] | [_, _, _, _, _] | [_, _, _, _, _, _] => rfl
    | drivelineEvent =>
      match data with
      | shift :: engagement :: rest =>
        obtain ⟨intake, stands⟩ := s.restartLinger.decodeEvent_effect shift engagement rest
        exact ⟨intake, stands .time (by decide), State.changesOnly_then restarted stands (by simp) (by simp)⟩
      | [] | [_] => rfl

end Sys2Proof.Machine
end

section
/-! PROOFS. The rolling counters (O40): several credits in a row and the threshold conditions, and the postings of a DRIVELINE
EVENT frame. -/

namespace Sys2Proof.Machine

/-! ## Threshold conditions through several evaluations (R16) -/

/-- From s to t every condition of account i that changed is held by the Alert Unit as it stands: the held value follows the
condition, or neither moved. -/
structure State.conditionsReported (s t : State) (i : AccountIx) : Prop where
  due : t.alerts.holds (accountPair i .serviceDue) = t.accounts.serviceDue[i] ∨
    t.accounts.serviceDue[i] = s.accounts.serviceDue[i] ∧
      t.alerts.holds (accountPair i .serviceDue) = s.alerts.holds (accountPair i .serviceDue)
  life : t.alerts.holds (accountPair i .lifeLimit) = t.accounts.lifeLimit[i] ∨
    t.accounts.lifeLimit[i] = s.accounts.lifeLimit[i] ∧
      t.alerts.holds (accountPair i .lifeLimit) = s.alerts.holds (accountPair i .lifeLimit)

theorem State.conditionsReported_trans {s t u : State} {i : AccountIx} (h : s.conditionsReported t i)
    (k : t.conditionsReported u i) : s.conditionsReported u i where
  due := by
    rcases k.due with held | ⟨value, held⟩
    · exact .inl held
    · rw [value, held]
      exact h.due
  life := by
    rcases k.life with held | ⟨value, held⟩
    · exact .inl held
    · rw [value, held]
      exact h.life

theorem State.sameConditions.reported {s t : State} {i : AccountIx} (h : s.sameConditions t i) :
    s.conditionsReported t i :=
  ⟨.inr ⟨h.due, h.dueHeld⟩, .inr ⟨h.life, h.lifeHeld⟩⟩

/-- SERVICE_DUE evaluated: the value is held, or nothing was reported. -/
theorem State.evalServiceDue_reported (s : State) (i : AccountIx) : s.conditionsReported (s.evalServiceDue i) i := by
  unfold State.evalServiceDue
  dsimp only
  split
  · exact (s.sameConditions_refl i).reported
  · refine ⟨.inl ?_, .inr ⟨rfl, State.holds_report_other _ _ _ (by simp [accountPair])⟩⟩
    rw [State.holds_report_same]
    simp [State.report]

/-- LIFE_LIMIT evaluated: the value is held, or nothing was reported. -/
theorem State.evalLifeLimit_reported (s : State) (i : AccountIx) : s.conditionsReported (s.evalLifeLimit i) i := by
  unfold State.evalLifeLimit
  dsimp only
  split
  · exact (s.sameConditions_refl i).reported
  · refine ⟨.inr ⟨rfl, State.holds_report_other _ _ _ (by simp [accountPair])⟩, .inl ?_⟩
    rw [State.holds_report_same]
    simp [State.report]

/-- Conditions that are as the wear gives them, their changes reported, are settled. -/
theorem State.settled_of_formed {s t : State} {i : AccountIx} (formed : t.conditionsFormed i)
    (reported : s.conditionsReported t i) : s.thresholdsSettled t i :=
  ⟨formed.due, formed.life, fun changed => reported.due.resolve_right fun same => changed same.1,
    fun changed => reported.life.resolve_right fun same => changed same.1⟩

/-! ## Several credits in a row (R12, R14) -/

theorem State.credit_reported (s : State) (i : AccountIx) (n : Nat) : s.conditionsReported (s.credit i n) i := by
  have changed := (s.changeAccount_sameConditions i i fun a => a.addCredit n).reported
  unfold State.credit State.evalCarried
  split
  · exact changed
  · exact State.conditionsReported_trans changed
      (State.conditionsReported_trans (State.evalServiceDue_reported _ i) (State.evalLifeLimit_reported _ i))

theorem State.credits_reported (s : State) (i : AccountIx) (n k : Nat) : s.conditionsReported (s.credits i n k) i := by
  induction k generalizing s with
  | zero => exact (s.sameConditions_refl i).reported
  | succ k ih => exact State.conditionsReported_trans (s.credit_reported i n) (ih _)

/-- A credit that carries a whole unit evaluates the conditions (R12). -/
theorem State.credit_formed {s : State} {i : AccountIx} {n : Nat} (carries : (s.account i).increment n ≠ 0) :
    (s.credit i n).conditionsFormed i := by
  have settles := s.credit_settles i n
  rw [if_neg carries] at settles
  exact ⟨settles.1, settles.2.1⟩

/-- Since-service wear after a credit is within the counter (R2). -/
theorem Account.addCredit_ssWear_le (a : Account) (n : Nat) : (a.addCredit n).ssWear ≤ counterMax :=
  Nat.min_le_right _ _

/-- A credit keeps conditions that are as the wear gives them: it evaluates them, or carries nothing into the wear. -/
theorem State.credit_keeps_formed {s : State} {i : AccountIx} (n : Nat) (formed : s.conditionsFormed i)
    (bounded : (s.account i).ssWear ≤ counterMax) : (s.credit i n).conditionsFormed i := by
  by_cases carries : (s.account i).increment n = 0
  · have settles := s.credit_settles i n
    rw [if_pos carries] at settles
    have wear : ((s.credit i n).account i).ssWear = (s.account i).ssWear := by
      rw [State.account_credit_same]
      simpa [Account.addCredit, carries, addTo] using bounded
    have service : ((s.credit i n).account i).serviceThreshold = (s.account i).serviceThreshold := by
      rw [State.account_credit_same]
      rfl
    have lifetime : ((s.credit i n).account i).lifeThreshold = (s.account i).lifeThreshold := by
      rw [State.account_credit_same]
      rfl
    constructor
    · rw [settles.1, formed.due, service, wear]
    · rw [settles.2, formed.life, lifetime, wear]
  · exact State.credit_formed carries

theorem State.credits_keep_formed {s : State} {i : AccountIx} (n k : Nat) (formed : s.conditionsFormed i)
    (bounded : (s.account i).ssWear ≤ counterMax) : (s.credits i n k).conditionsFormed i := by
  induction k generalizing s with
  | zero => exact formed
  | succ k ih =>
    refine ih (State.credit_keeps_formed n formed bounded) ?_
    rw [State.account_credit_same]
    exact Account.addCredit_ssWear_le _ _

/-- The whole units of k + 1 credits are those of the first and of the k after it. -/
theorem State.increment_credit (s : State) (i : AccountIx) (n k : Nat) :
    (s.account i).increment ((k + 1) * n) = (s.account i).increment n + ((s.credit i n).account i).increment (k * n) := by
  rw [State.account_credit_same, Account.increment_addCredit]
  congr 1
  ring

/-- Credits that carry a whole unit among them leave the conditions as the wear gives them: the last one that carries
evaluates them, and the ones after it change no wear. -/
theorem State.credits_formed {s : State} {i : AccountIx} {n k : Nat}
    (carries : (s.account i).increment ((k + 1) * n) ≠ 0) : (s.credits i n (k + 1)).conditionsFormed i := by
  induction k generalizing s with
  | zero =>
    refine State.credit_formed (n := n) ?_
    simpa using carries
  | succ k ih =>
    by_cases later : ((s.credit i n).account i).increment ((k + 1) * n) = 0
    · rw [State.increment_credit, later, Nat.add_zero] at carries
      refine State.credits_keep_formed n (k + 1) (State.credit_formed carries) ?_
      rw [State.account_credit_same]
      exact Account.addCredit_ssWear_le _ _
    · exact ih later

/-- Credits that carry nothing leave the conditions. -/
theorem State.credits_stand {s : State} {i : AccountIx} {n k : Nat} (carries : (s.account i).increment (k * n) = 0) :
    s.thresholdsStand (s.credits i n k) i := by
  induction k generalizing s with
  | zero => exact ⟨rfl, rfl⟩
  | succ k ih =>
    rw [State.increment_credit] at carries
    have first := s.credit_settles i n
    rw [if_pos (by omega)] at first
    have rest := ih (s := s.credit i n) (by omega)
    exact ⟨rest.1.trans first.1, rest.2.trans first.2⟩

theorem State.credits_sameConditions (s : State) {i j : AccountIx} (n k : Nat) (h : i ≠ j) :
    s.sameConditions (s.credits i n k) j := by
  induction k generalizing s with
  | zero => exact s.sameConditions_refl j
  | succ k ih => exact State.sameConditions_trans (s.credit_sameConditions n h) (ih _)

/-! ## The postings of a counter (R36, R37) -/

/-- The event credit in 1/288,000: event weight × multiplier × 36,000, and none without a weight (R80). -/
theorem Account.eventNumerator_getD (a : Account) (m : Nat) :
    a.eventNumerator m = a.eventWeight.getD 0 * m * 36000 := by
  unfold Account.eventNumerator
  cases a.eventWeight with
  | none => simp
  | some w => rfl

/-- From s to t n events of multiplier m were posted to account i: counted in both event counts, their credits added as one
of their sum, the conditions evaluated where that carries a whole unit (R12, R14). -/
def State.postsSome (s t : State) (i : AccountIx) (m n : Nat) : Prop :=
  let a := s.account i
  let credit := a.credit + n * (a.eventWeight.getD 0 * m * 36000)
  t.account i =
      { a with
        events := a.events.map fun c => min (c + n) 4294967295
        ssEvents := a.ssEvents.map fun c => min (c + n) 4294967295
        credit := credit % 288000
        wear := min (a.wear + credit / 288000) 4294967295
        ssWear := min (a.ssWear + credit / 288000) 4294967295
        saturated := (t.account i).saturated } ∧
    (a.saturated = true → (t.account i).saturated = true) ∧
    if credit / 288000 = 0 then s.thresholdsStand t i else s.thresholdsSettled t i

/-- From s to t nothing was posted to account i. -/
def State.postsNone (s t : State) (i : AccountIx) : Prop := t.account i = s.account i ∧ s.thresholdsStand t i

/-- From s to t n events of multiplier m, if any, were posted to account i. -/
def State.posts (s t : State) (i : AccountIx) (m n : Nat) : Prop :=
  if n = 0 then s.postsNone t i else s.postsSome t i m n

/-- A posting of at least one event: its account, and its conditions. -/
theorem State.postEvents_posts (s : State) (i : AccountIx) (m k : Nat) :
    s.postsSome (s.postEvents i (k + 1) m) i m (k + 1) := by
  have account := s.account_postEvents_same i (k + 1) m
  rw [Account.iterate_addCredit, Account.eventNumerator_getD] at account
  have counted := s.changeAccount_sameConditions i i fun a => a.addEvents (k + 1)
  have units : ((s.changeAccount i fun a => a.addEvents (k + 1)).account i).increment
      ((k + 1) * (s.account i).eventNumerator m) =
        ((s.account i).credit + (k + 1) * ((s.account i).eventWeight.getD 0 * m * 36000)) / 288000 := by
    rw [State.account_changeAccount_same, Account.eventNumerator_getD]
    rfl
  have reported := State.conditionsReported_trans counted.reported
    (State.credits_reported _ i ((s.account i).eventNumerator m) (k + 1))
  refine ⟨?_, fun saturated => ?_, ?_⟩
  · rw [account]
    rfl
  · rw [account]
    exact Account.addCredit_saturated _ (by simp [Account.addEvents, saturated])
  · rw [← units]
    split
    · next none_ =>
      have stand := State.credits_stand none_
      exact ⟨stand.1.trans counted.due, stand.2.trans counted.life⟩
    · next some_ => exact State.settled_of_formed (State.credits_formed some_) reported

/-- The multiplier of an event: that of the transmission oil (R82). -/
abbrev State.eventMultiplier (s : State) : Nat :=
  oilMultiplier s.settings s.settings.transmissionOil s.intake.transmissionOil.known

theorem State.postCounted_posts (s : State) (i : AccountIx) (n : Nat) :
    s.posts (s.postCounted i n) i s.eventMultiplier n := by
  unfold State.postCounted
  cases n with
  | zero => exact ⟨rfl, rfl, rfl⟩
  | succ k => exact s.postEvents_posts i _ k

theorem State.account_postCounted_other (s : State) {i j : AccountIx} (n : Nat) (h : i ≠ j) :
    (s.postCounted i n).account j = s.account j := by
  unfold State.postCounted
  split
  · rfl
  · exact s.account_postEvents_other _ _ h

theorem State.postCounted_sameConditions (s : State) {i j : AccountIx} (n : Nat) (h : i ≠ j) :
    s.sameConditions (s.postCounted i n) j := by
  unfold State.postCounted
  split
  · exact s.sameConditions_refl j
  · exact State.sameConditions_trans (s.changeAccount_sameConditions i j _) (State.credits_sameConditions _ _ _ h)

/-- A posting, seen from before and after steps that touch neither the account nor its conditions. -/
theorem State.posts_congr {s s' t u : State} {i : AccountIx} {m n : Nat} (posted : s'.posts t i m n)
    (before : s.sameConditions s' i) (same : s'.account i = s.account i)
    (after : t.sameConditions u i) (kept : u.account i = t.account i) : s.posts u i m n := by
  have stands (k : s'.thresholdsStand t i) : s.thresholdsStand u i :=
    ⟨after.due.trans (k.1.trans before.due), after.life.trans (k.2.trans before.life)⟩
  have settled (k : s'.thresholdsSettled t i) : s.thresholdsSettled u i :=
    State.settled_to (State.settled_from before k) after (by rw [kept]) (by rw [kept]) (by rw [kept])
  unfold State.posts at posted ⊢
  by_cases none_ : n = 0
  · rw [if_pos none_] at posted ⊢
    exact ⟨kept.trans (posted.1.trans same), stands posted.2⟩
  · rw [if_neg none_] at posted ⊢
    obtain ⟨figures, saturated, thresholds⟩ := posted
    rw [← kept, same] at figures saturated
    rw [same] at thresholds
    refine ⟨figures, saturated, ?_⟩
    split at thresholds
    · next whole => exact (if_pos whole).mpr (stands thresholds)
    · next whole => exact (if_neg whole).mpr (settled thresholds)

/-- What a rolling counter posts: nothing without a baseline or with a difference of 0 or above 64, else its difference
(R36). -/
def State.postsCounter (s t : State) (i : AccountIx) (m : Nat) (baseline : Option Byte) (value : Byte) : Prop :=
  match baseline with
  | none => s.postsNone t i
  | some b =>
    let d := (value - b).toNat
    if 1 ≤ d ∧ d ≤ 64 then s.postsSome t i m d else s.postsNone t i

theorem State.postsCounter_of_posts {s t : State} {i : AccountIx} {m : Nat} {baseline : Option Byte} {value : Byte}
    (posted : s.posts t i m (counted baseline value)) : s.postsCounter t i m baseline value := by
  unfold State.posts at posted
  cases baseline with
  | none => exact posted
  | some b =>
    unfold State.postsCounter
    rw [counted] at posted
    dsimp only
    by_cases near : (value - b).toNat ≤ 64
    · rw [if_pos near] at posted
      by_cases none_ : (value - b).toNat = 0
      · rw [if_pos none_] at posted
        rwa [if_neg (by omega)]
      · rw [if_neg none_] at posted
        rwa [if_pos ⟨Nat.one_le_iff_ne_zero.mpr none_, near⟩]
    · rw [if_neg near, if_pos rfl] at posted
      rwa [if_neg fun counts => near counts.2]

/-! ## A DRIVELINE EVENT frame (O40) -/

/-- A DRIVELINE EVENT frame taken into Intake, the linger restarted. -/
def State.takenEvent (s : State) (shift engagement : Byte) : State :=
  { s.restartLinger with intake := s.intake.takeEvent shift engagement }

theorem State.decodeEvent_eq (s : State) (shift engagement : Byte) (rest : List Byte) :
    s.restartLinger.decode .drivelineEvent (shift :: engagement :: rest) =
      ((s.takenEvent shift engagement).postCounted 3 (counted s.intake.shiftBaseline shift)).postCounted 2
        (counted s.intake.engagementBaseline engagement) := rfl

theorem State.takenEvent_sameConditions (s : State) (shift engagement : Byte) (i : AccountIx) :
    s.sameConditions (s.takenEvent shift engagement) i := ⟨rfl, rfl, rfl, rfl⟩

/-- A posting leaves the multiplier of the next. -/
theorem State.postCounted_eventMultiplier (s : State) (i : AccountIx) (n : Nat) :
    (s.postCounted i n).eventMultiplier = s.eventMultiplier := by
  have intake : (s.postCounted i n).intake = s.intake := s.postCounted_changesOnly i n .intake (by decide)
  have settings : (s.postCounted i n).settings = s.settings := s.postCounted_changesOnly i n .settings (by decide)
  rw [State.eventMultiplier, intake, settings]

/-- Two counters posted to two accounts, one after the other: each account has its own posting, as if alone. -/
theorem State.postCounted_both (s : State) {i j : AccountIx} (h : i ≠ j) (m n : Nat) :
    s.posts ((s.postCounted i m).postCounted j n) i s.eventMultiplier m ∧
      s.posts ((s.postCounted i m).postCounted j n) j s.eventMultiplier n := by
  have second := (s.postCounted i m).postCounted_posts j n
  rw [State.postCounted_eventMultiplier] at second
  constructor
  · exact State.posts_congr (s.postCounted_posts i m) (s.sameConditions_refl i) rfl
      (State.postCounted_sameConditions _ n h.symm) (State.account_postCounted_other _ n h.symm)
  · exact State.posts_congr second (s.postCounted_sameConditions m h) (s.account_postCounted_other m h)
      (State.sameConditions_refl _ j) rfl

/-- Settles O40: the two postings of the frame, GEARBOX's and CLUTCH's, each as if alone, and nothing else posted. -/
theorem rollingCountersPostEvents : Obligations.RollingCountersPostEvents := by
  intro s id shift engagement rest on active route
  have run := exec_observation (c := .drivelineEvent id (shift :: engagement :: rest)) (.inr (.inr rfl)) on active
  rw [s.routeFrame_observation _ route, s.decodeEvent_eq] at run
  have frame := s.takenEvent_sameConditions shift engagement
  have intake := (s.restartLinger.decodeEvent_effect shift engagement rest).1
  obtain ⟨gearbox, clutch⟩ := (s.takenEvent shift engagement).postCounted_both (i := 3) (j := 2) (by decide)
    (counted s.intake.shiftBaseline shift) (counted s.intake.engagementBaseline engagement)
  have other {k : AccountIx} (three : 3 ≠ k) (two : 2 ≠ k) := (State.account_postCounted_other
    ((s.takenEvent shift engagement).postCounted 3 (counted s.intake.shiftBaseline shift))
    (counted s.intake.engagementBaseline engagement) two).trans
      ((s.takenEvent shift engagement).account_postCounted_other (counted s.intake.shiftBaseline shift) three)
  refine ⟨_, run, State.postsCounter_of_posts (State.posts_congr gearbox (frame 3) rfl (State.sameConditions_refl _ 3) rfl),
    State.postsCounter_of_posts (State.posts_congr clutch (frame 2) rfl (State.sameConditions_refl _ 2) rfl),
    other (by decide) (by decide), other (by decide) (by decide), other (by decide) (by decide), intake,
    fun noShift noEngagement => ?_⟩
  rw [noShift, noEngagement]
  rfl

end Sys2Proof.Machine
end

section
/-! PROOFS. A millisecond on an empty queue (O3): the ages, the Qualifier's timer, and which expiries are due. -/

namespace Sys2Proof.Machine

/-! ## Ages (R25) -/

theorem Intake.ageing_older (x : Intake) (n : SignalName) : x.older.ageing n = (x.ageing n).older := by
  cases n <;> rfl

/-- Age alone makes no value known or UNKNOWN. -/
theorem Signal.known_older {α : Type} (g : Signal α) :
    Signal.known { g with ageing := g.ageing.older } = g.known := rfl

/-- A millisecond changes no metric a reader may use. -/
theorem Intake.metric_older (x : Intake) (m : Metric) : x.older.metric m = x.metric m := by
  cases m <;> exact Signal.known_older _

/-! ## What is due -/

theorem State.mem_secondDue (s : State) (c : Instr) :
    c ∈ s.secondDue ↔ c = .deviceTimeSecond ∧ 1000 ≤ s.time.subSecondMs := by
  unfold State.secondDue
  split <;> next due => simp [due]

theorem mem_countdownDue (t : Option Nat) (e c : Instr) : c ∈ countdownDue t e ↔ c = e ∧ t = some 0 := by
  unfold countdownDue
  split <;> next due => simp [due]

theorem State.mem_checkpointDue (s : State) (c : Instr) :
    c ∈ s.checkpointDue ↔
      c = .periodicCheckpoint ∧ s.settings.checkpointInterval * 60000 ≤ s.store.checkpointMs := by
  unfold State.checkpointDue
  split <;> next due => simp [due]

/-- The Qualifier's timer of its state at 0 is due (R92). -/
theorem QualifierState.mem_due (q : QualifierState) (c : Instr) :
    c ∈ q.due ↔
      (c = .crankWindowExpiry ∧ ∃ a, q = .cranking a 0) ∨ (c = .confirmExpiry ∧ ∃ a, q = .confirming a 0) ∨
        (c = .stopTimerExpiry ∧ q = .running (some 0)) := by
  cases q with
  | idle => simp [QualifierState.due]
  | cranking a left => cases left <;> simp [QualifierState.due]
  | confirming a left => cases left <;> simp [QualifierState.due]
  | running stop =>
    match stop with
    | none | some 0 | some (_ + 1) => simp [QualifierState.due]

/-- A signal's event is due past its limit: UNKNOWN past the hold limit, HELD for a FRESH one short of it (R31, R33). -/
theorem mem_ageingDue (v : Settings) (x : Intake) (n : SignalName) (c : Instr) :
    c ∈ ageingDue v x n ↔
      (c = .signalHeld n ∧ (x.ageing n).cls = .fresh ∧ v.freshLimit < (x.ageing n).age ∧
          (x.ageing n).age ≤ v.holdLimit) ∨
        (c = .signalUnknown n ∧ (x.ageing n).lost v) := by
  unfold ageingDue Ageing.lost
  dsimp only
  cases cls : (x.ageing n).cls with
  | unknown => simp
  | fresh =>
    by_cases old : v.holdLimit < (x.ageing n).age
    · simp [old]
    · by_cases stale : v.freshLimit < (x.ageing n).age
      · simp [old, stale, Nat.le_of_not_lt old]
      · simp [old, stale]
  | held => by_cases old : v.holdLimit < (x.ageing n).age <;> simp [old]

theorem mem_ageingDues (v : Settings) (x : Intake) (c : Instr) :
    c ∈ signalNames.flatMap (ageingDue v x) ↔ ∃ n, c ∈ ageingDue v x n := by
  simp [List.mem_flatMap, mem_signalNames]

/-- An event of ACTIVE is due: each timer's own, where its count is over. -/
def State.isDue (s : State) (c : Instr) : Prop :=
  match c with
  | .deviceTimeSecond => 1000 ≤ s.time.subSecondMs
  | .signalHeld n =>
    (s.intake.ageing n).cls = .fresh ∧ s.settings.freshLimit < (s.intake.ageing n).age ∧
      (s.intake.ageing n).age ≤ s.settings.holdLimit
  | .signalUnknown n => (s.intake.ageing n).lost s.settings
  | .crankWindowExpiry => ∃ a, s.qualifier.state = .cranking a 0
  | .confirmExpiry => ∃ a, s.qualifier.state = .confirming a 0
  | .stopTimerExpiry => s.qualifier.state = .running (some 0)
  | .meteringExpiry => s.meter.timer = some 0
  | .periodicCheckpoint => s.settings.checkpointInterval * 60000 ≤ s.store.checkpointMs
  | .lingerExpiry => s.time.linger = some 0
  | _ => False

/-- What is due in ACTIVE is what the list of log 6 holds. -/
theorem State.mem_dueActive (s : State) (c : Instr) : c ∈ s.dueActive ↔ s.isDue c := by
  simp only [State.dueActive, List.mem_append, State.mem_secondDue, mem_ageingDues, mem_ageingDue,
    QualifierState.mem_due, mem_countdownDue, State.mem_checkpointDue]
  cases c <;> simp [State.isDue]

theorem State.mem_dueLoading (s : State) (c : Instr) :
    c ∈ s.dueLoading ↔
      (c = .deviceTimeSecond ∧ 1000 ≤ s.time.subSecondMs) ∨ (c = .lingerExpiry ∧ s.time.linger = some 0) := by
  rw [State.dueLoading, List.mem_append, State.mem_secondDue, mem_countdownDue]

/-! ## Each event is due once -/

theorem State.secondDue_nodup (s : State) : s.secondDue.Nodup := by
  unfold State.secondDue
  split <;> simp

theorem countdownDue_nodup (t : Option Nat) (e : Instr) : (countdownDue t e).Nodup := by
  unfold countdownDue
  split <;> simp

theorem State.checkpointDue_nodup (s : State) : s.checkpointDue.Nodup := by
  unfold State.checkpointDue
  split <;> simp

theorem QualifierState.due_nodup (q : QualifierState) : q.due.Nodup := by
  unfold QualifierState.due
  split <;> simp

theorem ageingDue_nodup (v : Settings) (x : Intake) (n : SignalName) : (ageingDue v x n).Nodup := by
  unfold ageingDue
  dsimp only
  split
  · simp
  · split
    · simp
    · split <;> simp
  · split <;> simp

/-- Two signals have no event in common. -/
theorem ageingDue_disjoint (v : Settings) (x : Intake) {n m : SignalName} (h : n ≠ m) :
    List.Disjoint (ageingDue v x n) (ageingDue v x m) := by
  intro c first second
  rw [mem_ageingDue] at first second
  rcases first with ⟨rfl, -⟩ | ⟨rfl, -⟩
  · simp [h] at second
  · simp [h] at second

theorem ageingDues_nodup (v : Settings) (x : Intake) : (signalNames.flatMap (ageingDue v x)).Nodup :=
  List.nodup_flatMap.mpr
    ⟨fun n _ => ageingDue_nodup v x n, List.Pairwise.imp (ageingDue_disjoint v x) (by decide : signalNames.Nodup)⟩

theorem State.dueLoading_nodup (s : State) : s.dueLoading.Nodup := by
  refine s.secondDue_nodup.append (countdownDue_nodup _ _) fun c before due => ?_
  rw [((mem_countdownDue _ _ _).mp due).1, State.mem_secondDue] at before
  simp at before

/-- The due events of each kind of timer follow those of the kinds before it in log 6, and none repeats. -/
theorem State.dueActive_nodup (s : State) : s.dueActive.Nodup := by
  have signals : (s.secondDue ++ signalNames.flatMap (ageingDue s.settings s.intake)).Nodup := by
    refine s.secondDue_nodup.append (ageingDues_nodup _ _) fun c before due => ?_
    rw [((s.mem_secondDue c).mp before).1, mem_ageingDues] at due
    simp [mem_ageingDue] at due
  have qualifier := signals.append s.qualifier.state.due_nodup fun c before due => by
    rcases (QualifierState.mem_due _ _).mp due with ⟨rfl, -⟩ | ⟨rfl, -⟩ | ⟨rfl, -⟩ <;>
      simp [State.mem_secondDue, mem_ageingDue] at before
  have meter := qualifier.append (countdownDue_nodup s.meter.timer .meteringExpiry) fun c before due => by
    rw [((mem_countdownDue _ _ _).mp due).1] at before
    simp [State.mem_secondDue, mem_ageingDue, QualifierState.mem_due] at before
  have checkpoint := meter.append s.checkpointDue_nodup fun c before due => by
    rw [((State.mem_checkpointDue _ _).mp due).1] at before
    simp [State.mem_secondDue, mem_ageingDue, QualifierState.mem_due, mem_countdownDue] at before
  refine checkpoint.append (countdownDue_nodup s.time.linger .lingerExpiry) fun c before due => ?_
  rw [((mem_countdownDue _ _ _).mp due).1] at before
  simp [State.mem_secondDue, mem_ageingDue, QualifierState.mem_due, mem_countdownDue, State.mem_checkpointDue] at before

/-! ## The millisecond by mode (R181, R184, R185) -/

theorem State.tick_stopped {s : State} (h : s.time.inReset.isSome = true ∨ s.time.mode = .dormant) : s.tick = s := by
  unfold State.tick
  rw [if_pos (by simpa using h)]

theorem State.tick_parked {s : State} (outside : s.time.inReset = none) (parked : s.time.mode = .parked) :
    s.tick = s.tickSecond.enqueue s.tickSecond.secondDue := by
  simp [State.tick, State.isRunning, State.isActive, outside, parked]

theorem State.tick_loading {s : State} (outside : s.time.inReset = none) (active : s.time.mode = .active)
    (loading : s.store.isLoading = true) : s.tick = s.tickLoading.enqueue s.tickLoading.dueLoading := by
  simp [State.tick, State.isRunning, outside, active, loading]

theorem State.tick_running {s : State} (running : s.isRunning = true) :
    s.tick = s.tickActive.enqueue s.tickActive.dueActive := by
  have inMode := running
  simp only [State.isRunning, State.isActive, Bool.and_eq_true, beq_iff_eq, Option.isNone_iff_eq_none] at inMode
  obtain ⟨⟨active, outside⟩, -⟩ := inMode
  simp [State.tick, running, active, outside]

/-- A millisecond of an attempt: the crank duration counts while the latch is set and crank active is TRUE (R102). -/
theorem Attempt.older_eq (a : Attempt) (latch : Bool) (crank : Option Bool) :
    a.older (latch && crank == some true) =
      { a with
        sinceOpenMs := a.sinceOpenMs + 1
        durationMs := a.durationMs + if latch = true ∧ crank = some true then 1 else 0 } := by
  unfold Attempt.older
  congr 2
  by_cases cranked : latch = true ∧ crank = some true
  · simp [cranked]
  · rw [if_neg cranked]
    simpa using cranked

theorem State.tickLoading_changesOnly (s : State) (cs : List Instr) :
    s.changesOnly (s.tickLoading.enqueue cs) [.pending, .time] := by
  intro p hp
  cases p <;> first | rfl | simp at hp

theorem State.tickActive_changesOnly (s : State) (cs : List Instr) :
    s.changesOnly (s.tickActive.enqueue cs) [.pending, .intake, .qualifier, .meter, .store, .time] := by
  intro p hp
  cases p <;> first | rfl | simp at hp

/-- The queue after commands joined an empty one. -/
theorem State.enqueue_empty {s : State} (cs : List Instr) (empty : s.pending = []) : (s.enqueue cs).pending = cs := by
  simp [empty]

/-- Settles O3: the millisecond of each mode, and what is due after it. -/
theorem emptyQueueLetsTimePass : Obligations.EmptyQueueLetsTimePass := by
  intro s empty
  have idle := Laws.step_idle empty
  refine ⟨fun stopped => ?_, fun ⟨outside, parked⟩ => ?_, fun ⟨outside, active, loading⟩ => ?_, fun running => ?_⟩
  · rw [idle, State.tick_stopped stopped]
  · rw [idle, State.tick_parked outside parked, State.enqueue, State.tickSecond_pending, empty]
    rfl
  · rw [State.tick_loading outside active loading] at idle
    have queue := State.enqueue_empty (s := s.tickLoading) s.tickLoading.dueLoading empty
    refine ⟨_, idle, rfl, ?_, fun c => ?_, s.tickLoading_changesOnly _⟩
    · rw [queue]
      exact s.tickLoading.dueLoading_nodup
    · rw [queue]
      exact s.tickLoading.mem_dueLoading c
  · rw [State.tick_running running] at idle
    have queue := State.enqueue_empty (s := s.tickActive) s.tickActive.dueActive empty
    refine ⟨_, idle, s.intake.ageing_older, s.intake.metric_older, rfl, rfl, rfl, rfl, ?_, rfl, rfl, rfl, ?_, fun c => ?_,
      s.tickActive_changesOnly _⟩
    · simp only [← Attempt.older_eq]
      rfl
    · rw [queue]
      exact s.tickActive.dueActive_nodup
    · rw [queue]
      exact s.tickActive.mem_dueActive c

end Sys2Proof.Machine
end

section
/-! PROOFS. The Band Table: the selection of the winning entry (O17), the edits of an entry (O34) and its lock (O35). -/

namespace Sys2Proof.Machine

/-! ## The selection (R50) -/

/-- The first index of a range that meets a test: no lower one meets it. -/
theorem find?_finRange_some {n : Nat} {p : Fin n → Bool} {k : Fin n} (found : (List.finRange n).find? p = some k) :
    p k = true ∧ ∀ j, j < k → p j = false := by
  obtain ⟨met, i, inside, at_, before⟩ := List.find?_eq_some_iff_getElem.mp found
  rw [List.getElem_finRange] at at_
  refine ⟨met, fun j lower => ?_⟩
  have earlier : j.val < i := by
    rw [← at_] at lower
    exact lower
  simpa using before j.val earlier

theorem find?_finRange_none {n : Nat} {p : Fin n → Bool} (none_ : (List.finRange n).find? p = none) (j : Fin n) :
    p j = false := by
  simpa using List.find?_eq_none.mp none_ j (List.mem_finRange j)

theorem BandClass.ordinary_of_ne_excursion {c : BandClass} (h : c ≠ .excursion) : c = .ordinary := by
  cases c with
  | ordinary => rfl
  | excursion => exact absurd rfl h

/-- The winner is of lowest index among the entries of its class that match; an ORDINARY one wins where no EXCURSION
entry matches, and the residual where no entry does (R50). -/
theorem winner_cases (es : Vector BandEntry 16) (x : Intake) (i : AccountIx) :
    (winner es x i = none ∧ ∀ j : Fin 16, es[j].hits x i = false) ∨
      ∃ k : Fin 16, winner es x i = some k ∧ es[k].hits x i = true ∧
        (∀ j : Fin 16, j < k → es[j].hits x i = true → es[j].weightPart.cls ≠ es[k].weightPart.cls) ∧
        (es[k].weightPart.cls = .ordinary →
          ∀ j : Fin 16, es[j].hits x i = true → es[j].weightPart.cls = .ordinary) := by
  unfold winner
  cases excursion : (List.finRange 16).find? fun k => es[k].hits x i && es[k].weightPart.cls == .excursion with
  | some k =>
    obtain ⟨met, first⟩ := find?_finRange_some excursion
    simp only [Bool.and_eq_true, beq_iff_eq] at met
    obtain ⟨hits, cls⟩ := met
    refine .inr ⟨k, rfl, hits, fun j lower hit same => ?_, fun other => ?_⟩
    · have out := first j lower
      rw [hit, same, cls] at out
      exact absurd out (by decide)
    · rw [cls] at other
      cases other
  | none =>
    have ordinary_ (j : Fin 16) (hit : es[j].hits x i = true) : es[j].weightPart.cls = .ordinary := by
      have out := find?_finRange_none excursion j
      rw [hit] at out
      exact BandClass.ordinary_of_ne_excursion (by simpa using out)
    dsimp only
    cases ordinary : (List.finRange 16).find? fun k => es[k].hits x i && es[k].weightPart.cls == .ordinary with
    | some k =>
      obtain ⟨met, first⟩ := find?_finRange_some ordinary
      simp only [Bool.and_eq_true, beq_iff_eq] at met
      obtain ⟨hits, -⟩ := met
      refine .inr ⟨k, rfl, hits, fun j lower hit _ => ?_, fun _ => ordinary_⟩
      have out := first j lower
      rw [hit, ordinary_ j hit] at out
      exact absurd out (by decide)
    | none =>
      refine .inl ⟨rfl, fun j => ?_⟩
      have out := find?_finRange_none ordinary j
      by_contra hit
      rw [Bool.not_eq_false] at hit
      rw [hit, ordinary_ j hit] at out
      exact absurd out (by decide)

/-- Settles O17: the search for an EXCURSION entry comes first, each in index order. -/
theorem selectionPrefersExcursion : Obligations.SelectionPrefersExcursion := by
  intro es x i
  rcases winner_cases es x i with ⟨none_, out⟩ | ⟨k, won, hits, first, ordinary⟩
  · rw [none_]
    exact ⟨⟨fun _ => out, fun _ => rfl⟩, nofun⟩
  · rw [won]
    refine ⟨⟨nofun, fun out => ?_⟩, ?_⟩
    · rw [out k] at hits
      cases hits
    · rintro _ ⟨⟩
      exact ⟨hits, first, ordinary⟩

/-! ## What the handing of an edited entry leaves (R56, R157) -/

/-- The operand byte of an entry index spells it. -/
theorem bandOf_byteOf (k : Fin 16) : bandOf (byteOf k.val).toNat = some k := by
  revert k
  decide

/-- The codes of the metrics lie below the code of an absent secondary (R46, R52). -/
theorem ne_absent_of_metricOfCode {n : Nat} {m : Metric} (h : metricOfCode n = some m) : n ≠ 255 := by
  rintro rfl
  cases h

theorem State.setBand_changesOnly (s : State) (k : Fin 16) (e : BandEntry) :
    s.changesOnly (s.setBand k e) [.bands] := by
  intro p hp
  cases p <;> first | rfl | simp at hp

/-- From s to t entry k was replaced and its record handed, and slot 3 waits for its write. -/
structure State.bandPut (s t : State) (kind : Byte) (k : Fin 16) (e : BandEntry) : Prop where
  entry : t.bands.entries[k] = e
  others : ∀ j : Fin 16, j ≠ k → t.bands.entries[j] = s.bands.entries[j]
  covered : t.store.covered (.band k) = true
  waits : t.waitsWith 3 kind [] [.band k]
  changes : s.changesOnly t [.time, .bands, .store, .engine]

/-- A replaced entry of which the record was handed and awaited. -/
theorem State.awaited.bandPut {s t : State} {kind : Byte} {k : Fin 16} {e : BandEntry}
    (h : (s.restartLinger.setBand k e).awaited t kind [] (.band k)) : s.bandPut t kind k e where
  entry := by
    rw [h.changes .bands (by decide)]
    exact State.band_setBand_same _ k e
  others j other := by
    rw [h.changes .bands (by decide)]
    exact State.band_setBand_other _ e (Ne.symm other)
  covered := h.covered
  waits := h.waits
  changes := by
    have replaced : s.changesOnly (s.restartLinger.setBand k e) [.time, .bands] :=
      State.changesOnly_then s.restartLinger_changesOnly (State.setBand_changesOnly _ k e) (by simp) (by simp)
    intro p hp
    by_cases accounts : p = .accounts
    · subst accounts
      exact h.accounts fun i => RecordId.noConfusion
    · exact State.changesOnly_then (rs := [.time, .bands, .accounts, .store, .engine]) replaced h.changes (by decide)
        (by decide) p (by simp_all)

/-- A request of the depot terminal that its owning block answers by replacing entry k. -/
theorem exec_putBand {c : Instr} {s : State} {kind : Byte} {ops : List Byte} {q : Request} {k : Fin 16} {e : BandEntry}
    (request : requestOf c = some (3, kind, ops)) (parsed : parseRequest kind.toNat ops = some q) (hears : s.hears 3)
    (rest : s.atRest = true) (d : s.defers) (handled : s.restartLinger.handle 3 q = s.restartLinger.putBand k e) :
    ∃ t, exec c s = .next t ∧ s.bandPut t kind k e := by
  obtain ⟨t, run, awaited⟩ := exec_deferred (u := s.restartLinger.setBand k e) request parsed hears rest handled d
  exact ⟨t, run, awaited.bandPut⟩

/-! ## The edits (R52 to R56) -/

theorem State.editBand_unlocked {s : State} {k : Fin 16} {apply stage : BandEntry → BandEntry}
    (h : s.bands.entries[k].locked = false) :
    s.editBand k apply stage =
      s.putBand k
        (if s.bands.entries[k].weightPart.enabled then stage s.bands.entries[k] else apply s.bands.entries[k]) :=
  if_neg (by rw [h]; decide)

theorem State.editBand_locked {s : State} {k : Fin 16} {apply stage : BandEntry → BandEntry}
    (h : s.bands.entries[k].locked = true) : s.editBand k apply stage = .refusal s .locked :=
  if_pos h

theorem State.handleBandPrimary_edit (s : State) (k : Fin 16) {code : Nat} {m : Metric} (low high : Int)
    (metric : metricOfCode code = some m) :
    s.handleBandPrimary (byteOf k.val).toNat code low high =
      s.editBand k (fun e => { e with primary := Condition.clamped m low high })
        fun e => { e with stagedPrimary := some (Condition.clamped m low high) } := by
  unfold State.handleBandPrimary
  rw [bandOf_byteOf, metric]

theorem State.handleBandSecondary_edit (s : State) (k : Fin 16) {code : Nat} {low high : Int} {c : Option Condition}
    (spelled : secondaryOf code low high = some c) :
    s.handleBandSecondary (byteOf k.val).toNat code low high =
      s.editBand k (fun e => { e with secondary := c }) fun e => { e with stagedSecondary := some c } := by
  unfold State.handleBandSecondary
  rw [bandOf_byteOf, spelled]

theorem State.handleBandWeight_edit (s : State) (k : Fin 16) {account cls bin weight enabled : Nat} {w : WeightPart}
    (spelled : weightPartOf account cls bin weight enabled = some w) :
    s.handleBandWeight (byteOf k.val).toNat account cls bin weight enabled =
      s.editBand k (fun e => { e with weightPart := w }) fun e => { e with stagedWeight := some w } := by
  unfold State.handleBandWeight
  rw [bandOf_byteOf, spelled]

theorem secondaryOf_metric {code : Nat} {m : Metric} (low high : Int) (metric : metricOfCode code = some m) :
    secondaryOf code low high = some (some (Condition.clamped m low high)) := by
  simp [secondaryOf, ne_absent_of_metricOfCode metric, metric]

/-- BAND SECONDARY with a metric carries its bounds (R52). -/
theorem parseBandSecondary_metric {m : Byte} {metric : Metric} (known : metricOfCode m.toNat = some metric)
    (entry l1 l0 h1 h0 : Byte) (rest : List Byte) :
    parseRequest (0x31#8).toNat (entry :: m :: l1 :: l0 :: h1 :: h0 :: rest) =
      some (.bandSecondary entry.toNat m.toNat (int16 l1 l0) (int16 h1 h0)) := by
  simp [parseRequest, parseBandSecondary, ne_absent_of_metricOfCode known]

/-- An edit of an unlocked entry: staged while it is enabled, else applied. -/
theorem exec_editBand {c : Instr} {s : State} {kind : Byte} {ops : List Byte} {q : Request} {k : Fin 16}
    {apply stage : BandEntry → BandEntry} (request : requestOf c = some (3, kind, ops))
    (parsed : parseRequest kind.toNat ops = some q) (hears : s.hears 3) (rest : s.atRest = true) (d : s.defers)
    (unlocked : s.bands.entries[k].locked = false)
    (handled : s.restartLinger.handle 3 q = s.restartLinger.editBand k apply stage) :
    ∃ t, exec c s = .next t ∧
      t.bands.entries[k] =
        (if s.bands.entries[k].weightPart.enabled then stage s.bands.entries[k] else apply s.bands.entries[k]) ∧
      (∀ j : Fin 16, j ≠ k → t.bands.entries[j] = s.bands.entries[j]) ∧ t.store.covered (.band k) = true ∧
      t.waitsWith 3 kind [] [.band k] ∧ s.changesOnly t [.time, .bands, .store, .engine] := by
  obtain ⟨t, run, put⟩ := exec_putBand request parsed hears rest d
    (handled.trans (State.editBand_unlocked (s := s.restartLinger) unlocked))
  exact ⟨t, run, put.entry, put.others, put.covered, put.waits, put.changes⟩

/-- Settles O34: each of the three requests is an edit of its entry. -/
theorem bandEditsApplyOrStage : Obligations.BandEditsApplyOrStage := by
  intro s k unlocked hears resting d
  refine ⟨fun m l1 l0 h1 h0 rest metric known => ⟨?_, ?_⟩, fun rest => ?_, fun a c b w1 w0 n w spelled => ?_⟩
  · exact exec_editBand (q := .bandPrimary (byteOf k.val).toNat m.toNat (int16 l1 l0) (int16 h1 h0)) rfl rfl hears
      resting d unlocked (State.handleBandPrimary_edit _ k _ _ known)
  · exact exec_editBand rfl (parseBandSecondary_metric known _ _ _ _ _ _) hears resting d unlocked
      (State.handleBandSecondary_edit _ k (secondaryOf_metric _ _ known))
  · exact exec_editBand (q := .bandSecondary (byteOf k.val).toNat 255 0 0) rfl rfl hears resting d unlocked
      (State.handleBandSecondary_edit _ k rfl)
  · exact exec_editBand
      (q := .bandWeight (byteOf k.val).toNat a.toNat c.toNat b.toNat (nat16 w1 w0) n.toNat) rfl rfl hears resting d
      unlocked (State.handleBandWeight_edit _ k spelled)

/-! ## BAND LOCK (R57) -/

theorem State.handleBandLock_locked {s : State} {k : Fin 16} (locked : s.bands.entries[k].locked = true) :
    s.handleBandLock (byteOf k.val).toNat = .refusal s .ok := by
  unfold State.handleBandLock
  rw [bandOf_byteOf]
  exact if_pos locked

theorem State.handleBandLock_disabled {s : State} {k : Fin 16} (unlocked : s.bands.entries[k].locked = false)
    (disabled : s.bands.entries[k].weightPart.enabled = false) :
    s.handleBandLock (byteOf k.val).toNat = .refusal s .stateRefused := by
  unfold State.handleBandLock
  rw [bandOf_byteOf]
  exact (if_neg (by rw [unlocked]; decide)).trans (if_neg (by rw [disabled]; decide))

theorem State.handleBandLock_enabled {s : State} {k : Fin 16} (unlocked : s.bands.entries[k].locked = false)
    (enabled : s.bands.entries[k].weightPart.enabled = true) :
    s.handleBandLock (byteOf k.val).toNat = s.putBand k { s.bands.entries[k] with locked := true } := by
  unfold State.handleBandLock
  rw [bandOf_byteOf]
  exact (if_neg (by rw [unlocked]; decide)).trans (if_pos enabled)

/-- Settles O35: a locked entry is answered, an enabled one locked, a disabled one refused. -/
theorem bandLockByEntry : Obligations.BandLockByEntry := by
  intro s k rest hears resting d room
  have refused {o : ReqOutcome} (h : s.restartLinger.handleBandLock (byteOf k.val).toNat = .refusal s.restartLinger o) :
      exec (.bandLock 3 (byteOf k.val :: rest)) s = .next (s.responded 3 0x33#8 o []) :=
    exec_refused (q := .bandLock (byteOf k.val).toNat) rfl rfl hears resting room h
  cases locked : s.bands.entries[k].locked with
  | true =>
    refine ⟨_, refused (State.handleBandLock_locked locked), ?_⟩
    cases s.bands.entries[k].weightPart.enabled <;> rfl
  | false =>
    cases enabled : s.bands.entries[k].weightPart.enabled with
    | false => exact ⟨_, refused (State.handleBandLock_disabled locked enabled), rfl⟩
    | true =>
      obtain ⟨t, run, put⟩ := exec_putBand (c := .bandLock 3 (byteOf k.val :: rest))
        (q := .bandLock (byteOf k.val).toNat) rfl rfl hears resting d
        (State.handleBandLock_enabled (s := s.restartLinger) locked enabled)
      exact ⟨t, run, put.entry, put.others, put.covered, put.waits, put.changes⟩

end Sys2Proof.Machine
end

section
/-! PROOFS. What a metering pass makes of staged parts, and what it leaves unchanged (O15). -/

namespace Sys2Proof.Machine

/-! ## Handing a record in any state of the store (R151, R155) -/

@[simp] theorem Store.append_changed (st : Store) (r : RecordId) : (st.append r).changed = st.changed := by
  unfold Store.append
  split <;> rfl

@[simp] theorem Store.append_array (st : Store) (r : RecordId) : (st.append r).array = st.array := by
  unfold Store.append
  split <;> rfl

@[simp] theorem State.nextWrite_array (s : State) : s.nextWrite.store.array = s.store.array := by
  unfold State.nextWrite
  split
  · rfl
  · exact State.startWrite_array _ _

@[simp] theorem State.startIfReady_array (s : State) : s.startIfReady.store.array = s.store.array := by
  unfold State.startIfReady
  split <;> first | exact s.nextWrite_array | rfl

/-- Whatever the store does with the record, its mark is the one change of the marks, and nothing is stored yet. -/
theorem State.hand_marks (s : State) (r : RecordId) :
    (s.hand r).store.changed = (s.store.mark r).changed ∧ (s.hand r).store.array = s.store.array := by
  unfold State.hand
  dsimp only
  split
  · exact ⟨rfl, rfl⟩
  · exact ⟨rfl, rfl⟩
  all_goals
    rw [State.startIfReady_changed, State.startIfReady_array, Store.append_changed, Store.append_array]
    exact ⟨rfl, rfl⟩

/-! ## Activation of staged parts (R55, R56) -/

theorem State.activateBand_store (s : State) (k : Fin 16) :
    (s.activateBand k).store.array = s.store.array ∧
      (∀ r, s.store.isChanged r = true → (s.activateBand k).store.isChanged r = true) ∧
      (s.bands.entries[k].hasStaged = true → (s.activateBand k).store.isChanged (.band k) = true) := by
  unfold State.activateBand
  split
  · obtain ⟨changed, array⟩ := (s.setBand k s.bands.entries[k].activated).hand_marks (.band k)
    unfold Store.isChanged
    rw [changed, array]
    exact ⟨rfl, fun r h => s.store.isChanged_mark_mono (.band k) r h, fun _ => s.store.isChanged_mark_same (.band k)⟩
  · next none_ => exact ⟨rfl, fun _ h => h, fun staged => absurd staged none_⟩

theorem State.activateBand_idle {s : State} {k : Fin 16} (h : s.bands.entries[k].hasStaged = false) :
    s.activateBand k = s :=
  if_neg (by rw [h]; decide)

/-- The activation of one entry leaves what is staged on another. -/
theorem State.activateBand_other (s : State) {j k : Fin 16} (h : j ≠ k) :
    (s.activateBand j).bands.entries[k] = s.bands.entries[k] := by
  rw [State.activateBand_entries]
  simp [Fin.val_inj, h]

/-- The activations mark the record of each entry on which a part was staged; they store nothing and take no mark
away. -/
theorem State.foldl_activateBand_store (l : List (Fin 16)) (s : State) :
    (l.foldl State.activateBand s).store.array = s.store.array ∧
      (∀ r, s.store.isChanged r = true → (l.foldl State.activateBand s).store.isChanged r = true) ∧
      ∀ k ∈ l, s.bands.entries[k].hasStaged = true →
        (l.foldl State.activateBand s).store.isChanged (.band k) = true := by
  induction l generalizing s with
  | nil => exact ⟨rfl, fun _ h => h, fun k m => absurd m List.not_mem_nil⟩
  | cons j l ih =>
    obtain ⟨array, marks, marked⟩ := s.activateBand_store j
    obtain ⟨restArray, restMarks, restMarked⟩ := ih (s.activateBand j)
    refine ⟨restArray.trans array, fun r h => restMarks r (marks r h), fun k m staged => ?_⟩
    by_cases same : j = k
    · subst same
      exact restMarks _ (marked staged)
    · refine restMarked k ((List.mem_cons.mp m).resolve_left (Ne.symm same)) ?_
      rw [s.activateBand_other same]
      exact staged

theorem State.activateStaged_store (s : State) :
    s.activateStaged.store.array = s.store.array ∧
      ∀ k : Fin 16, s.bands.entries[k].hasStaged = true → s.activateStaged.store.isChanged (.band k) = true := by
  obtain ⟨array, -, marked⟩ := State.foldl_activateBand_store (List.finRange 16) s
  unfold State.activateStaged
  exact ⟨array, fun k => marked k (List.mem_finRange k)⟩

/-- With nothing staged the activation changes nothing. -/
theorem State.activateStaged_idle {s : State} (h : ∀ k : Fin 16, s.bands.entries[k].hasStaged = false) :
    s.activateStaged = s := by
  have each (l : List (Fin 16)) : l.foldl State.activateBand s = s := by
    induction l with
    | nil => rfl
    | cons k l ih => rw [List.foldl_cons, State.activateBand_idle (h k), ih]
  exact each _

/-! ## The flag UNOBSERVED of the OPEN segment (R69, R126) -/

/-- UNOBSERVED set on a segment. -/
def Segment.notObserved (g : Segment) : Segment := { g with flags := { g.flags with unobserved := true } }

theorem Segment.notObserved_of_set {g : Segment} (h : g.flags.unobserved = true) : g.notObserved = g := by
  unfold Segment.notObserved
  rw [← h]

/-- From s to t the log stands, or UNOBSERVED was set on the OPEN segment and nothing else was done. -/
def State.flagsUnobserved (s t : State) : Prop :=
  t.log = s.log ∨ ∃ d, s.log.openEntry = some d ∧ t.log = s.log.modify d.slot Segment.notObserved

theorem State.flagsUnobserved_of_changesOnly {s t : State} {ps : List Part} (h : s.changesOnly t ps)
    (n : Part.log ∉ ps) : s.flagsUnobserved t := .inl (h .log n)

/-- A flag set twice on one segment is set once. -/
theorem SegmentLog.modify_notObserved_twice (l : SegmentLog) (k : Fin 24) :
    (l.modify k Segment.notObserved).modify k Segment.notObserved = l.modify k Segment.notObserved := by
  unfold SegmentLog.modify
  dsimp only
  rw [List.map_map]
  congr 2
  funext e
  simp only [Function.comp_apply]
  split <;> rfl

theorem State.flagsUnobserved_trans {s t u : State} (h : s.flagsUnobserved t) (k : t.flagsUnobserved u) :
    s.flagsUnobserved u := by
  rcases h with same | ⟨d, opened, set⟩
  · unfold State.flagsUnobserved at k ⊢
    rwa [same] at k
  · refine .inr ⟨d, opened, ?_⟩
    rcases k with same | ⟨e, again, twice⟩
    · exact same.trans set
    · rw [set, SegmentLog.openEntry_modify s.log d.slot (f := Segment.notObserved) fun _ => rfl, opened] at again
      have slot : e.slot = d.slot := by
        cases again
        dsimp only
        split <;> rfl
      rw [twice, slot, set, SegmentLog.modify_notObserved_twice]

/-- Two operations in succession, the later one given first. -/
theorem State.flagsUnobserved_after {s t u : State} (k : t.flagsUnobserved u) (h : s.flagsUnobserved t) :
    s.flagsUnobserved u :=
  State.flagsUnobserved_trans h k

theorem State.flagOpen_flagsUnobserved (s : State) :
    s.flagsUnobserved (s.flagOpen fun f => { f with unobserved := true }) := by
  unfold State.flagOpen
  split
  · exact .inl rfl
  · next d opened =>
    split
    · exact .inl rfl
    · exact .inr ⟨d, opened, rfl⟩

theorem State.unobservedPeriod_flagsUnobserved (s : State) (i : AccountIx) :
    s.flagsUnobserved (s.unobservedPeriod i) := by
  unfold State.unobservedPeriod
  dsimp only
  refine State.flagsUnobserved_after
    (State.flagsUnobserved_of_changesOnly (State.evalCarried_changesOnly _ i _) (by decide))
    (State.flagsUnobserved_after (State.flagOpen_flagsUnobserved _) ?_)
  exact State.flagsUnobserved_after
    (State.flagsUnobserved_of_changesOnly (State.noteUnobserved_changesOnly _ i) (by decide))
    (State.flagsUnobserved_of_changesOnly (s.changeAccount_changesOnly i _) (by decide))

theorem State.activePeriod_flagsUnobserved (s : State) (i : AccountIx) : s.flagsUnobserved (s.activePeriod i) := by
  unfold State.activePeriod
  dsimp only
  refine State.flagsUnobserved_after (State.flagsUnobserved_of_changesOnly (State.credit_changesOnly _ i _) (by decide))
    (State.flagsUnobserved_after
      (State.flagsUnobserved_of_changesOnly (State.changeAccount_changesOnly _ i _) (by decide)) ?_)
  exact State.flagsUnobserved_after
    (State.flagsUnobserved_of_changesOnly (State.noteWinner_changesOnly _ i _) (by decide))
    (State.flagsUnobserved_of_changesOnly (s.clearUnobserved_changesOnly i) (by decide))

/-- Of the log, the metering of an account changes that flag alone. -/
theorem State.meterAccount_flagsUnobserved (s : State) (i : AccountIx) : s.flagsUnobserved (s.meterAccount i) := by
  unfold State.meterAccount
  split
  · exact s.activePeriod_flagsUnobserved i
  · exact State.flagsUnobserved_of_changesOnly (s.clearUnobserved_changesOnly i) (by decide)
  · split
    · exact s.unobservedPeriod_flagsUnobserved i
    · exact .inl rfl

theorem State.foldl_meterAccount_flagsUnobserved (l : List AccountIx) (s : State) :
    s.flagsUnobserved (l.foldl State.meterAccount s) := by
  induction l generalizing s with
  | nil => exact .inl rfl
  | cons i l ih => exact State.flagsUnobserved_trans (s.meterAccount_flagsUnobserved i) (ih _)

theorem State.meteringPass_flagsUnobserved (s : State) : s.flagsUnobserved s.meteringPass := by
  rw [State.meteringPass_eq]
  refine State.flagsUnobserved_trans (State.flagsUnobserved_of_changesOnly s.activateStaged_changesOnly (by decide)) ?_
  exact State.flagsUnobserved_trans (State.foldl_meterAccount_flagsUnobserved _ _)
    (State.flagsUnobserved_of_changesOnly (State.revolutions_changesOnly _) (by decide))

/-- An entry of the log stands as it was, or with UNOBSERVED set where it has the slot of the OPEN segment. -/
theorem State.flagsUnobserved.entry {s t : State} (h : s.flagsUnobserved t) {n : Nat} {e f : LogEntry}
    (before : s.log.entries[n]? = some e) (after : t.log.entries[n]? = some f) :
    f = e ∨ f = { e with seg := e.seg.notObserved } ∧ ∃ d, s.log.openEntry = some d ∧ e.slot = d.slot := by
  rcases h with same | ⟨d, opened, set⟩
  · rw [same, before] at after
    exact .inl (Option.some.inj after).symm
  · rw [set] at after
    simp only [SegmentLog.modify, List.getElem?_map, before, Option.map_some, Option.some.injEq] at after
    subst after
    split
    · next at_ => exact .inr ⟨rfl, d, opened, by simpa using at_⟩
    · exact .inl rfl

/-- A change of the log that does not show once UNOBSERVED is taken off. -/
theorem State.flagsUnobserved.rest {s t : State} (h : s.flagsUnobserved t) {f : LogEntry → LogEntry}
    (blind : ∀ e : LogEntry, f { e with seg := e.seg.notObserved } = f e) :
    t.log.nearFull = s.log.nearFull ∧ t.log.entries.map f = s.log.entries.map f := by
  rcases h with same | ⟨d, -, set⟩
  · rw [same]
    exact ⟨rfl, rfl⟩
  · rw [set]
    refine ⟨rfl, ?_⟩
    unfold SegmentLog.modify
    rw [List.map_map]
    refine List.map_congr_left fun e _ => ?_
    simp only [Function.comp_apply]
    split
    · exact blind e
    · rfl

/-- With each segment in a slot of its own, the slot of the OPEN one holds no other. -/
theorem State.opened_of_slot {s : State} (distinct : s.slotsDistinct) {d e : LogEntry}
    (opened : s.log.openEntry = some d) (m : e ∈ s.log.entries) (slot : e.slot = d.slot) : e.seg.state = .opened := by
  rw [List.inj_on_of_nodup_map distinct m (SegmentLog.openEntry_mem opened) slot]
  simpa using List.find?_some opened

/-! ## The whole pass -/

theorem State.meteringPass_marks_after_activation (s : State) : s.activateStaged.onlyMarks s.meteringPass := by
  have each : ∀ (l : List AccountIx) (x : State), x.onlyMarks (l.foldl State.meterAccount x) := by
    intro l
    induction l with
    | nil => exact fun _ => State.onlyMarks_of_same rfl
    | cons i l ih => exact fun x => State.onlyMarks_trans (x.meterAccount_onlyMarks i) (ih _)
  rw [State.meteringPass_eq]
  exact State.onlyMarks_trans (each _ _) (State.revolutions_onlyMarks _)

/-- What the pass changes after the activation. -/
theorem State.meteringPass_changes_after_activation (s : State) :
    s.activateStaged.changesOnly s.meteringPass meterParts := by
  rw [State.meteringPass_eq]
  exact State.changesOnly_then (State.changesOnly_foldl State.meterAccount_changesOnly _ _)
    (State.revolutions_changesOnly _) (by decide) (by decide)

/-- The state at the expiry, the timer running on (R62). -/
def State.periodStarted (s : State) : State := { s with meter := { s.meter with timer := some periodMs } }

theorem State.periodStarted_changesOnly (s : State) : s.changesOnly s.periodStarted [.meter] := by
  intro p hp
  cases p <;> first | rfl | simp at hp

theorem exec_meteringExpiry_pass {s : State} (running : s.isRunning = true) (timed : s.meter.timer.isSome = true) :
    exec .meteringExpiry s = .next s.periodStarted.meteringPass := by
  show execMeteringExpiry s = _
  unfold execMeteringExpiry
  rw [if_pos (by rw [running, timed]; rfl)]
  rfl

/-- Settles O15: the activation makes the staged parts active and marks their entries; after it a pass only marks, and
of the log it changes the flag UNOBSERVED alone. -/
theorem meteringActivatesAndKeepsRest : Obligations.MeteringActivatesAndKeepsRest := by
  intro s running timed
  have started := s.periodStarted_changesOnly
  have activated := s.periodStarted.activateStaged_changesOnly
  have metered := s.periodStarted.meteringPass_changes_after_activation
  have marks := s.periodStarted.meteringPass_marks_after_activation
  have flags : s.flagsUnobserved s.periodStarted.meteringPass := s.periodStarted.meteringPass_flagsUnobserved
  obtain ⟨array, staged⟩ := s.periodStarted.activateStaged_store
  obtain ⟨nearFull, entries⟩ := flags.rest
    (f := fun e => { e with seg := { e.seg with flags := { e.seg.flags with unobserved := false } } }) fun _ => rfl
  refine ⟨_, exec_meteringExpiry_pass running timed, fun k => ⟨?_, fun part => ?_⟩, ?_, fun none_ => ?_,
    marks.array.trans array, nearFull, entries, fun n e f before after => ⟨fun set => ?_, fun distinct other => ?_⟩⟩
  · have bands : s.periodStarted.meteringPass.bands = s.periodStarted.activateStaged.bands := metered .bands (by decide)
    rw [bands, State.activateStaged_entries, Fin.getElem_fin, Vector.getElem_map]
    rfl
  · exact marks.changed _ (staged k part)
  · exact State.changesOnly_then started (State.changesOnly_then
      (rs := [.meter, .accounts, .alerts, .port, .log, .store, .bands, .engine]) activated metered (by decide)
      (by decide)) (by decide) (by decide)
  · have idle : s.periodStarted.activateStaged = s.periodStarted := State.activateStaged_idle none_
    rw [idle] at metered marks
    exact ⟨State.changesOnly_then started metered (by decide) (by decide), marks.queue⟩
  · rcases flags.entry before after with same | ⟨noted, -⟩
    · exact same
    · rw [noted, Segment.notObserved_of_set set]
  · rcases flags.entry before after with same | ⟨-, d, opened, slot⟩
    · exact same
    · exact absurd (State.opened_of_slot distinct opened (List.mem_of_getElem? before) slot) other

end Sys2Proof.Machine
end

section
/-! PROOFS. The completion of a write without fault (O52): what the Alert Unit is told, which response it releases, and
the write that begins next. -/

namespace Sys2Proof.Machine

/-! ## A record reported good (R135, R137) -/

/-- What a record reported good does: nothing where it was not suspect, else it leaves the list; RECORD_SUSPECT is
reported false with the last one, and otherwise entries and held values stand. -/
theorem AlertUnit.recordGood_cases (u : AlertUnit) (r : RecordId) :
    (r ∉ u.suspects ∧ u.recordGood r = u) ∨
      (r ∈ u.suspects ∧ (u.suspects.filter fun q => q != r) = [] ∧
        u.recordGood r = { u with suspects := [] }.reportFalse (devicePair .recordSuspect)) ∨
      (u.suspects.filter fun q => q != r) ≠ [] ∧
        u.recordGood r = { u with suspects := u.suspects.filter fun q => q != r } := by
  unfold AlertUnit.recordGood
  by_cases listed : r ∈ u.suspects
  · rw [if_pos (List.contains_iff_mem.mpr listed)]
    dsimp only
    by_cases last : (u.suspects.filter fun q => q != r) = []
    · exact .inr (.inl ⟨listed, last, if_pos (List.isEmpty_iff.mpr last)⟩)
    · exact .inr (.inr ⟨last, if_neg fun empty => last (List.isEmpty_iff.mp empty)⟩)
  · exact .inl ⟨listed, if_neg fun found => listed (List.contains_iff_mem.mp found)⟩

theorem AlertUnit.recordGood_suspects (u : AlertUnit) (r : RecordId) :
    (u.recordGood r).suspects = u.suspects.filter fun q => q != r := by
  rcases u.recordGood_cases r with ⟨out, same⟩ | ⟨-, last, told⟩ | ⟨-, left⟩
  · rw [same, eq_comm, List.filter_eq_self]
    exact fun q m => bne_iff_ne.mpr fun e => out (e ▸ m)
  · rw [told, AlertUnit.suspects_reportFalse, last]
  · rw [left]

theorem AlertUnit.recordGood_last {u : AlertUnit} {r : RecordId} (listed : r ∈ u.suspects)
    (empty : (u.recordGood r).suspects = []) : (u.recordGood r).holds (devicePair .recordSuspect) = false := by
  rcases u.recordGood_cases r with ⟨out, -⟩ | ⟨-, -, told⟩ | ⟨more, -⟩
  · exact absurd listed out
  · rw [told]
    exact AlertUnit.holds_reportFalse _ _
  · exact absurd (u.recordGood_suspects r ▸ empty) more

theorem AlertUnit.recordGood_more {u : AlertUnit} {r : RecordId} (more : (u.recordGood r).suspects ≠ []) :
    (u.recordGood r).entries = u.entries ∧ (u.recordGood r).heldTrue = u.heldTrue := by
  rcases u.recordGood_cases r with ⟨-, same⟩ | ⟨-, last, -⟩ | ⟨-, left⟩
  · rw [same]
    exact ⟨rfl, rfl⟩
  · exact absurd ((u.recordGood_suspects r).trans last) more
  · rw [left]
    exact ⟨rfl, rfl⟩

/-! ## Suspect marks (R61, R153) -/

/-- The suspect mark of a record: that of its band entry, or that of record 5. -/
def State.suspectMark (s : State) : RecordId → Bool
  | .band k => s.bands.suspect[k]
  | .settings => s.store.settingsSuspect
  | .account _ | .slot _ => false

theorem State.suspectMark_iff (s : State) (r : RecordId) :
    s.suspectMark r = true ↔
      (∃ k : Fin 16, r = .band k ∧ s.bands.suspect[k] = true) ∨ (r = .settings ∧ s.store.settingsSuspect = true) := by
  cases r <;> simp [State.suspectMark]

/-- The band table with the suspect mark of a record cleared. -/
def BandTable.cleared (b : BandTable) : RecordId → BandTable
  | .band k => { b with suspect := b.suspect.set k false }
  | .account _ | .settings | .slot _ => b

/-- A mark that is not set is cleared already. -/
theorem BandTable.cleared_of_clear {b : BandTable} {k : Fin 16} (h : b.suspect[k] = false) :
    b.cleared (.band k) = b := by
  have same : b.suspect.set k false = b.suspect := by
    rw [← h]
    simp
  unfold BandTable.cleared
  dsimp only
  rw [same]

theorem State.clearSuspect_changesOnly (s : State) (r : RecordId) :
    s.changesOnly (s.clearSuspect r) [.bands, .alerts, .store] := by
  cases r with
  | band k =>
    refine State.changesOnly_ite (State.changesOnly_then (ps := [.bands]) ?_ (State.reportGood_changesOnly _ _)
      (by decide) (by decide)) (s.changesOnly_refl _)
    intro p hp
    cases p <;> first | rfl | simp at hp
  | settings =>
    refine State.changesOnly_ite (State.changesOnly_then (ps := [.store]) ?_ (State.reportGood_changesOnly _ _)
      (by decide) (by decide)) (s.changesOnly_refl _)
    intro p hp
    cases p <;> first | rfl | simp at hp
  | account i => exact s.changesOnly_refl _
  | slot k => exact s.changesOnly_refl _

/-- The mark is cleared, whether it was set or not. -/
theorem State.clearSuspect_marks (s : State) (r : RecordId) :
    (s.clearSuspect r).bands = s.bands.cleared r ∧
      (s.clearSuspect r).store = { s.store with settingsSuspect := s.store.settingsSuspect && r != .settings } := by
  have stands (h : r ≠ .settings) :
      s.store = { s.store with settingsSuspect := s.store.settingsSuspect && r != .settings } := by
    rw [bne_iff_ne.mpr h, Bool.and_true]
  unfold State.clearSuspect
  cases r with
  | band k =>
    dsimp only
    split
    · exact ⟨rfl, stands (by simp)⟩
    · next clear => exact ⟨(BandTable.cleared_of_clear (by simpa using clear)).symm, stands (by simp)⟩
  | settings =>
    dsimp only
    split
    · exact ⟨rfl, by rw [bne_self_eq_false, Bool.and_false]; rfl⟩
    · next clear =>
      rw [Bool.not_eq_true] at clear
      refine ⟨rfl, ?_⟩
      rw [clear, Bool.false_and, ← clear]
  | account i => exact ⟨rfl, stands (by simp)⟩
  | slot k => exact ⟨rfl, stands (by simp)⟩

/-- A mark that was set is reported (R61, R135). -/
theorem State.clearSuspect_alerts (s : State) (r : RecordId) :
    (s.clearSuspect r).alerts = if s.suspectMark r then s.alerts.recordGood r else s.alerts := by
  unfold State.clearSuspect
  cases r with
  | band k =>
    show State.alerts (if s.bands.suspect[k] then _ else _) = if s.bands.suspect[k] then _ else _
    split <;> rfl
  | settings =>
    show State.alerts (if s.store.settingsSuspect then _ else _) = if s.store.settingsSuspect then _ else _
    split <;> rfl
  | account i => rfl
  | slot k => rfl

/-! ## Responses released (R157, R170) -/

/-- Every slot is changed alike. -/
theorem RequestEngine.slot_mapSlots (e : RequestEngine) (f : ClientSlot → ClientSlot) (k : SlotIx) :
    (e.mapSlots f).slots[k] = f e.slots[k] := by
  fin_cases k <;> rfl

theorem ClientSlot.mapWaits_idle {c : ClientSlot} (f : List Wait → List Wait) (h : c.inFlight = none) :
    c.mapWaits f = c := by
  unfold ClientSlot.mapWaits
  rw [h]

theorem ClientSlot.satisfied_idle {c : ClientSlot} (h : c.inFlight = none) : c.satisfied = false := by
  unfold ClientSlot.satisfied
  rw [h]

theorem State.releaseSlot_resetDue (s : State) (k : SlotIx) (o : ReqOutcome) :
    (s.releaseSlot k o).engine.resetDue = s.engine.resetDue := by
  unfold State.releaseSlot
  split
  · split
    · unfold State.offer
      split <;> rfl
    · rfl
  · rfl

theorem State.releaseSatisfied_resetDue (s : State) : s.releaseSatisfied.engine.resetDue = s.engine.resetDue := by
  have each : ∀ (l : List SlotIx) (x : State),
      (l.foldl (fun x i => if x.engine.slots[i].satisfied then x.releaseSlot i .ok else x) x).engine.resetDue =
        x.engine.resetDue := by
    intro l
    induction l with
    | nil => exact fun _ => rfl
    | cons k l ih =>
      intro x
      rw [List.foldl_cons, ih]
      split
      · exact x.releaseSlot_resetDue k .ok
      · rfl
  exact each _ s

/-- A response that waits for nothing more, released into a queue with room. -/
theorem State.releaseSlot_room {s : State} {k : SlotIx} {kind : Byte} {ops payload : List Byte} {waits : List Wait}
    (o : ReqOutcome)
    (waiting : s.engine.slots[k].inFlight = some { kind := kind, ops := ops, phase := .waiting waits payload })
    (room : s.port.hasRoom = true) :
    s.releaseSlot k o =
      State.setInFlight { s with port := s.port.push (responseFrame s.time.straps k kind o payload false) } k none := by
  unfold State.releaseSlot
  rw [waiting]
  exact s.offer_room k kind ops _ room

/-- With every slot of a list IDLE nothing of it is released. -/
theorem State.foldl_release_idle (l : List SlotIx) (s : State) (idle : ∀ i ∈ l, s.engine.slots[i].inFlight = none) :
    l.foldl (fun x i => if x.engine.slots[i].satisfied then x.releaseSlot i .ok else x) s = s := by
  induction l with
  | nil => rfl
  | cons j l ih =>
    rw [List.foldl_cons, ClientSlot.satisfied_idle (idle j (List.mem_cons_self ..)), if_neg (by decide)]
    exact ih fun i m => idle i (List.mem_cons_of_mem _ m)

theorem mem_allSlots (k : SlotIx) : k ∈ ([0, 1, 2, 3] : List SlotIx) := by
  revert k
  decide

/-- With one response satisfied and every other slot IDLE, that one is released. -/
theorem State.releaseSatisfied_one {s : State} {k : SlotIx} {kind : Byte} {ops payload : List Byte}
    (waiting : s.engine.slots[k].inFlight = some { kind := kind, ops := ops, phase := .waiting [] payload })
    (others : ∀ j : SlotIx, j ≠ k → s.engine.slots[j].inFlight = none) (room : s.port.hasRoom = true) :
    s.releaseSatisfied =
      State.setInFlight { s with port := s.port.push (responseFrame s.time.straps k kind .ok payload false) } k
        none := by
  have satisfied : s.engine.slots[k].satisfied = true := by
    unfold ClientSlot.satisfied
    rw [waiting]
    rfl
  have each : ∀ l : List SlotIx, l.Nodup → k ∈ l →
      l.foldl (fun x i => if x.engine.slots[i].satisfied then x.releaseSlot i .ok else x) s = s.releaseSlot k .ok := by
    intro l
    induction l with
    | nil => exact fun _ m => absurd m List.not_mem_nil
    | cons j l ih =>
      intro once m
      obtain ⟨out, once⟩ := List.nodup_cons.mp once
      rw [List.foldl_cons]
      by_cases same : j = k
      · subst same
        rw [if_pos satisfied]
        refine State.foldl_release_idle l _ fun i later => ?_
        have differs : i ≠ j := fun e => out (e ▸ later)
        rw [State.releaseSlot_room .ok waiting room, State.slot_setInFlight_other _ _ differs.symm]
        exact others i differs
      · rw [ClientSlot.satisfied_idle (others j same), if_neg (by decide)]
        exact ih once ((List.mem_cons.mp m).resolve_left (Ne.symm same))
  exact (each [0, 1, 2, 3] (by decide) (mem_allSlots k)).trans (State.releaseSlot_room .ok waiting room)

/-! ## The write that begins next (R156) -/

@[simp] theorem State.nextWrite_settingsSuspect (s : State) :
    s.nextWrite.store.settingsSuspect = s.store.settingsSuspect := by
  unfold State.nextWrite
  split
  · rfl
  · exact State.startWrite_settingsSuspect _ _

/-- The begin of a write leaves an IDLE slot IDLE. -/
theorem State.startWrite_idle (s : State) (r : RecordId) {k : SlotIx} (h : s.engine.slots[k].inFlight = none) :
    (s.startWrite r).engine.slots[k].inFlight = none := by
  have engine : (s.stampLastWrite r).engine = s.engine := s.stampLastWrite_changesOnly r .engine (by decide)
  unfold State.startWrite
  dsimp only
  rw [engine, RequestEngine.slot_mapSlots, ClientSlot.mapWaits_idle _ h]
  exact h

theorem State.nextWrite_idle (s : State) {k : SlotIx} (h : s.engine.slots[k].inFlight = none) :
    s.nextWrite.engine.slots[k].inFlight = none := by
  unfold State.nextWrite
  split
  · exact h
  · exact State.startWrite_idle _ _ h

theorem State.nextWrite_nil {s : State} (h : s.store.queue = []) :
    s.nextWrite = { s with store := { s.store with state := .ready } } := by
  unfold State.nextWrite
  rw [h]

theorem State.nextWrite_cons {s : State} {r : RecordId} {rest : List RecordId} (h : s.store.queue = r :: rest) :
    s.nextWrite = State.startWrite { s with store := { s.store with state := .writing, queue := rest } } r := by
  unfold State.nextWrite
  rw [h]

/-- With nothing in flight the next queued write begins, or the store is READY. -/
theorem State.nextWrite_store {s : State} (idle : s.store.inFlight = none) :
    match s.store.queue with
    | [] => s.nextWrite.store.state = .ready ∧ s.nextWrite.store.inFlight = none ∧ s.nextWrite.store.queue = []
    | r :: rest =>
      s.nextWrite.store.state = .writing ∧ s.nextWrite.store.queue = rest ∧
        ∃ x, s.nextWrite.store.inFlight = some x ∧ x.record = r ∧ x.dirty = false := by
  cases queue : s.store.queue with
  | nil =>
    rw [State.nextWrite_nil queue]
    exact ⟨rfl, idle, queue⟩
  | cons r rest =>
    rw [State.nextWrite_cons queue]
    exact ⟨State.startWrite_state _ _, State.startWrite_queue _ _, _, State.startWrite_inFlight _ _, rfl, rfl⟩

/-- With IGN asserted the part is held active (R185). -/
theorem State.parkCheck_keyed {s : State} (ign : s.lines.ign = true) : s.parkCheck = s := by
  unfold State.parkCheck State.heldActive
  simp [ign]

theorem State.afterWrite_writing {s : State} {before : Store} (due : s.engine.resetDue = false)
    (state : s.store.state = .writing) (taken : before.pfwTaken = false) (ign : s.lines.ign = true) :
    s.afterWrite before = s.nextWrite := by
  have keyed : s.nextWrite.lines.ign = true := by
    rw [s.nextWrite_changesOnly .lines (by decide)]
    exact ign
  unfold State.afterWrite
  rw [if_neg (by rw [due]; decide), state]
  dsimp only
  rw [if_neg (by rw [taken]; decide), State.parkCheck_keyed keyed]

/-! ## The completion (R156) -/

/-- The image stored, the mark taken away unless the record changed since, and nothing in flight. -/
def State.imageStored (s : State) (w : Write) : State :=
  { s with
    store :=
      { s.store with
        array := s.store.array.set w.record.index (.whole w.image)
        changed := if w.dirty then s.store.changed else s.store.changed.set w.record.index false
        inFlight := none } }

theorem State.imageStored_changesOnly (s : State) (w : Write) : s.changesOnly (s.imageStored w) [.store] := by
  intro p hp
  cases p <;> first | rfl | simp at hp

theorem State.imageStored_isChanged (s : State) (w : Write) (r : RecordId) :
    (s.imageStored w).store.isChanged r =
      if r = w.record then w.dirty && s.store.isChanged r else s.store.isChanged r := by
  unfold State.imageStored Store.isChanged
  dsimp only
  cases dirty : w.dirty with
  | true => simp
  | false =>
    by_cases same : r = w.record
    · subst same
      simp
    · have other : w.record.index.val ≠ r.index.val := fun e => same (RecordId.index_injective (Fin.ext e)).symm
      simp [same, other]

/-- The responses that waited for the write are released. -/
def State.writeAnswered (s : State) (w : Write) : State :=
  ((s.imageStored w).mapWaits (doneWaits w.record)).releaseSatisfied

theorem State.completeGood_eq (s : State) (w : Write) : s.completeGood w = (s.writeAnswered w).clearSuspect w.record :=
  rfl

theorem State.mapWaits_changesOnly (s : State) (f : List Wait → List Wait) :
    s.changesOnly (s.mapWaits f) [.engine] := by
  intro p hp
  cases p <;> first | rfl | simp at hp

/-- The answers leave what the completion made of the store. -/
theorem State.writeAnswered_rest (s : State) (w : Write) :
    (s.imageStored w).changesOnly (s.writeAnswered w) [.port, .engine] ∧
      (s.writeAnswered w).engine.resetDue = s.engine.resetDue :=
  ⟨State.changesOnly_then (State.mapWaits_changesOnly _ _) (State.releaseSatisfied_changesOnly _) (by decide)
      (by decide), State.releaseSatisfied_resetDue _⟩

/-- From s to t the image of a completed write is stored and the suspect mark of its record cleared. -/
structure State.written (s t : State) (w : Write) : Prop where
  bands : t.bands = s.bands.cleared w.record
  store : t.store =
    { (s.imageStored w).store with settingsSuspect := s.store.settingsSuspect && w.record != .settings }
  alerts : t.alerts = if s.suspectMark w.record then s.alerts.recordGood w.record else s.alerts
  resetDue : t.engine.resetDue = s.engine.resetDue
  changes : s.changesOnly t [.port, .bands, .alerts, .store, .engine]

theorem State.completeGood_written (s : State) (w : Write) : s.written (s.completeGood w) w := by
  obtain ⟨answered, due⟩ := s.writeAnswered_rest w
  have bands : (s.writeAnswered w).bands = s.bands := answered .bands (by decide)
  have alerts : (s.writeAnswered w).alerts = s.alerts := answered .alerts (by decide)
  have store : (s.writeAnswered w).store = (s.imageStored w).store := answered .store (by decide)
  have mark : (s.writeAnswered w).suspectMark w.record = s.suspectMark w.record := by
    unfold State.suspectMark
    rw [bands, store]
    rfl
  have cleared := (s.writeAnswered w).clearSuspect_changesOnly w.record
  obtain ⟨marks, suspect⟩ := (s.writeAnswered w).clearSuspect_marks w.record
  rw [State.completeGood_eq]
  refine ⟨marks.trans (by rw [bands]), suspect.trans (by rw [store]; rfl), ?_, ?_, ?_⟩
  · rw [State.clearSuspect_alerts, mark, alerts]
  · rw [cleared .engine (by decide)]
    exact due
  · exact State.changesOnly_then (State.changesOnly_then (rs := [.port, .store, .engine]) (s.imageStored_changesOnly w)
      answered (by decide) (by decide)) cleared (by decide) (by decide)

/-- A good completion while WRITING, with nothing that holds the next write back. -/
theorem exec_goodWrite {s : State} {w : Write} (flying : s.store.inFlight = some w) (state : s.store.state = .writing)
    (taken : s.store.pfwTaken = false) (due : s.engine.resetDue = false) (ign : s.lines.ign = true) :
    exec (.writeCompletion false) s = .next (s.completeGood w).nextWrite := by
  have written := s.completeGood_written w
  have done : (s.completeGood w).afterWrite s.store = (s.completeGood w).nextWrite := by
    refine State.afterWrite_writing (written.resetDue.trans due) ?_ taken ?_
    · rw [written.store]
      exact state
    · rw [written.changes .lines (by decide)]
      exact ign
  show execWriteCompletion false s = _
  unfold execWriteCompletion
  rw [flying]
  exact congrArg Host.Outcome.next done

/-- The one response that waited for the write alone is in the queue, and its slot IDLE. -/
theorem State.completeGood_releases {s : State} {w : Write} {k : SlotIx} {kind : Byte} {ops payload : List Byte}
    (waiting : s.engine.slots[k].inFlight =
      some { kind := kind, ops := ops, phase := .waiting [{ record := w.record, begun := true }] payload })
    (others : ∀ j : SlotIx, j ≠ k → s.engine.slots[j].inFlight = none) (room : s.port.hasRoom = true) :
    (s.completeGood w).engine.slots[k].inFlight = none ∧
      responseFrame s.time.straps k kind .ok payload false ∈ (s.completeGood w).port.tx := by
  have slot (j : SlotIx) : ((s.imageStored w).mapWaits (doneWaits w.record)).engine.slots[j] =
      s.engine.slots[j].mapWaits (doneWaits w.record) := s.engine.slot_mapSlots _ j
  have released := State.releaseSatisfied_one (s := (s.imageStored w).mapWaits (doneWaits w.record)) (k := k)
    (kind := kind) (ops := ops) (payload := payload)
    (by rw [slot, ClientSlot.mapWaits, waiting]; simp [doneWaits])
    (fun j other => by rw [slot, ClientSlot.mapWaits_idle _ (others j other)]; exact others j other) room
  have cleared := (s.writeAnswered w).clearSuspect_changesOnly w.record
  rw [State.completeGood_eq, cleared .engine (by decide), cleared .port (by decide), State.writeAnswered, released]
  exact ⟨State.inFlight_setInFlight_same _ k none, List.mem_append_right _ (List.mem_singleton_self _)⟩

/-- Settles O52: the completion stores, answers and clears; the begin of the next write touches none of this. -/
theorem goodWriteCompletes : Obligations.GoodWriteCompletes := by
  refine ⟨fun s w flying state taken due ign => ?_,
    fun s w slot kind ops payload flying state taken due ign waiting others room => ?_⟩
  · have written := s.completeGood_written w
    have next := (s.completeGood w).nextWrite_changesOnly
    have alerts : (s.completeGood w).nextWrite.alerts = (s.completeGood w).alerts := next .alerts (by decide)
    have bands : (s.completeGood w).nextWrite.bands = (s.completeGood w).bands := next .bands (by decide)
    have changed (r : RecordId) :
        (s.completeGood w).nextWrite.store.isChanged r = (s.imageStored w).store.isChanged r := by
      unfold Store.isChanged
      rw [State.nextWrite_changed, written.store]
    refine ⟨_, exec_goodWrite flying state taken due ign, ?_, ?_, fun r other => ?_, ?_, ?_, ?_, fun clear => ?_,
      fun marked => ?_, fun marked listed => ?_, fun marked => ?_, ?_⟩
    · rw [State.nextWrite_array, written.store]
      rfl
    · rw [changed, State.imageStored_isChanged, if_pos rfl]
    · rw [changed, State.imageStored_isChanged, if_neg other]
    · have begun := State.nextWrite_store (s := s.completeGood w) (by rw [written.store]; rfl)
      rw [written.store] at begun
      exact begun
    · rw [bands, written.bands]
      cases w.record <;> rfl
    · rw [State.nextWrite_settingsSuspect, written.store]
    · rw [alerts, written.alerts, if_neg fun mark => clear ((s.suspectMark_iff _).mp mark)]
    · rw [alerts, written.alerts, if_pos ((s.suspectMark_iff _).mpr marked)]
      exact s.alerts.recordGood_suspects _
    · rw [alerts, written.alerts, if_pos ((s.suspectMark_iff _).mpr marked)]
      exact AlertUnit.recordGood_last listed
    · rw [alerts, written.alerts, if_pos ((s.suspectMark_iff _).mpr marked)]
      exact AlertUnit.recordGood_more
    · exact State.changesOnly_then written.changes next (by decide) (by decide)
  · obtain ⟨idle, queued⟩ := State.completeGood_releases waiting others room
    refine ⟨_, exec_goodWrite flying state taken due ign, State.nextWrite_idle _ idle, ?_⟩
    rw [(s.completeGood w).nextWrite_changesOnly .port (by decide)]
    exact queued

end Sys2Proof.Machine
end

section
/-! PROOFS. A locked band entry stays locked (O11): one relation between two states, `keepsLocks`, through every
operation but a cold reset and the end of a load, and the refusal of every edit. -/

namespace Sys2Proof.Machine

/-! ## The relation -/

/-- From s to t no lock is taken off (R58). -/
def State.keepsLocks (s t : State) : Prop :=
  ∀ k : Fin 16, s.bands.entries[k].locked = true → t.bands.entries[k].locked = true

theorem State.keepsLocks_of_bands {s t : State} (h : t.bands = s.bands) : s.keepsLocks t := by
  intro k locked
  rw [h]
  exact locked

theorem State.keepsLocks_refl (s : State) : s.keepsLocks s := fun _ locked => locked

/-- Two operations in succession, the later one given first. -/
theorem State.keepsLocks_after {s t u : State} (k : t.keepsLocks u) (h : s.keepsLocks t) : s.keepsLocks u :=
  fun i locked => k i (h i locked)

theorem State.keepsLocks_ite {s t u : State} {c : Prop} [Decidable c] (h : s.keepsLocks t) (k : s.keepsLocks u) :
    s.keepsLocks (if c then t else u) := by
  split
  · exact h
  · exact k

theorem State.keepsLocks_foldl {α : Type} {f : State → α → State} (h : ∀ (x : State) (a : α), x.keepsLocks (f x a))
    (l : List α) (s : State) : s.keepsLocks (l.foldl f s) := by
  induction l generalizing s with
  | nil => exact s.keepsLocks_refl
  | cons a l ih => exact State.keepsLocks_after (ih (f s a)) (h s a)

/-- An operation on other parts than the Band Table. -/
theorem State.keepsLocks_of_changesOnly {s t : State} {ps : List Part} (h : s.changesOnly t ps) (n : Part.bands ∉ ps) :
    s.keepsLocks t :=
  State.keepsLocks_of_bands (h .bands n)

/-! ## Records and writes -/

theorem State.hand_keepsLocks (s : State) (r : RecordId) : s.keepsLocks (s.hand r) :=
  State.keepsLocks_of_changesOnly (s.hand_changesOnly r) (by decide)

theorem State.bulkEnqueue_keepsLocks (s : State) (rs : List RecordId) : s.keepsLocks (s.bulkEnqueue rs) :=
  State.keepsLocks_of_changesOnly (s.bulkEnqueue_changesOnly rs) (by decide)

theorem State.startWrite_keepsLocks (s : State) (r : RecordId) : s.keepsLocks (s.startWrite r) :=
  State.keepsLocks_of_changesOnly (s.startWrite_changesOnly r) (by decide)

/-- Handing the record of what an operation on other parts changed. -/
theorem State.hand_keepsLocks_after {s t : State} {ps : List Part} (r : RecordId) (h : s.changesOnly t ps)
    (n : Part.bands ∉ ps) : s.keepsLocks (t.hand r) :=
  State.keepsLocks_after (t.hand_keepsLocks r) (State.keepsLocks_of_changesOnly h n)

/-! ## The Band Table (R52 to R57) -/

/-- An entry replaced keeps the locks when it is locked itself wherever the old one was. -/
theorem State.putBand_keepsLocks (s : State) (k : Fin 16) {e : BandEntry}
    (h : s.bands.entries[k].locked = true → e.locked = true) : s.keepsLocks (s.putBand k e).state := by
  unfold State.putBand
  rw [Answer.state_durable]
  refine State.keepsLocks_after (State.hand_keepsLocks _ _) fun j locked => ?_
  by_cases same : k = j
  · subst same
    rw [State.band_setBand_same]
    exact h locked
  · rwa [State.band_setBand_other _ _ same]

/-- An edit leaves a locked entry as it is. -/
theorem State.editBand_keepsLocks (s : State) (k : Fin 16) (apply stage : BandEntry → BandEntry) :
    s.keepsLocks (s.editBand k apply stage).state := by
  cases locked : s.bands.entries[k].locked with
  | true =>
    rw [State.editBand_locked locked]
    exact s.keepsLocks_refl
  | false =>
    rw [State.editBand_unlocked locked]
    exact s.putBand_keepsLocks k fun h => by rw [locked] at h; cases h

theorem State.handleBandPrimary_keepsLocks (s : State) (entry metric : Nat) (low high : Int) :
    s.keepsLocks (s.handleBandPrimary entry metric low high).state := by
  unfold State.handleBandPrimary
  split
  · exact s.editBand_keepsLocks _ _ _
  · exact s.keepsLocks_refl

theorem State.handleBandSecondary_keepsLocks (s : State) (entry metric : Nat) (low high : Int) :
    s.keepsLocks (s.handleBandSecondary entry metric low high).state := by
  unfold State.handleBandSecondary
  split
  · exact s.editBand_keepsLocks _ _ _
  · exact s.keepsLocks_refl

theorem State.handleBandWeight_keepsLocks (s : State) (entry account cls bin weight enabled : Nat) :
    s.keepsLocks (s.handleBandWeight entry account cls bin weight enabled).state := by
  unfold State.handleBandWeight
  split
  · exact s.editBand_keepsLocks _ _ _
  · exact s.keepsLocks_refl

theorem State.handleBandLock_keepsLocks (s : State) (entry : Nat) : s.keepsLocks (s.handleBandLock entry).state := by
  unfold State.handleBandLock
  split
  · exact s.keepsLocks_refl
  · dsimp only
    split
    · exact s.keepsLocks_refl
    · split
      · exact s.putBand_keepsLocks _ fun _ => rfl
      · exact s.keepsLocks_refl

/-- The activation of staged parts leaves the lock of an entry (R55). -/
theorem State.meteringPass_keepsLocks (s : State) : s.keepsLocks s.meteringPass := by
  refine State.keepsLocks_after
    (State.keepsLocks_of_changesOnly s.meteringPass_changes_after_activation (by decide)) fun k locked => ?_
  rw [State.activateStaged_entries, Fin.getElem_fin, Vector.getElem_map]
  exact locked

/-! ## Signal Intake and the Start Qualifier -/

theorem State.reformCrank_keepsLocks (s : State) : s.keepsLocks s.reformCrank :=
  State.keepsLocks_of_changesOnly s.reformCrank_changesOnly (by decide)

theorem State.crankLine_keepsLocks (s : State) (asserted : Bool) : s.keepsLocks (s.crankLine asserted) := by
  have formed : s.keepsLocks (State.reformCrank { s with lines := { s.lines with crank := asserted } }) :=
    State.keepsLocks_after (State.reformCrank_keepsLocks _) (State.keepsLocks_of_bands rfl)
  have triggered (x : State) : x.keepsLocks x.crankTrigger :=
    State.keepsLocks_of_changesOnly x.crankTrigger_changesOnly (by decide)
  exact State.keepsLocks_ite (State.keepsLocks_after (triggered _) formed) formed

theorem State.stopDone_keepsLocks (s : State) : s.keepsLocks s.stopDone := by
  unfold State.stopDone
  split <;> exact State.keepsLocks_of_bands rfl

theorem State.resumeQualifier_keepsLocks (s : State) : s.keepsLocks s.resumeQualifier := by
  unfold State.resumeQualifier
  dsimp only
  split
  · exact State.keepsLocks_after (State.keepsLocks_of_bands rfl) s.reformCrank_keepsLocks
  all_goals exact s.reformCrank_keepsLocks

theorem State.passHeld_keepsLocks (s : State) (n : SignalName) : s.keepsLocks (s.passHeld n) := by
  unfold State.passHeld
  split <;> exact State.keepsLocks_of_bands rfl

theorem State.decode_keepsLocks (s : State) (f : ObsFormat) (data : List Byte) : s.keepsLocks (s.decode f data) := by
  cases f with
  | engineState =>
    match data with
    | b0 :: b1 :: b2 :: b3 :: b4 :: rest =>
      exact State.keepsLocks_of_changesOnly (s.decodeEngine_effect b0 b1 b2 b3 b4 rest).2 (by decide)
    | [] | [_] | [_, _] | [_, _, _] | [_, _, _, _] => exact s.keepsLocks_refl
  | drivelineState =>
    show s.keepsLocks (s.decodeDriveline data)
    unfold State.decodeDriveline
    split <;> exact State.keepsLocks_of_bands rfl
  | drivelineEvent =>
    match data with
    | shift :: engagement :: rest =>
      exact State.keepsLocks_of_changesOnly (s.decodeEvent_effect shift engagement rest).2 (by decide)
    | [] | [_] => exact s.keepsLocks_refl

/-! ## Modes and the time base -/

theorem State.setMeter_keepsLocks (s : State) (m : Meter) : s.keepsLocks { s with meter := m } :=
  State.keepsLocks_of_bands rfl

theorem State.meterParked_keepsLocks (s : State) : s.keepsLocks s.meterParked := by
  have cleared : s.keepsLocks ((List.finRange 5).foldl State.clearUnobserved s) :=
    State.keepsLocks_foldl
      (fun x i => State.keepsLocks_of_changesOnly (x.clearUnobserved_changesOnly i) (by decide)) _ s
  unfold State.meterParked
  exact State.keepsLocks_after (State.setMeter_keepsLocks _ _) cleared

theorem State.enterParked_keepsLocks (s : State) : s.keepsLocks s.enterParked := by
  unfold State.enterParked
  refine State.keepsLocks_after (State.keepsLocks_of_changesOnly (State.dropRequests_changesOnly _) (by decide))
    (State.keepsLocks_after (State.keepsLocks_of_changesOnly (State.stopQualifier_changesOnly _) (by decide)) ?_)
  exact State.keepsLocks_after (State.meterParked_keepsLocks _)
    (State.keepsLocks_after (State.keepsLocks_of_changesOnly (State.intakeParked_changesOnly _) (by decide))
      (State.keepsLocks_of_bands rfl))

theorem State.enterDormant_keepsLocks (s : State) : s.keepsLocks s.enterDormant :=
  State.keepsLocks_of_changesOnly s.enterDormant_changesOnly (by decide)

theorem State.parkCheck_keepsLocks (s : State) : s.keepsLocks s.parkCheck :=
  State.keepsLocks_ite (State.keepsLocks_ite (s.bulkEnqueue_keepsLocks _) s.enterParked_keepsLocks) s.keepsLocks_refl

theorem State.wake_keepsLocks (s : State) : s.keepsLocks s.wake :=
  State.keepsLocks_of_changesOnly s.wake_changesOnly (by decide)

theorem State.hearFrame_keepsLocks (s : State) {take : State → State} (h : ∀ x : State, x.keepsLocks (take x)) :
    s.keepsLocks (s.hearFrame take) :=
  State.keepsLocks_ite
    (State.keepsLocks_ite (State.keepsLocks_after (State.wake_keepsLocks _) (State.keepsLocks_of_bands rfl)) (h s))
    s.keepsLocks_refl

theorem State.reportTimebase_keepsLocks (s : State) (v : Bool) : s.keepsLocks (s.reportTimebase v) :=
  State.keepsLocks_of_changesOnly (s.reportTimebase_changesOnly v) (by decide)

theorem State.windowEnd_keepsLocks (s : State) (cycles : Nat) : s.keepsLocks (s.windowEnd cycles) := by
  have selected (v : Selection) (n : Nat) : s.keepsLocks (s.setSelection v n) := State.keepsLocks_of_bands rfl
  unfold State.windowEnd
  split
  · exact s.keepsLocks_refl
  · exact State.keepsLocks_ite (selected _ _)
      (State.keepsLocks_after (State.keepsLocks_of_changesOnly (State.timebaseBad_changesOnly _) (by decide))
        (selected _ _))
  · exact State.keepsLocks_ite (selected _ _)
      (State.keepsLocks_after (State.reportTimebase_keepsLocks _ _) (selected _ _))
  · exact selected _ _

/-! ## The power-fail flush and the completion of a write -/

theorem State.beginReset_keepsLocks (s : State) (kind : ResetKind) (spoiled : Bool) :
    s.keepsLocks (s.beginReset kind spoiled) :=
  State.keepsLocks_of_bands rfl

theorem State.recover_keepsLocks (s : State) : s.keepsLocks s.recover := by
  have enqueued : s.keepsLocks
      (State.bulkEnqueue { s with store := { s.store with state := .ready, pfwReleased := false } } allRecords) :=
    State.keepsLocks_after (State.bulkEnqueue_keepsLocks _ _) (State.keepsLocks_of_bands rfl)
  exact State.keepsLocks_ite (State.keepsLocks_after (State.wake_keepsLocks _) enqueued) enqueued

theorem State.flushNext_keepsLocks (s : State) : s.keepsLocks s.flushNext := by
  unfold State.flushNext
  split
  · exact State.keepsLocks_after (State.startWrite_keepsLocks _ _) (State.keepsLocks_of_bands rfl)
  · exact State.keepsLocks_ite s.recover_keepsLocks s.enterDormant_keepsLocks

theorem State.startFlush_keepsLocks (s : State) : s.keepsLocks s.startFlush :=
  State.keepsLocks_after (State.flushNext_keepsLocks _) (State.keepsLocks_of_bands rfl)

theorem State.takePfw_keepsLocks (s : State) : s.keepsLocks s.takePfw := by
  unfold State.takePfw
  split
  · exact s.startFlush_keepsLocks
  · exact State.keepsLocks_of_bands rfl
  · exact s.enterDormant_keepsLocks
  all_goals exact s.keepsLocks_refl

theorem State.dropPfw_keepsLocks (s : State) : s.keepsLocks s.dropPfw := by
  unfold State.dropPfw
  split <;> exact State.keepsLocks_of_bands rfl

/-- A good completion clears a suspect mark and touches no entry. -/
theorem State.completeGood_keepsLocks (s : State) (w : Write) : s.keepsLocks (s.completeGood w) := by
  have entries : (s.bands.cleared w.record).entries = s.bands.entries := by
    unfold BandTable.cleared
    split <;> rfl
  intro k locked
  rw [(s.completeGood_written w).bands, entries]
  exact locked

theorem State.completeFault_keepsLocks (s : State) (w : Write) : s.keepsLocks (s.completeFault w) := by
  have offline (x : State) : x.keepsLocks (x.goOffline w.record) :=
    State.keepsLocks_after (State.keepsLocks_of_changesOnly (State.releaseVolatile_changesOnly _) (by decide))
      (State.keepsLocks_of_bands rfl)
  unfold State.completeFault
  dsimp only
  split
  · exact State.keepsLocks_ite (State.keepsLocks_of_bands rfl) (State.keepsLocks_of_bands rfl)
  · exact State.keepsLocks_after (offline _) (State.keepsLocks_of_bands rfl)

theorem State.afterWrite_keepsLocks (s : State) (before : Store) : s.keepsLocks (s.afterWrite before) := by
  have next : s.keepsLocks s.nextWrite := State.keepsLocks_of_changesOnly s.nextWrite_changesOnly (by decide)
  unfold State.afterWrite
  refine State.keepsLocks_ite (s.beginReset_keepsLocks _ _) ?_
  split
  · exact State.keepsLocks_ite (State.keepsLocks_ite s.keepsLocks_refl s.enterDormant_keepsLocks)
      (State.keepsLocks_ite s.enterDormant_keepsLocks s.parkCheck_keepsLocks)
  · exact s.flushNext_keepsLocks
  all_goals
    exact State.keepsLocks_ite s.startFlush_keepsLocks (State.keepsLocks_after (State.parkCheck_keepsLocks _) next)

theorem State.writeDone_keepsLocks (s : State) (w : Write) (faulted : Bool) : s.keepsLocks (s.writeDone w faulted) :=
  State.keepsLocks_after (State.afterWrite_keepsLocks _ _)
    (State.keepsLocks_ite (s.completeFault_keepsLocks w) (s.completeGood_keepsLocks w))

/-! ## The end of a reset (R190) -/

theorem State.startUp_keepsLocks (s : State) : s.keepsLocks s.startUp := by
  have timed : s.keepsLocks { s with meter := { s.meter with timer := some periodMs } } := State.keepsLocks_of_bands rfl
  exact State.keepsLocks_ite (State.keepsLocks_after (State.takePfw_keepsLocks _) timed) timed

theorem State.resumeRetained_keepsLocks (s : State) : s.keepsLocks s.resumeRetained := by
  have rewritten (x : State) : x.keepsLocks x.rewriteAll :=
    State.keepsLocks_after (State.keepsLocks_of_changesOnly (State.startIfReady_changesOnly _) (by decide))
      (State.keepsLocks_of_bands rfl)
  have observed (x : State) : x.keepsLocks x.reportObserved :=
    State.keepsLocks_foldl
      (fun y i => State.keepsLocks_of_changesOnly (y.report_changesOnly (accountPair i .unobserved) false none)
        (by decide)) _ x
  have settled : s.keepsLocks s.settleTimebase :=
    State.keepsLocks_of_changesOnly s.settleTimebase_changesOnly (by decide)
  unfold State.resumeRetained
  dsimp only
  refine State.keepsLocks_after (State.startUp_keepsLocks _) (State.keepsLocks_after (rewritten _) ?_)
  refine State.keepsLocks_after (State.keepsLocks_of_changesOnly (State.flagOpen_changesOnly _ _) (by decide))
    (State.keepsLocks_after (State.resumeQualifier_keepsLocks _) ?_)
  exact State.keepsLocks_after (observed _) (State.keepsLocks_after (State.keepsLocks_of_bands rfl) settled)

/-- A bad check keeps the bands too (R190). -/
theorem State.finishReset_keepsLocks (s : State) (r : ResetInProgress) (retentionGood recordGood : Bool) (cycles : Nat)
    (straps : Straps) : s.keepsLocks (s.finishReset r retentionGood recordGood cycles straps) := by
  have resumed (kind : ResetKind) (lost : Bool) (time : Nat) : s.keepsLocks
      (((s.leaveReset cycles straps).recordReset kind lost recordGood time).resumeRetained) :=
    State.keepsLocks_after (State.resumeRetained_keepsLocks _) (State.keepsLocks_of_bands rfl)
  unfold State.finishReset
  dsimp only
  split
  · exact State.keepsLocks_of_bands rfl
  all_goals exact State.keepsLocks_ite (resumed _ _ _) (State.keepsLocks_of_bands rfl)

/-! ## Requests -/

theorem Answer.conclude_keepsLocks (slot : SlotIx) (kind : Byte) (ops : List Byte) (a : Answer) :
    a.state.keepsLocks (a.conclude slot kind ops) := by
  cases a with
  | atOnce s o payload => exact State.keepsLocks_of_changesOnly (s.offer_changesOnly _ _ _ _) (by decide)
  | deferred s waits payload => exact State.keepsLocks_of_bands rfl
  | resetting s => exact State.keepsLocks_of_changesOnly (s.offer_changesOnly _ _ _ _) (by decide)

theorem State.handleRead_keepsLocks (s : State) (slot : SlotIx) (r : Region) (n : Nat) :
    s.keepsLocks (s.handleRead slot r n).state := by
  unfold State.handleRead
  split <;> exact State.keepsLocks_of_bands rfl

theorem State.handleNext_keepsLocks (s : State) (slot : SlotIx) : s.keepsLocks (s.handleNext slot).state := by
  unfold State.handleNext
  split
  · exact s.keepsLocks_refl
  · split <;> exact State.keepsLocks_of_bands rfl

theorem State.openIn_keepsLocks (s : State) (slot : Fin 24) (renter : List Byte) (tariff : Byte) :
    s.keepsLocks (s.openIn slot renter tariff).state := by
  unfold State.openIn
  dsimp only
  rw [Answer.state_durable]
  exact State.keepsLocks_after (State.hand_keepsLocks _ _)
    (State.keepsLocks_after (State.hand_keepsLocks _ _) (State.keepsLocks_of_bands rfl))

theorem State.handleOpenRental_keepsLocks (s : State) (renter : List Byte) (tariff : Byte) :
    s.keepsLocks (s.handleOpenRental renter tariff).state := by
  have reclaimed (e : LogEntry) : s.keepsLocks (s.reclaim e) :=
    State.keepsLocks_ite (State.keepsLocks_of_bands rfl) (State.keepsLocks_of_bands rfl)
  unfold State.handleOpenRental
  split
  · exact s.keepsLocks_refl
  · split
    · exact s.openIn_keepsLocks _ _ _
    · split
      · exact State.keepsLocks_after (State.openIn_keepsLocks _ _ _ _) (reclaimed _)
      · exact s.keepsLocks_refl

/-- A segment changed in the log, LOG_NEAR_FULL evaluated and the slot record handed. -/
theorem State.modifySegment_hand_keepsLocks (s : State) (slot : Fin 24) (f : Segment → Segment) :
    s.keepsLocks ((s.modifySegment slot f).evalNearFull.hand (.slot slot)) :=
  State.keepsLocks_after (State.hand_keepsLocks_after _ (State.evalNearFull_changesOnly _) (by decide))
    (State.keepsLocks_of_bands rfl)

theorem State.handleCloseRental_keepsLocks (s : State) : s.keepsLocks s.handleCloseRental.state := by
  unfold State.handleCloseRental
  split
  · exact s.keepsLocks_refl
  · rw [Answer.state_durable]
    exact s.modifySegment_hand_keepsLocks _ _

theorem State.handleMarkExported_keepsLocks (s : State) (number : Nat) :
    s.keepsLocks (s.handleMarkExported number).state := by
  unfold State.handleMarkExported
  split
  · exact s.keepsLocks_refl
  · split
    case h_4 =>
      rw [Answer.state_durable]
      exact s.modifySegment_hand_keepsLocks _ _
    all_goals exact s.keepsLocks_refl

theorem State.handleAckAlert_keepsLocks (s : State) (source cause : Nat) :
    s.keepsLocks (s.handleAckAlert source cause).state := by
  unfold State.handleAckAlert
  split
  · dsimp only
    split
    · split <;> exact State.keepsLocks_of_bands rfl
    · exact s.keepsLocks_refl
  · exact s.keepsLocks_refl

theorem State.handleServiceReset_keepsLocks (s : State) (account : Nat) :
    s.keepsLocks (s.handleServiceReset account).state := by
  cases owner : accountOf account with
  | none =>
    unfold State.handleServiceReset
    rw [owner]
    exact s.keepsLocks_refl
  | some i =>
    by_cases normal : (s.account i).state = .normal
    · rw [State.handleServiceReset_normal owner normal, Answer.state_durable]
      exact State.hand_keepsLocks_after _ (s.serviceStarted_changesOnly i) (by decide)
    · rw [State.handleServiceReset_refused owner normal]
      exact s.keepsLocks_refl

theorem State.handleRestoreField_keepsLocks (s : State) (account field value : Nat) :
    s.keepsLocks (s.handleRestoreField account field value).state := by
  unfold State.handleRestoreField
  split
  · exact s.keepsLocks_refl
  · split
    · split
      · exact s.keepsLocks_refl
      · exact State.keepsLocks_of_changesOnly (s.fieldEntered_changesOnly _ field value) (by decide)
    · exact s.keepsLocks_refl

theorem State.handleRestoreDone_keepsLocks (s : State) (account : Nat) :
    s.keepsLocks (s.handleRestoreDone account).state := by
  unfold State.handleRestoreDone
  split
  · exact s.keepsLocks_refl
  · split
    · exact s.keepsLocks_refl
    · dsimp only
      rw [Answer.state_durable]
      refine State.keepsLocks_after (State.hand_keepsLocks _ _)
        (State.keepsLocks_after (State.keepsLocks_of_changesOnly (State.setRestore_changesOnly _ _) (by decide)) ?_)
      refine State.keepsLocks_after
        (State.keepsLocks_of_changesOnly (State.raiseSnapshot_changesOnly _ _) (by decide)) ?_
      exact State.keepsLocks_after (State.keepsLocks_of_changesOnly (State.evalThresholds_changesOnly _ _) (by decide))
        (State.keepsLocks_of_bands rfl)

theorem State.handleWriteSetting_keepsLocks (s : State) (id account raw : Nat) :
    s.keepsLocks (s.handleWriteSetting id account raw).state := by
  unfold State.handleWriteSetting
  split
  · split
    · exact s.keepsLocks_refl
    · next i _ =>
      unfold State.writeAccount
      split
      · exact s.keepsLocks_refl
      · next a _ =>
        dsimp only
        rw [Answer.state_durable]
        exact State.hand_keepsLocks_after _ (s.accountWritten_changesOnly i id a) (by decide)
  · unfold State.writeDevice
    split
    · exact s.keepsLocks_refl
    · rw [Answer.state_durable]
      exact State.keepsLocks_after (State.hand_keepsLocks_after _ (State.applySetting_changesOnly _ _) (by decide))
        (State.keepsLocks_of_bands rfl)

theorem State.handleCheckpoint_keepsLocks (s : State) : s.keepsLocks s.handleCheckpoint.state := by
  unfold State.handleCheckpoint
  split
  · exact s.keepsLocks_refl
  · split <;> exact s.keepsLocks_refl
  all_goals
    split
    · exact s.keepsLocks_refl
    · exact s.bulkEnqueue_keepsLocks _

theorem State.handleResetDevice_keepsLocks (s : State) : s.keepsLocks s.handleResetDevice.state := by
  unfold State.handleResetDevice
  split <;> exact State.keepsLocks_of_bands rfl

theorem State.handle_keepsLocks (s : State) (slot : SlotIx) (q : Request) : s.keepsLocks (s.handle slot q).state := by
  cases q with
  | status => exact s.keepsLocks_refl
  | read r n => exact s.handleRead_keepsLocks slot r n
  | next => exact s.handleNext_keepsLocks slot
  | openRental renter tariff => exact s.handleOpenRental_keepsLocks renter tariff
  | closeRental => exact s.handleCloseRental_keepsLocks
  | markExported number => exact s.handleMarkExported_keepsLocks number
  | ackAlert source cause => exact s.handleAckAlert_keepsLocks source cause
  | serviceReset account => exact s.handleServiceReset_keepsLocks account
  | restoreField account field value => exact s.handleRestoreField_keepsLocks account field value
  | restoreDone account => exact s.handleRestoreDone_keepsLocks account
  | bandPrimary entry metric low high => exact s.handleBandPrimary_keepsLocks entry metric low high
  | bandSecondary entry metric low high => exact s.handleBandSecondary_keepsLocks entry metric low high
  | bandWeight entry account cls bin weight enabled =>
    exact s.handleBandWeight_keepsLocks entry account cls bin weight enabled
  | bandLock entry => exact s.handleBandLock_keepsLocks entry
  | writeSetting id account raw => exact s.handleWriteSetting_keepsLocks id account raw
  | checkpoint => exact s.handleCheckpoint_keepsLocks
  | resetDevice => exact s.handleResetDevice_keepsLocks

theorem State.decideRequest_keepsLocks (s : State) (slot : SlotIx) (kind : Byte) (ops : List Byte) :
    s.keepsLocks (s.decideRequest slot kind ops).state := by
  unfold State.decideRequest
  split
  · exact s.keepsLocks_refl
  · split
    · exact s.keepsLocks_refl
    · split
      · exact s.keepsLocks_refl
      · exact s.handle_keepsLocks slot _

theorem State.takeRequest_keepsLocks (s : State) (slot : SlotIx) (kind : Byte) (ops : List Byte) :
    s.keepsLocks (s.takeRequest slot kind ops) := by
  unfold State.takeRequest
  split
  · exact State.keepsLocks_ite (State.keepsLocks_of_bands rfl) (State.keepsLocks_of_bands rfl)
  · exact State.keepsLocks_after (Answer.conclude_keepsLocks slot kind ops _)
      (State.keepsLocks_after (State.decideRequest_keepsLocks _ slot kind ops) (State.keepsLocks_of_bands rfl))

theorem State.takeRequestData_keepsLocks (s : State) (slot : SlotIx) (data : List Byte) :
    s.keepsLocks (s.takeRequestData slot data) := by
  cases data with
  | nil => exact s.takeRequest_keepsLocks slot _ _
  | cons kind ops => exact s.takeRequest_keepsLocks slot kind ops

theorem State.observationFrame_keepsLocks (s : State) (id : CanId) (data : List Byte) :
    s.keepsLocks (s.observationFrame id data) := by
  refine s.hearFrame_keepsLocks fun x => ?_
  unfold State.routeFrame
  split
  · exact x.takeRequestData_keepsLocks _ data
  · exact State.keepsLocks_after (State.decode_keepsLocks _ _ data) (State.keepsLocks_of_bands rfl)
  · exact x.keepsLocks_refl

/-! ## Commands (R58) -/

theorem State.checkpointEnqueue_keepsLocks (s : State) (rs : List RecordId) :
    s.keepsLocks (s.checkpointEnqueue rs) := by
  unfold State.checkpointEnqueue
  split
  · exact s.bulkEnqueue_keepsLocks rs
  · exact s.bulkEnqueue_keepsLocks rs
  all_goals exact s.keepsLocks_refl

theorem State.sendFrame_keepsLocks (s : State) (f : Frame) (rest : List Frame) : s.keepsLocks (s.sendFrame f rest) := by
  have given (x : State) : x.keepsLocks x.givePlace := by
    unfold State.givePlace
    split
    · split <;> exact State.keepsLocks_of_bands rfl
    · exact x.keepsLocks_refl
  have reset (x : State) : x.keepsLocks x.commandReset := by
    unfold State.commandReset
    split <;> exact State.keepsLocks_of_bands rfl
  have sent : s.keepsLocks (State.givePlace { s with port := { s.port with tx := rest } }) :=
    State.keepsLocks_after (given _) (State.keepsLocks_of_bands rfl)
  exact State.keepsLocks_ite (State.keepsLocks_after (reset _) sent) sent

/-- A frame leaves every lock, whatever it carries. -/
theorem exec_frame_keepsLocks {c : Instr} {s t : State} (frame : isFrame c = true) (h : exec c s = .next t) :
    s.keepsLocks t := by
  cases request : requestOf c with
  | some r =>
    obtain ⟨slot, kind, ops⟩ := r
    rw [exec_request request] at h
    cases h
    exact s.hearFrame_keepsLocks fun x => x.takeRequest_keepsLocks slot kind ops
  | none =>
    cases c
    case unknownRequest slot data =>
      cases h
      exact s.hearFrame_keepsLocks fun x => x.takeRequestData_keepsLocks slot data
    case engineState id data => cases h; exact s.observationFrame_keepsLocks id data
    case drivelineState id data => cases h; exact s.observationFrame_keepsLocks id data
    case drivelineEvent id data => cases h; exact s.observationFrame_keepsLocks id data
    case wakeFrame => cases h; exact s.hearFrame_keepsLocks fun x => x.keepsLocks_refl
    all_goals simp [isFrame, requestOf] at frame request

/-- Every command but a cold reset and the end of a load leaves every lock. -/
theorem exec_keepsLocks {c : Instr} {s t : State} (load : c ≠ .loadEnd)
    (cold : ∀ straps cycles, c ≠ .coldReset straps cycles) (h : exec c s = .next t) : s.keepsLocks t := by
  have same : s.keepsLocks s := s.keepsLocks_refl
  by_cases frame : isFrame c = true
  · exact exec_frame_keepsLocks frame h
  cases c
  case loadEnd => exact absurd rfl load
  case coldReset straps cycles => exact absurd rfl (cold straps cycles)
  case signalHeld n => cases h; exact State.keepsLocks_ite (s.passHeld_keepsLocks n) same
  case signalUnknown n =>
    cases h
    exact State.keepsLocks_ite (State.keepsLocks_of_changesOnly (s.passUnknown_changesOnly n _) (by decide)) same
  case meteringExpiry =>
    cases h
    exact State.keepsLocks_ite
      (State.keepsLocks_after (State.meteringPass_keepsLocks _) (State.keepsLocks_of_bands rfl)) same
  case crankChange asserted =>
    cases h
    exact State.keepsLocks_ite same
      (State.keepsLocks_ite (s.crankLine_keepsLocks asserted) (State.keepsLocks_of_bands rfl))
  case crankWindowExpiry =>
    cases h
    exact State.keepsLocks_ite (State.keepsLocks_of_changesOnly s.windowExpiry_changesOnly (by decide)) same
  case confirmExpiry =>
    cases h
    exact State.keepsLocks_ite (State.keepsLocks_of_changesOnly s.confirmDone_changesOnly (by decide)) same
  case stopTimerExpiry => cases h; exact State.keepsLocks_ite s.stopDone_keepsLocks same
  case ignAsserted =>
    cases h
    exact State.keepsLocks_ite same (State.keepsLocks_ite
      (State.keepsLocks_after (State.wake_keepsLocks _) (State.keepsLocks_of_bands rfl))
      (State.keepsLocks_of_bands rfl))
  case keyOff =>
    cases h
    have enqueued := State.keepsLocks_after (s := s)
      (State.checkpointEnqueue_keepsLocks { s with lines := { s.lines with ign := false } } allRecords)
      (State.keepsLocks_of_bands rfl)
    exact State.keepsLocks_ite (State.keepsLocks_ite
      (State.keepsLocks_after (State.keepsLocks_of_bands rfl) enqueued) (State.keepsLocks_of_bands rfl)) same
  case periodicCheckpoint =>
    cases h
    exact State.keepsLocks_ite
      (State.keepsLocks_after (State.checkpointEnqueue_keepsLocks _ _) (State.keepsLocks_of_bands rfl)) same
  case lingerExpiry =>
    cases h
    split
    · exact State.keepsLocks_after (State.parkCheck_keepsLocks _) (State.keepsLocks_of_bands rfl)
    · exact same
  case writeCompletion faulted =>
    cases h
    split
    · next w _ => exact s.writeDone_keepsLocks w faulted
    · exact same
  case pfwAsserted =>
    cases h
    exact State.keepsLocks_ite same (State.keepsLocks_ite
      (State.keepsLocks_after (State.takePfw_keepsLocks _) (State.keepsLocks_of_bands rfl))
      (State.keepsLocks_of_bands rfl))
  case pfwReleased =>
    cases h
    exact State.keepsLocks_ite (State.keepsLocks_ite (State.keepsLocks_of_bands rfl)
      (State.keepsLocks_ite (State.keepsLocks_of_bands rfl)
        (State.keepsLocks_after (State.dropPfw_keepsLocks _) (State.keepsLocks_of_bands rfl)))) same
  case monitorWindow cycles => cases h; exact State.keepsLocks_ite (s.windowEnd_keepsLocks cycles) same
  case deviceTimeSecond => cases h; exact State.keepsLocks_ite (State.keepsLocks_of_bands rfl) same
  case warmReset dip => cases h; exact s.beginReset_keepsLocks _ _
  case resetEnd retentionGood recordGood cycles straps =>
    cases h
    split
    · exact s.finishReset_keepsLocks _ _ _ _ _
    · exact same
  case transmissionComplete =>
    cases h
    refine State.keepsLocks_ite ?_ same
    split
    · exact s.sendFrame_keepsLocks _ _
    · exact same
  case busOff =>
    cases h
    exact State.keepsLocks_ite (State.keepsLocks_ite
      (State.keepsLocks_after (State.parkCheck_keepsLocks _) (State.keepsLocks_of_bands rfl))
      (State.keepsLocks_of_bands rfl)) same
  case busOffRecovery => cases h; exact State.keepsLocks_ite (State.keepsLocks_of_bands rfl) same
  all_goals exact absurd rfl frame

/-- An edit of a locked entry is refused LOCKED. -/
theorem exec_editLocked {c : Instr} {s : State} {kind : Byte} {ops : List Byte} {q : Request} {k : Fin 16}
    {apply stage : BandEntry → BandEntry} (request : requestOf c = some (3, kind, ops))
    (parsed : parseRequest kind.toNat ops = some q) (hears : s.hears 3) (rest : s.atRest = true)
    (room : s.port.hasRoom = true) (locked : s.bands.entries[k].locked = true)
    (handled : s.restartLinger.handle 3 q = s.restartLinger.editBand k apply stage) :
    exec c s = .next (s.responded 3 kind .locked []) :=
  exec_refused request parsed hears rest room (handled.trans (State.editBand_locked (s := s.restartLinger) locked))

/-- Settles O11: no operation takes a lock off, and each of the three edits looks at the lock first. -/
theorem lockedEntryIsPermanent : Obligations.LockedEntryIsPermanent := by
  refine ⟨fun c s t k load cold locked run => exec_keepsLocks load cold run k locked,
    fun s k locked hears resting room => ?_⟩
  refine ⟨fun m l1 l0 h1 h0 metric known => ⟨?_, ?_⟩, ?_, fun a c b w1 w0 n w spelled => ?_⟩
  · exact exec_editLocked (q := .bandPrimary (byteOf k.val).toNat m.toNat (int16 l1 l0) (int16 h1 h0)) rfl rfl hears
      resting room locked (State.handleBandPrimary_edit _ k _ _ known)
  · exact exec_editLocked rfl (parseBandSecondary_metric known _ _ _ _ _ _) hears resting room locked
      (State.handleBandSecondary_edit _ k (secondaryOf_metric _ _ known))
  · exact exec_editLocked (q := .bandSecondary (byteOf k.val).toNat 255 0 0) rfl rfl hears resting room locked
      (State.handleBandSecondary_edit _ k rfl)
  · exact exec_editLocked
      (q := .bandWeight (byteOf k.val).toNat a.toNat c.toNat b.toNat (nat16 w1 w0) n.toNat) rfl rfl hears resting room
      locked (State.handleBandWeight_edit _ k spelled)

end Sys2Proof.Machine
end

section
/-! PROOFS. The coherence of the store and of the timers (O10): the relation `worksOn` of the operations that leave the mode,
the reset and the running of the two timers as they are and keep the store to what its state says. -/

namespace Sys2Proof.Machine

/-! ## The relations -/

/-- What a store state says of the queue and the write in flight outside a reset (R152); FLUSHING without a write is allowed
where `still` holds, as it does in DORMANT. -/
def Store.fits (st : Store) (still : Prop) : Prop :=
  match st.state with
  | .loading _ => st.inFlight = none
  | .ready | .offline => st.queue = [] ∧ st.inFlight = none
  | .writing => st.inFlight.isSome = true
  | .flushing => st.queue = [] ∧ (st.inFlight.isSome = true ∨ still)

theorem State.storeCoherent_iff {s : State} (outside : s.time.inReset = none) :
    s.storeCoherent ↔ s.store.fits (s.time.mode = .dormant) := by
  unfold State.storeCoherent Store.fits
  rw [outside]
  cases s.store.state <;> rfl

theorem Store.fits_mono {st : Store} {p q : Prop} (h : st.fits p) (weaker : p → q) : st.fits q := by
  unfold Store.fits at h ⊢
  split at h
  · exact h
  · exact h
  · exact h
  · exact h
  · exact ⟨h.1, h.2.imp_right weaker⟩

/-- A store of the same state, queue and presence of a write fits as well. -/
theorem Store.fits_congr {st ts : Store} {still : Prop} (h : st.fits still) (state : ts.state = st.state)
    (queue : ts.queue = st.queue) (flying : ts.inFlight.isSome = st.inFlight.isSome) : ts.fits still := by
  have idle : st.inFlight = none → ts.inFlight = none := fun none_ => by simpa [none_] using flying
  unfold Store.fits at h ⊢
  rw [state]
  split at h
  · exact idle h
  · exact ⟨queue.trans h.1, idle h.2⟩
  · exact ⟨queue.trans h.1, idle h.2⟩
  · exact flying.trans h
  · exact ⟨queue.trans h.1, h.2.imp_left flying.trans⟩

/-- From s to t the mode and the reset stand, and the linger and the metering timer run exactly where they ran. -/
structure State.sameTimers (s t : State) : Prop where
  mode : t.time.mode = s.time.mode
  inReset : t.time.inReset = s.time.inReset
  linger : t.time.linger.isSome = s.time.linger.isSome
  timer : t.meter.timer.isSome = s.meter.timer.isSome

theorem State.sameTimers_trans {s t u : State} (h : s.sameTimers t) (k : t.sameTimers u) : s.sameTimers u :=
  ⟨k.mode.trans h.mode, k.inReset.trans h.inReset, k.linger.trans h.linger, k.timer.trans h.timer⟩

theorem State.sameTimers_of_changesOnly {s t : State} {ps : List Part} (h : s.changesOnly t ps) (time : Part.time ∉ ps)
    (meter : Part.meter ∉ ps) : s.sameTimers t := by
  have sameTime : t.time = s.time := h .time time
  have sameMeter : t.meter = s.meter := h .meter meter
  exact ⟨by rw [sameTime], by rw [sameTime], by rw [sameTime], by rw [sameMeter]⟩

/-- The coherence of the timers rests on nothing else, but for a load that begins. -/
theorem State.sameTimers.coherent {s t : State} (h : s.sameTimers t)
    (loading : t.store.isLoading = true → s.store.isLoading = true) (timers : s.timersCoherent) : t.timersCoherent := by
  obtain ⟨metering, linger, reset, load⟩ := timers
  unfold State.timersCoherent
  rw [h.mode, h.inReset, h.linger, h.timer]
  exact ⟨metering, linger, reset, fun l => load (loading l)⟩

/-- From s to t the timers run where they ran, and the store, LOADING or not as it was, still fits its state. -/
structure State.worksOn (s t : State) : Prop extends s.sameTimers t where
  loading : t.store.isLoading = s.store.isLoading
  store : ∀ still, s.store.fits still → t.store.fits still

theorem State.worksOn_of_store {s t : State} (timers : s.sameTimers t) (store : t.store = s.store) : s.worksOn t :=
  ⟨timers, by rw [store], fun _ h => store ▸ h⟩

theorem State.worksOn_of_same {s t : State} (store : t.store = s.store) (time : t.time = s.time)
    (meter : t.meter = s.meter) : s.worksOn t :=
  State.worksOn_of_store ⟨by rw [time], by rw [time], by rw [time], by rw [meter]⟩ store

theorem State.worksOn_refl (s : State) : s.worksOn s := State.worksOn_of_same rfl rfl rfl

/-- Two operations in succession, the later one given first. -/
theorem State.worksOn_after {s t u : State} (k : t.worksOn u) (h : s.worksOn t) : s.worksOn u :=
  ⟨State.sameTimers_trans h.tosameTimers k.tosameTimers, k.loading.trans h.loading,
    fun still fits => k.store still (h.store still fits)⟩

theorem State.worksOn_ite {s t u : State} {c : Prop} [Decidable c] (h : s.worksOn t) (k : s.worksOn u) :
    s.worksOn (if c then t else u) := by
  split
  · exact h
  · exact k

theorem State.worksOn_foldl {α : Type} {f : State → α → State} (h : ∀ (x : State) (a : α), x.worksOn (f x a))
    (l : List α) (s : State) : s.worksOn (l.foldl f s) := by
  induction l generalizing s with
  | nil => exact s.worksOn_refl
  | cons a l ih => exact State.worksOn_after (ih (f s a)) (h s a)

/-- An operation that only marks leaves the store fitting its state. -/
theorem State.worksOn_of_onlyMarks {s t : State} (marks : s.onlyMarks t) (timers : s.sameTimers t) : s.worksOn t where
  tosameTimers := timers
  loading := by
    unfold Store.isLoading
    rw [marks.state]
  store _ fits := Store.fits_congr fits marks.state marks.queue (by simpa using congrArg Option.isSome marks.inFlight)

/-- An operation that only marks and leaves the Time Base and the Meter. -/
theorem State.worksOn_of_marks {s t : State} {ps : List Part} (marks : s.onlyMarks t) (h : s.changesOnly t ps)
    (time : Part.time ∉ ps) (meter : Part.meter ∉ ps) : s.worksOn t :=
  State.worksOn_of_onlyMarks marks (State.sameTimers_of_changesOnly h time meter)

/-- An operation on other parts than the store, the Time Base and the Meter. -/
theorem State.worksOn_of_changesOnly {s t : State} {ps : List Part} (h : s.changesOnly t ps) (store : Part.store ∉ ps)
    (time : Part.time ∉ ps) (meter : Part.meter ∉ ps) : s.worksOn t :=
  State.worksOn_of_marks (State.onlyMarks_of_changesOnly h store) h time meter

/-! ## Records and writes -/

/-- With nothing in flight the next write begins, or the store is READY. -/
theorem State.nextWrite_fits {s : State} (idle : s.store.inFlight = none) (still : Prop) :
    s.nextWrite.store.fits still := by
  have next := State.nextWrite_store idle
  unfold Store.fits
  split at next
  · obtain ⟨state, none_, empty⟩ := next
    rw [state]
    exact ⟨empty, none_⟩
  · obtain ⟨state, -, w, flying, -⟩ := next
    rw [state, flying]
    rfl

theorem State.nextWrite_isLoading (s : State) : s.nextWrite.store.isLoading = false := by
  unfold State.nextWrite
  split
  · rfl
  · unfold Store.isLoading
    rw [State.startWrite_state]

/-- A READY store with nothing in flight begins what is queued; any other stands as it is (R155). -/
theorem State.startIfReady_fits {s : State} {still : Prop} (ready : s.store.state = .ready → s.store.inFlight = none)
    (other : s.store.state ≠ .ready → s.store.fits still) : s.startIfReady.store.fits still := by
  unfold State.startIfReady
  split
  · next state => exact State.nextWrite_fits (ready state) still
  all_goals
    next state =>
    exact other (by rw [state]; simp)

theorem State.startIfReady_isLoading (s : State) : s.startIfReady.store.isLoading = s.store.isLoading := by
  unfold State.startIfReady
  split
  · next state =>
    rw [State.nextWrite_isLoading, Store.isLoading, state]
  all_goals rfl

/-- A store that takes appended records, with any queue, begins what it can and fits its state (R155). -/
theorem State.queued_worksOn (s : State) (queue : List RecordId)
    (takes : s.store.state ≠ .flushing ∧ s.store.state ≠ .offline) :
    s.worksOn (State.startIfReady { s with store := { s.store with queue := queue } }) where
  tosameTimers := State.sameTimers_of_changesOnly (State.changesOnly_trans (ps := [.accounts, .store, .engine])
    (by intro p hp; cases p <;> first | rfl | simp at hp) (State.startIfReady_changesOnly _)) (by decide) (by decide)
  loading := State.startIfReady_isLoading _
  store still fits := by
    obtain ⟨flushing, offline⟩ := takes
    unfold Store.fits at fits
    refine State.startIfReady_fits (fun ready => ?_) fun other => ?_
    · rw [show s.store.state = .ready from ready] at fits
      exact fits.2
    · unfold Store.fits
      dsimp only at other ⊢
      cases state : s.store.state <;> simp_all

/-- Handing marks the record, and appends it where the store takes records (R151, R155). -/
theorem State.hand_worksOn (s : State) (r : RecordId) : s.worksOn (s.hand r) := by
  have marked : s.worksOn (s.markRecord r) :=
    State.worksOn_of_marks (s.markRecord_onlyMarks r) (s.markRecord_changesOnly r) (by decide) (by decide)
  have queued (takes : s.store.state ≠ .flushing ∧ s.store.state ≠ .offline) :
      s.worksOn (State.startIfReady { s.markRecord r with store := (s.markRecord r).store.append r }) := by
    unfold Store.append
    split
    · exact State.worksOn_after (State.queued_worksOn (s.markRecord r) (s.markRecord r).store.queue takes) marked
    · exact State.worksOn_after (State.queued_worksOn _ _ takes) marked
  unfold State.hand
  dsimp only
  split
  · exact marked
  · exact marked
  all_goals
    next state =>
    exact queued (by rw [show s.store.state = _ from state]; simp)

/-- A bulk enqueue, where the store takes records (R155). -/
theorem State.bulkEnqueue_worksOn (s : State) (rs : List RecordId)
    (takes : s.store.state ≠ .flushing ∧ s.store.state ≠ .offline) : s.worksOn (s.bulkEnqueue rs) :=
  s.queued_worksOn _ takes

/-! ## The Start Qualifier and Signal Intake -/

theorem State.evalThresholds_worksOn (s : State) (i : AccountIx) : s.worksOn (s.evalThresholds i) :=
  State.worksOn_of_changesOnly (s.evalThresholds_changesOnly i) (by decide) (by decide) (by decide)

theorem State.report_worksOn (s : State) (p : AlertPair) (v : Bool) (param : Option Byte) :
    s.worksOn (s.report p v param) :=
  State.worksOn_of_changesOnly (s.report_changesOnly p v param) (by decide) (by decide) (by decide)

theorem State.evalNearFull_worksOn (s : State) : s.worksOn s.evalNearFull :=
  State.worksOn_of_changesOnly s.evalNearFull_changesOnly (by decide) (by decide) (by decide)

theorem State.reformCrank_worksOn (s : State) : s.worksOn s.reformCrank :=
  State.worksOn_of_marks s.reformCrank_onlyMarks s.reformCrank_changesOnly (by decide) (by decide)

theorem State.crankLine_worksOn (s : State) (asserted : Bool) : s.worksOn (s.crankLine asserted) := by
  have formed : s.worksOn (State.reformCrank { s with lines := { s.lines with crank := asserted } }) :=
    State.worksOn_after (State.reformCrank_worksOn _) (State.worksOn_of_same rfl rfl rfl)
  have triggered (x : State) : x.worksOn x.crankTrigger :=
    State.worksOn_of_marks x.crankTrigger_onlyMarks x.crankTrigger_changesOnly (by decide) (by decide)
  exact State.worksOn_ite (State.worksOn_after (triggered _) formed) formed

theorem State.stopDone_worksOn (s : State) : s.worksOn s.stopDone := by
  unfold State.stopDone
  split <;> exact State.worksOn_of_same rfl rfl rfl

theorem State.stopQualifier_worksOn (s : State) : s.worksOn s.stopQualifier :=
  State.worksOn_of_changesOnly s.stopQualifier_changesOnly (by decide) (by decide) (by decide)

theorem State.passHeld_worksOn (s : State) (n : SignalName) : s.worksOn (s.passHeld n) := by
  unfold State.passHeld
  split <;> exact State.worksOn_of_same rfl rfl rfl

theorem State.passUnknown_worksOn (s : State) (n : SignalName) (age : Nat) : s.worksOn (s.passUnknown n age) :=
  State.worksOn_of_marks (s.passUnknown_onlyMarks n age) (s.passUnknown_changesOnly n age) (by decide) (by decide)

theorem State.intakeParked_worksOn (s : State) : s.worksOn s.intakeParked := by
  have passed : s.worksOn (signalNames.foldl (fun x n => x.passUnknown n (x.intake.ageing n).age) s) :=
    State.worksOn_foldl (fun x n => x.passUnknown_worksOn n _) _ s
  have dropped (x : State) : x.worksOn { x with intake := x.intake.dropBaselines } :=
    State.worksOn_of_same rfl rfl rfl
  exact State.worksOn_after (dropped _) passed

theorem State.postCounted_worksOn (s : State) (i : AccountIx) (n : Nat) : s.worksOn (s.postCounted i n) :=
  State.worksOn_ite s.worksOn_refl
    (State.worksOn_of_marks (s.postEvents_onlyMarks i n _) (s.postEvents_changesOnly i n _) (by decide) (by decide))

theorem State.decode_worksOn (s : State) (f : ObsFormat) (data : List Byte) : s.worksOn (s.decode f data) := by
  have taken (x : Intake) : s.worksOn { s with intake := x } := State.worksOn_of_same rfl rfl rfl
  have updated (x : State) : x.worksOn x.speedUpdate :=
    State.worksOn_of_marks x.speedUpdate_onlyMarks x.speedUpdate_changesOnly (by decide) (by decide)
  cases f with
  | engineState =>
    show s.worksOn (s.decodeEngine data)
    unfold State.decodeEngine
    split
    · exact State.worksOn_ite
        (State.worksOn_after (updated _) (State.worksOn_after (State.reformCrank_worksOn _) (taken _))) (taken _)
    · exact s.worksOn_refl
  | drivelineState =>
    show s.worksOn (s.decodeDriveline data)
    unfold State.decodeDriveline
    split
    · exact taken _
    · exact s.worksOn_refl
  | drivelineEvent =>
    show s.worksOn (s.decodeEvent data)
    unfold State.decodeEvent
    split
    · exact State.worksOn_after (State.postCounted_worksOn _ _ _)
        (State.worksOn_after (State.postCounted_worksOn _ _ _) (taken _))
    · exact s.worksOn_refl

/-! ## The metering pass and the time base -/

theorem State.activateBand_worksOn (s : State) (k : Fin 16) : s.worksOn (s.activateBand k) :=
  State.worksOn_ite (State.worksOn_after (State.hand_worksOn _ _) (State.worksOn_of_same rfl rfl rfl)) s.worksOn_refl

theorem State.meteringPass_worksOn (s : State) : s.worksOn s.meteringPass := by
  have activated : s.worksOn s.activateStaged := State.worksOn_foldl State.activateBand_worksOn _ s
  have meter : s.activateStaged.meter = s.meter := s.activateStaged_changesOnly .meter (by decide)
  have time : s.meteringPass.time = s.activateStaged.time :=
    s.meteringPass_changes_after_activation .time (by decide)
  refine State.worksOn_after (State.worksOn_of_onlyMarks s.meteringPass_marks_after_activation ?_) activated
  exact ⟨by rw [time], by rw [time], by rw [time], by rw [s.meteringPass_timer, meter]⟩

theorem State.clearUnobserved_worksOn (s : State) (i : AccountIx) : s.worksOn (s.clearUnobserved i) := by
  have rest := s.clearUnobserved_changesOnly i
  have time : (s.clearUnobserved i).time = s.time := rest .time (by decide)
  exact State.worksOn_of_store ⟨by rw [time], by rw [time], by rw [time], by rw [s.clearUnobserved_timer i]⟩
    (rest .store (by decide))

theorem State.reportTimebase_worksOn (s : State) (v : Bool) : s.worksOn (s.reportTimebase v) := by
  refine State.worksOn_ite s.worksOn_refl (State.worksOn_after (State.report_worksOn _ _ v none) ?_)
  exact State.worksOn_of_store ⟨rfl, rfl, rfl, rfl⟩ rfl

theorem State.flagOpen_worksOn (s : State) (f : SegmentFlags → SegmentFlags) : s.worksOn (s.flagOpen f) :=
  State.worksOn_of_marks (s.flagOpen_onlyMarks f) (s.flagOpen_changesOnly f) (by decide) (by decide)

theorem State.timebaseBad_worksOn (s : State) : s.worksOn s.timebaseBad :=
  State.worksOn_after (State.flagOpen_worksOn _ _) (s.reportTimebase_worksOn true)

theorem State.settleTimebase_worksOn (s : State) : s.worksOn s.settleTimebase := by
  unfold State.settleTimebase
  split
  · exact s.timebaseBad_worksOn
  · exact s.reportTimebase_worksOn false
  all_goals exact s.worksOn_refl

theorem State.windowEnd_worksOn (s : State) (cycles : Nat) : s.worksOn (s.windowEnd cycles) := by
  have selected (v : Selection) (n : Nat) : s.worksOn (s.setSelection v n) :=
    State.worksOn_of_store ⟨rfl, rfl, rfl, rfl⟩ rfl
  unfold State.windowEnd
  split
  · exact s.worksOn_refl
  · exact State.worksOn_ite (selected _ _) (State.worksOn_after (State.timebaseBad_worksOn _) (selected _ _))
  · exact State.worksOn_ite (selected _ _) (State.worksOn_after (State.reportTimebase_worksOn _ _) (selected _ _))
  · exact selected _ _

/-! ## Requests -/

theorem Answer.conclude_worksOn (slot : SlotIx) (kind : Byte) (ops : List Byte) (a : Answer) :
    a.state.worksOn (a.conclude slot kind ops) := by
  have offered (s : State) (f : Frame) : s.worksOn (s.offer slot kind ops f) :=
    State.worksOn_of_changesOnly (s.offer_changesOnly slot kind ops f) (by decide) (by decide) (by decide)
  cases a with
  | atOnce s o payload => exact offered s _
  | deferred s waits payload => exact State.worksOn_of_same rfl rfl rfl
  | resetting s => exact offered s _

theorem State.handleRead_worksOn (s : State) (slot : SlotIx) (r : Region) (n : Nat) :
    s.worksOn (s.handleRead slot r n).state := by
  unfold State.handleRead
  split <;> exact State.worksOn_of_same rfl rfl rfl

theorem State.handleNext_worksOn (s : State) (slot : SlotIx) : s.worksOn (s.handleNext slot).state := by
  unfold State.handleNext
  split
  · exact s.worksOn_refl
  · split <;> exact State.worksOn_of_same rfl rfl rfl

theorem State.openIn_worksOn (s : State) (slot : Fin 24) (renter : List Byte) (tariff : Byte) :
    s.worksOn (s.openIn slot renter tariff).state := by
  unfold State.openIn
  dsimp only
  rw [Answer.state_durable]
  exact State.worksOn_after (State.hand_worksOn _ _)
    (State.worksOn_after (State.hand_worksOn _ _) (State.worksOn_of_same rfl rfl rfl))

theorem State.handleOpenRental_worksOn (s : State) (renter : List Byte) (tariff : Byte) :
    s.worksOn (s.handleOpenRental renter tariff).state := by
  have reclaimed (e : LogEntry) : s.worksOn (s.reclaim e) :=
    State.worksOn_ite (State.worksOn_of_same rfl rfl rfl) (State.worksOn_of_same rfl rfl rfl)
  unfold State.handleOpenRental
  split
  · exact s.worksOn_refl
  · split
    · exact s.openIn_worksOn _ _ _
    · split
      · exact State.worksOn_after (State.openIn_worksOn _ _ _ _) (reclaimed _)
      · exact s.worksOn_refl

/-- A segment changed in the log, LOG_NEAR_FULL evaluated and the slot record handed. -/
theorem State.modifySegment_hand_worksOn (s : State) (slot : Fin 24) (f : Segment → Segment) :
    s.worksOn ((s.modifySegment slot f).evalNearFull.hand (.slot slot)) :=
  State.worksOn_after (State.hand_worksOn _ _)
    (State.worksOn_after (State.evalNearFull_worksOn _) (State.worksOn_of_same rfl rfl rfl))

theorem State.handleCloseRental_worksOn (s : State) : s.worksOn s.handleCloseRental.state := by
  unfold State.handleCloseRental
  split
  · exact s.worksOn_refl
  · rw [Answer.state_durable]
    exact s.modifySegment_hand_worksOn _ _

theorem State.handleMarkExported_worksOn (s : State) (number : Nat) :
    s.worksOn (s.handleMarkExported number).state := by
  unfold State.handleMarkExported
  split
  · exact s.worksOn_refl
  · split
    case h_4 =>
      rw [Answer.state_durable]
      exact s.modifySegment_hand_worksOn _ _
    all_goals exact s.worksOn_refl

theorem State.handleAckAlert_worksOn (s : State) (source cause : Nat) :
    s.worksOn (s.handleAckAlert source cause).state := by
  unfold State.handleAckAlert
  split
  · dsimp only
    split
    · split <;> exact State.worksOn_of_same rfl rfl rfl
    · exact s.worksOn_refl
  · exact s.worksOn_refl

theorem State.handleServiceReset_worksOn (s : State) (account : Nat) :
    s.worksOn (s.handleServiceReset account).state := by
  unfold State.handleServiceReset
  split
  · exact s.worksOn_refl
  · next i _ =>
    split
    · dsimp only
      rw [Answer.state_durable]
      exact State.worksOn_after (State.hand_worksOn _ _) (State.worksOn_of_marks (s.serviceStarted_onlyMarks i)
        (s.serviceStarted_changesOnly i) (by decide) (by decide))
    · exact s.worksOn_refl

theorem State.handleRestoreField_worksOn (s : State) (account field value : Nat) :
    s.worksOn (s.handleRestoreField account field value).state := by
  unfold State.handleRestoreField
  split
  · exact s.worksOn_refl
  · next i _ =>
    split
    · split
      · exact s.worksOn_refl
      · rw [Answer.state_atOnce]
        exact State.worksOn_of_marks
          (State.onlyMarks_trans (s.setRestore_onlyMarks _) (State.changeAccount_onlyMarks _ i _))
          (s.fieldEntered_changesOnly i field value) (by decide) (by decide)
    · exact s.worksOn_refl

theorem State.handleRestoreDone_worksOn (s : State) (account : Nat) :
    s.worksOn (s.handleRestoreDone account).state := by
  unfold State.handleRestoreDone
  split
  · exact s.worksOn_refl
  · next i _ =>
    split
    · exact s.worksOn_refl
    · next b _ =>
      dsimp only
      rw [Answer.state_durable]
      exact State.worksOn_after (State.hand_worksOn _ _) (State.worksOn_of_marks (s.restoreClosed_onlyMarks i b.fields)
        (s.restoreClosed_changesOnly i b.fields) (by decide) (by decide))

theorem State.putBand_worksOn (s : State) (k : Fin 16) (e : BandEntry) : s.worksOn (s.putBand k e).state := by
  unfold State.putBand
  rw [Answer.state_durable]
  exact State.worksOn_after (State.hand_worksOn _ _) (State.worksOn_of_same rfl rfl rfl)

theorem State.editBand_worksOn (s : State) (k : Fin 16) (apply stage : BandEntry → BandEntry) :
    s.worksOn (s.editBand k apply stage).state := by
  unfold State.editBand
  dsimp only
  split
  · exact s.worksOn_refl
  · exact s.putBand_worksOn _ _

theorem State.handleBandPrimary_worksOn (s : State) (entry metric : Nat) (low high : Int) :
    s.worksOn (s.handleBandPrimary entry metric low high).state := by
  unfold State.handleBandPrimary
  split
  · exact s.editBand_worksOn _ _ _
  · exact s.worksOn_refl

theorem State.handleBandSecondary_worksOn (s : State) (entry metric : Nat) (low high : Int) :
    s.worksOn (s.handleBandSecondary entry metric low high).state := by
  unfold State.handleBandSecondary
  split
  · exact s.editBand_worksOn _ _ _
  · exact s.worksOn_refl

theorem State.handleBandWeight_worksOn (s : State) (entry account cls bin weight enabled : Nat) :
    s.worksOn (s.handleBandWeight entry account cls bin weight enabled).state := by
  unfold State.handleBandWeight
  split
  · exact s.editBand_worksOn _ _ _
  · exact s.worksOn_refl

theorem State.handleBandLock_worksOn (s : State) (entry : Nat) : s.worksOn (s.handleBandLock entry).state := by
  unfold State.handleBandLock
  split
  · exact s.worksOn_refl
  · dsimp only
    split
    · exact s.worksOn_refl
    · split
      · exact s.putBand_worksOn _ _
      · exact s.worksOn_refl

theorem State.applySetting_worksOn (s : State) (id : Nat) : s.worksOn (s.applySetting id) := by
  rcases s.applySetting_cases id with ⟨-, e⟩ | ⟨-, e⟩ | ⟨-, -, -, e⟩ <;> rw [e]
  · exact State.worksOn_of_marks s.reclassifyAll_onlyMarks s.reclassifyAll_changesOnly (by decide) (by decide)
  · exact State.worksOn_of_changesOnly s.reformLatch_changesOnly (by decide) (by decide) (by decide)
  · exact ⟨⟨rfl, rfl, rfl, rfl⟩, rfl, fun _ fits => fits⟩

theorem State.handleWriteSetting_worksOn (s : State) (id account raw : Nat) :
    s.worksOn (s.handleWriteSetting id account raw).state := by
  unfold State.handleWriteSetting
  split
  · split
    · exact s.worksOn_refl
    · next i _ =>
      unfold State.writeAccount
      split
      · exact s.worksOn_refl
      · next a _ =>
        dsimp only
        rw [Answer.state_durable]
        exact State.worksOn_after (State.hand_worksOn _ _) (State.worksOn_of_changesOnly
          (s.accountWritten_changesOnly i id a) (by decide) (by decide) (by decide))
  · unfold State.writeDevice
    split
    · exact s.worksOn_refl
    · rw [Answer.state_durable]
      exact State.worksOn_after (State.hand_worksOn _ _)
        (State.worksOn_after (State.applySetting_worksOn _ _) (State.worksOn_of_same rfl rfl rfl))

/-- A CHECKPOINT enqueues where the store takes records (R158). -/
theorem State.handleCheckpoint_worksOn (s : State) : s.worksOn s.handleCheckpoint.state := by
  unfold State.handleCheckpoint
  split
  · exact s.worksOn_refl
  · split <;> exact s.worksOn_refl
  all_goals
    next state =>
    split
    · exact s.worksOn_refl
    · exact s.bulkEnqueue_worksOn _ (by rw [state]; simp)

theorem State.handleResetDevice_worksOn (s : State) : s.worksOn s.handleResetDevice.state := by
  unfold State.handleResetDevice
  split <;> exact State.worksOn_of_same rfl rfl rfl

theorem State.handle_worksOn (s : State) (slot : SlotIx) (q : Request) : s.worksOn (s.handle slot q).state := by
  cases q with
  | status => exact s.worksOn_refl
  | read r n => exact s.handleRead_worksOn slot r n
  | next => exact s.handleNext_worksOn slot
  | openRental renter tariff => exact s.handleOpenRental_worksOn renter tariff
  | closeRental => exact s.handleCloseRental_worksOn
  | markExported number => exact s.handleMarkExported_worksOn number
  | ackAlert source cause => exact s.handleAckAlert_worksOn source cause
  | serviceReset account => exact s.handleServiceReset_worksOn account
  | restoreField account field value => exact s.handleRestoreField_worksOn account field value
  | restoreDone account => exact s.handleRestoreDone_worksOn account
  | bandPrimary entry metric low high => exact s.handleBandPrimary_worksOn entry metric low high
  | bandSecondary entry metric low high => exact s.handleBandSecondary_worksOn entry metric low high
  | bandWeight entry account cls bin weight enabled =>
    exact s.handleBandWeight_worksOn entry account cls bin weight enabled
  | bandLock entry => exact s.handleBandLock_worksOn entry
  | writeSetting id account raw => exact s.handleWriteSetting_worksOn id account raw
  | checkpoint => exact s.handleCheckpoint_worksOn
  | resetDevice => exact s.handleResetDevice_worksOn

theorem State.decideRequest_worksOn (s : State) (slot : SlotIx) (kind : Byte) (ops : List Byte) :
    s.worksOn (s.decideRequest slot kind ops).state := by
  unfold State.decideRequest
  split
  · exact s.worksOn_refl
  · split
    · exact s.worksOn_refl
    · split
      · exact s.worksOn_refl
      · exact s.handle_worksOn slot _

/-- Past the linger that it restarts, a request leaves the timers and the store at work. -/
theorem State.takeRequest_worksOn (s : State) (slot : SlotIx) (kind : Byte) (ops : List Byte) :
    s.restartLinger.worksOn (s.takeRequest slot kind ops) := by
  unfold State.takeRequest
  split
  · exact State.worksOn_ite (State.worksOn_of_same rfl rfl rfl) (State.worksOn_refl _)
  · exact State.worksOn_after (Answer.conclude_worksOn slot kind ops _) (State.decideRequest_worksOn _ slot kind ops)

theorem State.takeRequestData_worksOn (s : State) (slot : SlotIx) (data : List Byte) :
    s.restartLinger.worksOn (s.takeRequestData slot data) := by
  cases data with
  | nil => exact s.takeRequest_worksOn slot _ _
  | cons kind ops => exact s.takeRequest_worksOn slot kind ops

/-! ## The forming of the state at a load -/

theorem State.reportSuspect_worksOn (s : State) (r : RecordId) : s.worksOn (s.reportSuspect r) :=
  State.worksOn_of_changesOnly (s.reportSuspect_changesOnly r) (by decide) (by decide) (by decide)

theorem State.loadAccounts_worksOn (s : State) : s.worksOn s.loadAccounts :=
  State.worksOn_of_changesOnly s.loadAccounts_changesOnly (by decide) (by decide) (by decide)

theorem State.loadSettings_worksOn (s : State) (k : LoadKind) : s.worksOn (s.loadSettings k) := by
  have formed (v : Settings) (m : Bool) :
      s.worksOn { s with settings := v, store := { s.store with settingsSuspect := m } } :=
    ⟨⟨rfl, rfl, rfl, rfl⟩, rfl, fun _ fits => fits⟩
  have reported (x : State) : x.worksOn (if x.store.settingsSuspect then x.reportSuspect .settings else x) :=
    State.worksOn_ite (x.reportSuspect_worksOn _) x.worksOn_refl
  refine State.worksOn_after (reported _) ?_
  split
  · exact s.worksOn_refl
  all_goals exact formed _ _

theorem State.loadBand_worksOn (kind : LoadKind) (s : State) (k : Fin 16) : s.worksOn (s.loadBand kind k) :=
  State.worksOn_of_changesOnly (s.loadBand_changesOnly kind k) (by decide) (by decide) (by decide)

theorem State.settleCounters_worksOn (s : State) : s.worksOn s.settleCounters := by
  unfold State.settleCounters
  split
  · refine State.worksOn_ite (State.worksOn_of_onlyMarks (State.onlyMarks_after (State.markRecord_onlyMarks _ _) rfl) ?_)
      s.worksOn_refl
    exact ⟨rfl, rfl, rfl, rfl⟩
  · exact s.worksOn_refl

theorem State.handleOpen_worksOn (s : State) : s.worksOn s.handleOpen := by
  have raised (x : State) (e : LogEntry) : x.worksOn (x.raiseGap e) :=
    State.worksOn_after (State.hand_worksOn _ _)
      (State.worksOn_of_changesOnly (x.raiseEvent_changesOnly _ _) (by decide) (by decide) (by decide))
  exact State.worksOn_after (State.worksOn_foldl raised _ _) (State.worksOn_of_same rfl rfl rfl)

theorem State.loadSegments_worksOn (s : State) : s.worksOn s.loadSegments := by
  have reported (x : State) (k : Fin 24) : x.worksOn (x.reportDamaged k) :=
    State.worksOn_of_changesOnly (x.reportDamaged_changesOnly k) (by decide) (by decide) (by decide)
  unfold State.loadSegments
  dsimp only
  refine State.worksOn_after (State.evalNearFull_worksOn _)
    (State.worksOn_after (State.handleOpen_worksOn _) (State.worksOn_after (State.settleCounters_worksOn _) ?_))
  exact State.worksOn_after (State.worksOn_foldl reported _ _) (State.worksOn_of_same rfl rfl rfl)

/-- The queue discarded and device time set. -/
theorem State.startLoad_worksOn (s : State) (k : LoadKind) : s.worksOn (s.startLoad k) where
  mode := rfl
  inReset := rfl
  linger := rfl
  timer := rfl
  loading := rfl
  store still fits := by
    unfold Store.fits State.startLoad at *
    dsimp only
    cases state : s.store.state <;> simp_all

theorem State.formAll_worksOn (s : State) (k : LoadKind) : s.worksOn (s.formAll k) := by
  unfold State.formAll
  dsimp only
  refine State.worksOn_after (State.settleTimebase_worksOn _) (State.worksOn_after (State.loadSegments_worksOn _) ?_)
  refine State.worksOn_after (State.worksOn_foldl (State.loadBand_worksOn k) _ _) ?_
  exact State.worksOn_after (State.loadSettings_worksOn _ k)
    (State.worksOn_after (State.loadAccounts_worksOn _) (s.startLoad_worksOn k))

end Sys2Proof.Machine
end

section
/-! PROOFS. The coherence of the store and of the timers (O10), continued: the operations that change the mode or the state of
the store, each from what it meets. -/

namespace Sys2Proof.Machine

/-! ## What an operation leaves coherent -/

/-- Both facts of a state: its store and its timers are coherent. -/
structure State.coherent (s : State) : Prop where
  store : s.storeCoherent
  timers : s.timersCoherent

/-- The store of t is coherent, and so are its timers where those of s were. -/
structure State.leavesCoherent (s t : State) : Prop where
  store : t.storeCoherent
  timers : s.timersCoherent → t.timersCoherent

theorem State.coherent.leaves {s t : State} (h : t.coherent) : s.leavesCoherent t := ⟨h.store, fun _ => h.timers⟩

/-- In ACTIVE outside a reset every timer may run (R62, R185). -/
theorem State.timersCoherent_of_active {s : State} (active : s.time.mode = .active) (outside : s.time.inReset = none) :
    s.timersCoherent :=
  ⟨fun _ => ⟨active, outside⟩, fun _ => ⟨active, outside⟩, fun _ => active, fun _ => active⟩

/-- With both timers stopped, outside a reset and a load, any mode will do. -/
theorem State.timersCoherent_of_stopped {s : State} (outside : s.time.inReset = none)
    (loaded : s.store.isLoading = false) (timer : s.meter.timer.isSome = false) (linger : s.time.linger.isSome = false) :
    s.timersCoherent := by
  unfold State.timersCoherent
  simp [outside, loaded, timer, linger]

theorem State.leavesCoherent_refl {s : State} (coherent : s.storeCoherent) : s.leavesCoherent s := ⟨coherent, id⟩

theorem State.leavesCoherent_trans {s t u : State} (h : s.leavesCoherent t) (k : t.leavesCoherent u) :
    s.leavesCoherent u :=
  ⟨k.store, fun timers => k.timers (h.timers timers)⟩

/-- An update of other parts, in a reset or outside. -/
theorem State.leavesCoherent_of_same {s t : State} (coherent : s.storeCoherent) (store : t.store = s.store)
    (time : t.time = s.time) (meter : t.meter = s.meter) : s.leavesCoherent t := by
  unfold State.storeCoherent at coherent
  refine ⟨?_, ?_⟩
  · unfold State.storeCoherent
    rwa [store, time]
  · unfold State.timersCoherent
    rw [store, time, meter]
    exact id

theorem State.leavesCoherent_ite {s t u : State} {c : Prop} [Decidable c] (h : c → s.leavesCoherent t)
    (k : ¬c → s.leavesCoherent u) : s.leavesCoherent (if c then t else u) := by
  split
  · next yes => exact h yes
  · next no => exact k no

/-- The timers stand, and the store fits its state afterwards. -/
theorem State.leavesCoherent_of_fits {s t : State} (timers : s.sameTimers t) (outside : s.time.inReset = none)
    (loading : t.store.isLoading = true → s.store.isLoading = true) (fits : t.store.fits (t.time.mode = .dormant)) :
    s.leavesCoherent t :=
  ⟨(State.storeCoherent_iff (timers.inReset.trans outside)).mpr fits, timers.coherent loading⟩

theorem State.worksOn.leaves {s t : State} (h : s.worksOn t) (outside : s.time.inReset = none)
    (coherent : s.storeCoherent) : s.leavesCoherent t := by
  refine State.leavesCoherent_of_fits h.tosameTimers outside (fun loading => h.loading ▸ loading) ?_
  rw [h.mode]
  exact h.store _ ((State.storeCoherent_iff outside).mp coherent)

/-- What an operation left coherent stays so while the part works on. -/
theorem State.leavesCoherent_then {s t u : State} (h : s.leavesCoherent t) (k : t.worksOn u)
    (outside : t.time.inReset = none) : s.leavesCoherent u :=
  State.leavesCoherent_trans h (k.leaves outside h.store)

/-! ## Modes (R185 to R188) -/

theorem State.restartLinger_leaves {s : State} (outside : s.time.inReset = none) (active : s.time.mode = .active)
    (coherent : s.storeCoherent) : s.leavesCoherent s.restartLinger :=
  ⟨coherent, fun _ => State.timersCoherent_of_active active outside⟩

/-- A part that wakes is coherent, whatever timers ran: it is ACTIVE (R187). -/
theorem State.wake_coherent {s : State} (outside : s.time.inReset = none) (awake : s.time.mode ≠ .dormant)
    (coherent : s.storeCoherent) : s.wake.coherent := by
  have fits := (State.storeCoherent_iff outside).mp coherent
  have formed := State.reformCrank_worksOn
    { s with time := { s.time with mode := .active }, meter := { s.meter with timer := some periodMs } }
  refine ⟨(State.storeCoherent_iff (formed.inReset.trans outside)).mpr ?_,
    State.timersCoherent_of_active formed.mode (formed.inReset.trans outside)⟩
  exact formed.store _ (Store.fits_mono fits fun dormant => absurd dormant awake)

/-- Entry to DORMANT stops both timers, and a flush may stand without a write there (R161, R188). -/
theorem State.enterDormant_coherent {s : State} (outside : s.time.inReset = none) (loaded : s.store.isLoading = false)
    (fits : s.store.fits True) : s.enterDormant.coherent := by
  have stopped := State.stopQualifier_worksOn
    { s with
      time := { s.time with mode := .dormant, linger := none }
      meter := { s.meter with timer := none }
      engine := { s.engine with resetPending := false } }
  have reset := stopped.inReset.trans outside
  exact ⟨(State.storeCoherent_iff reset).mpr (stopped.store _ (Store.fits_mono fits fun _ => stopped.mode)),
    State.timersCoherent_of_stopped reset (stopped.loading.trans loaded) stopped.timer stopped.linger⟩

/-- The Meter's entry to PARKED stops its timer, and with the linger expired both stand still (R62). -/
theorem State.meterParked_coherent {s : State} (outside : s.time.inReset = none) (loaded : s.store.isLoading = false)
    (linger : s.time.linger.isSome = false) (coherent : s.storeCoherent) : s.meterParked.coherent := by
  have cleared := State.worksOn_foldl State.clearUnobserved_worksOn (List.finRange 5) s
  unfold State.meterParked
  generalize (List.finRange 5).foldl State.clearUnobserved s = x at cleared
  exact ⟨(cleared.leaves outside coherent).store, State.timersCoherent_of_stopped (cleared.inReset.trans outside)
    (cleared.loading.trans loaded) rfl (cleared.linger.trans linger)⟩

theorem State.meterParked_time (s : State) : s.meterParked.time = s.time := by
  have cleared := State.changesOnly_foldl State.clearUnobserved_changesOnly (List.finRange 5) s .time (by decide)
  unfold State.meterParked
  generalize (List.finRange 5).foldl State.clearUnobserved s = x at cleared
  exact cleared

/-- The mode set, as the first of the entry actions (R186). -/
def State.inMode (s : State) (m : Mode) : State := { s with time := { s.time with mode := m } }

theorem State.enterParked_eq (s : State) :
    s.enterParked = (s.inMode .parked).intakeParked.meterParked.stopQualifier.dropRequests := rfl

/-- Entry to PARKED after the linger has expired, from a store that needs no DORMANT to stand as it does (R186). -/
theorem State.enterParked_coherent {s : State} (outside : s.time.inReset = none) (loaded : s.store.isLoading = false)
    (linger : s.time.linger.isSome = false) (fits : s.store.fits False) : s.enterParked.coherent := by
  have parked : (s.inMode .parked).storeCoherent :=
    (State.storeCoherent_iff (s := s.inMode .parked) outside).mpr (Store.fits_mono fits False.elim)
  have intake := (s.inMode .parked).intakeParked_worksOn
  have reset := intake.inReset.trans outside
  have metered := State.meterParked_coherent reset (intake.loading.trans loaded) (intake.linger.trans linger)
    (intake.leaves outside parked).store
  have time := (s.inMode .parked).intakeParked.meterParked_time
  rw [State.enterParked_eq]
  generalize (s.inMode .parked).intakeParked.meterParked = x at metered time
  have dropped : x.worksOn x.stopQualifier.dropRequests :=
    State.worksOn_after (State.worksOn_of_changesOnly (State.dropRequests_changesOnly _) (by decide) (by decide)
      (by decide)) x.stopQualifier_worksOn
  have leaves := dropped.leaves (by rw [time]; exact reset) metered.store
  exact ⟨leaves.store, leaves.timers metered.timers⟩

/-- With no write pending the store is READY or OFFLINE (R152). -/
theorem Store.settled_of_not_pending {st : Store} (h : st.writePending = false) :
    st.state = .ready ∨ st.state = .offline := by
  unfold Store.writePending at h
  split at h <;> simp_all

theorem State.parkCheck_leaves {s : State} (coherent : s.storeCoherent) : s.leavesCoherent s.parkCheck := by
  refine State.leavesCoherent_ite (fun ends => ?_) fun _ => State.leavesCoherent_refl coherent
  simp only [State.isActive, State.heldActive, Bool.and_eq_true, Bool.not_eq_true', Bool.or_eq_false_iff, beq_iff_eq,
    Option.isNone_iff_eq_none] at ends
  obtain ⟨⟨active, outside⟩, ⟨⟨-, linger⟩, pending⟩, -⟩ := ends
  have settled := Store.settled_of_not_pending pending
  refine State.leavesCoherent_ite (fun enqueues => ?_) fun _ => State.coherent.leaves ?_
  · have online : s.store.state ≠ .offline := by
      intro offline
      simp [offline] at enqueues
    exact (s.bulkEnqueue_worksOn _ ⟨by rcases settled with e | e <;> simp [e], online⟩).leaves outside coherent
  · refine State.enterParked_coherent outside ?_ linger ?_
    · rcases settled with e | e <;> simp [Store.isLoading, e]
    · exact Store.fits_mono ((State.storeCoherent_iff outside).mp coherent) (by rw [active]; simp)

/-! ## The beginning of a reset (R163, R189) -/

/-- A reset that begins loses the queue and the write and stops both timers. -/
theorem State.beginReset_coherent (s : State) (kind : ResetKind) (spoiled : Bool) :
    (s.beginReset kind spoiled).coherent := by
  refine ⟨⟨rfl, rfl⟩, ?_⟩
  unfold State.timersCoherent State.beginReset Meter.afterReset
  simp

theorem State.coldStart_coherent (pending : List Instr) (lines : Lines) (array : Vector Stored 46) (straps : Straps)
    (v : Selection) : (State.coldStart pending lines array straps v).coherent :=
  ⟨rfl, State.timersCoherent_of_active rfl rfl⟩

/-! ## The power-fail flush (R161, R162) -/

/-- The store READY again with nothing in flight, the changed records queued, and a PARKED part awake if a write began. -/
theorem State.recover_leaves {s : State} (outside : s.time.inReset = none) (queue : s.store.queue = [])
    (idle : s.store.inFlight = none) : s.leavesCoherent s.recover := by
  have ready : s.leavesCoherent { s with store := { s.store with state := .ready, pfwReleased := false } } :=
    State.leavesCoherent_of_fits ⟨rfl, rfl, rfl, rfl⟩ outside (by simp [Store.isLoading]) ⟨queue, idle⟩
  have works := State.bulkEnqueue_worksOn { s with store := { s.store with state := .ready, pfwReleased := false } }
    allRecords (by simp)
  have enqueued := State.leavesCoherent_then ready works outside
  refine State.leavesCoherent_ite (fun wakes => ?_) fun _ => enqueued
  refine (State.wake_coherent (works.inReset.trans outside) ?_ enqueued.store).leaves
  simp only [Bool.and_eq_true, beq_iff_eq] at wakes
  rw [wakes.1]
  simp

/-- FLUSHING goes on with the next write of the list, or ends. -/
theorem State.flushNext_leaves {s : State} (outside : s.time.inReset = none) (state : s.store.state = .flushing)
    (queue : s.store.queue = []) (idle : s.store.inFlight = none) : s.leavesCoherent s.flushNext := by
  have loaded : s.store.isLoading = false := by simp [Store.isLoading, state]
  unfold State.flushNext
  split
  · next i rest _ =>
    have write := State.startWrite_changesOnly { s with store := { s.store with flushList := rest } } (.account i)
    obtain ⟨mode, reset, linger, timer⟩ := State.sameTimers_of_changesOnly write (by decide) (by decide)
    refine State.leavesCoherent_of_fits ⟨mode, reset, linger, timer⟩ outside ?_ ?_
    · simp [Store.isLoading, State.startWrite_state, state]
    · simp [Store.fits, State.startWrite_state, State.startWrite_queue, State.startWrite_inFlight, state, queue]
  · refine State.leavesCoherent_ite (fun _ => State.recover_leaves outside queue idle) fun _ => ?_
    refine (State.enterDormant_coherent outside loaded ?_).leaves
    simp [Store.fits, state, queue]

theorem State.startFlush_leaves {s : State} (outside : s.time.inReset = none) (idle : s.store.inFlight = none) :
    s.leavesCoherent s.startFlush := by
  have flush := State.flushNext_leaves (s :=
    { s with
      store :=
        { s.store with
          state := .flushing
          queue := []
          flushList := s.store.changedAccounts
          pfwTaken := false
          pfwReleased := false } }) outside rfl rfl idle
  refine ⟨flush.store, fun timers => flush.timers (State.sameTimers.coherent (s := s) ⟨rfl, rfl, rfl, rfl⟩ ?_ timers)⟩
  simp [Store.isLoading]

theorem State.takePfw_leaves {s : State} (outside : s.time.inReset = none) (coherent : s.storeCoherent) :
    s.leavesCoherent s.takePfw := by
  have fits := (State.storeCoherent_iff outside).mp coherent
  unfold State.takePfw
  split
  · next state =>
    rw [Store.fits, state] at fits
    exact State.startFlush_leaves outside fits.2
  · exact State.worksOn.leaves ⟨⟨rfl, rfl, rfl, rfl⟩, rfl, fun _ h => h⟩ outside coherent
  · next state =>
    refine (State.enterDormant_coherent outside (by simp [Store.isLoading, state]) ?_).leaves
    exact Store.fits_mono fits fun _ => trivial
  all_goals exact State.leavesCoherent_refl coherent

theorem State.dropPfw_worksOn (s : State) : s.worksOn s.dropPfw := by
  unfold State.dropPfw
  split
  · exact ⟨⟨rfl, rfl, rfl, rfl⟩, rfl, fun _ h => h⟩
  · exact ⟨⟨rfl, rfl, rfl, rfl⟩, rfl, fun _ h => h⟩
  all_goals exact s.worksOn_refl

/-! ## The completion of a write (R156, R159, R160) -/

/-- A write has completed and the store has not gone on: nothing is in flight, and nothing is queued but in WRITING. -/
structure State.landed (s : State) : Prop where
  outside : s.time.inReset = none
  idle : s.store.inFlight = none
  queue : s.store.state ≠ .writing → s.store.queue = []

/-- A write in flight is that of a store WRITING, or of a flush. -/
theorem State.flying_cases {s : State} {w : Write} (coherent : s.storeCoherent) (flying : s.store.inFlight = some w) :
    s.time.inReset = none ∧ (s.store.state = .writing ∨ s.store.state = .flushing ∧ s.store.queue = []) := by
  unfold State.storeCoherent at coherent
  rw [flying] at coherent
  split at coherent <;> simp_all

/-- From s to t the timers run where they ran; t has a write landed, and is not LOADING. -/
structure State.lands (s t : State) : Prop extends s.sameTimers t where
  landed : t.landed
  loaded : t.store.isLoading = false

theorem State.completeGood_lands {s : State} {w : Write} (coherent : s.storeCoherent)
    (flying : s.store.inFlight = some w) : s.lands (s.completeGood w) := by
  obtain ⟨outside, busy⟩ := State.flying_cases coherent flying
  have written := s.completeGood_written w
  have timers := State.sameTimers_of_changesOnly written.changes (by decide) (by decide)
  have state : (s.completeGood w).store.state = s.store.state := by rw [written.store]; rfl
  have queue : (s.completeGood w).store.queue = s.store.queue := by rw [written.store]; rfl
  refine ⟨timers, ⟨timers.inReset.trans outside, by rw [written.store]; rfl, fun other => ?_⟩, ?_⟩
  · rw [state] at other
    exact queue.trans (busy.resolve_left other).2
  · unfold Store.isLoading
    rw [state]
    rcases busy with e | ⟨e, -⟩ <;> rw [e]

theorem Store.append_stands (st : Store) (r : RecordId) :
    (st.append r).state = st.state ∧ (st.append r).inFlight = st.inFlight := by
  unfold Store.append
  split <;> exact ⟨rfl, rfl⟩

/-- A first fault appends the record again only in WRITING (R159, R161). -/
theorem State.firstFault_lands {s : State} (r : RecordId) (outside : s.time.inReset = none)
    (idle : s.store.inFlight = none) (busy : s.store.state = .writing ∨ s.store.state = .flushing ∧ s.store.queue = []) :
    s.lands (s.firstFault r) := by
  have loaded : s.store.isLoading = false := by
    unfold Store.isLoading
    rcases busy with e | ⟨e, -⟩ <;> rw [e]
  unfold State.firstFault
  dsimp only
  split
  · exact ⟨⟨rfl, rfl, rfl, rfl⟩, ⟨outside, idle, fun other => (busy.resolve_left other).2⟩, loaded⟩
  · next appends =>
    have writing : s.store.state = .writing := busy.resolve_right fun flushing => appends (by simp [flushing.1])
    obtain ⟨state, flying⟩ := s.store.append_stands r
    refine ⟨⟨rfl, rfl, rfl, rfl⟩, ⟨outside, flying.trans idle, fun other => absurd (state.trans writing) other⟩, ?_⟩
    show (s.store.append r).isLoading = false
    rw [Store.isLoading, state, writing]

/-- Responses released afterwards change nothing of it. -/
theorem State.lands_then {s t u : State} (h : s.lands t) (k : t.changesOnly u [.port, .engine]) : s.lands u := by
  have time : u.time = t.time := k .time (by decide)
  have store : u.store = t.store := k .store (by decide)
  have timers := State.sameTimers_trans h.tosameTimers (State.sameTimers_of_changesOnly k (by decide) (by decide))
  obtain ⟨outside, idle, queue⟩ := h.landed
  exact ⟨timers, ⟨time ▸ outside, store ▸ idle, store ▸ queue⟩, store ▸ h.loaded⟩

/-- A second fault leaves the store OFFLINE with nothing queued (R160). -/
theorem State.goOffline_lands {s : State} (r : RecordId) (outside : s.time.inReset = none)
    (idle : s.store.inFlight = none) : s.lands (s.goOffline r) := by
  refine State.lands_then ?_ (State.releaseVolatile_changesOnly _)
  exact ⟨⟨rfl, rfl, rfl, rfl⟩, ⟨outside, idle, fun _ => rfl⟩, rfl⟩

/-- The record BAD, nothing in flight, and the waits of the write for the next one (R157, R159). -/
def State.imageLost (s : State) (w : Write) : State :=
  State.mapWaits { s with store := { s.store with array := s.store.array.set w.record.index .bad, inFlight := none } }
    (failedWaits w.record)

/-- A fault leaves the record BAD, and queues it again or takes the store OFFLINE. -/
theorem State.completeFault_lands {s : State} {w : Write} (coherent : s.storeCoherent)
    (flying : s.store.inFlight = some w) : s.lands (s.completeFault w) := by
  obtain ⟨outside, busy⟩ := State.flying_cases coherent flying
  have lost (t : State) (h : (s.imageLost w).lands t) : s.lands t :=
    ⟨⟨h.mode, h.inReset, h.linger, h.timer⟩, h.landed, h.loaded⟩
  unfold State.completeFault
  dsimp only
  split
  · exact lost _ (State.firstFault_lands _ outside rfl busy)
  · exact lost _ (State.goOffline_lands _ outside rfl)

/-- After a completion the part goes on to a coherent state: a reset, the flush, the next write, or the end of a hold. -/
theorem State.afterWrite_leaves {s : State} (landed : s.landed) (before : Store) :
    s.leavesCoherent (s.afterWrite before) := by
  obtain ⟨outside, idle, queue⟩ := landed
  unfold State.afterWrite
  refine State.leavesCoherent_ite (fun _ => (s.beginReset_coherent _ _).leaves) fun _ => ?_
  split
  · next state =>
    have empty := queue (by rw [state]; simp)
    have fits (still : Prop) : s.store.fits still := by
      rw [Store.fits, state]
      exact ⟨empty, idle⟩
    have loaded : s.store.isLoading = false := by rw [Store.isLoading, state]
    have coherent : s.storeCoherent := (State.storeCoherent_iff outside).mpr (fits _)
    have dormant := (State.enterDormant_coherent outside loaded (fits _)).leaves (s := s)
    exact State.leavesCoherent_ite
      (fun _ => State.leavesCoherent_ite (fun _ => State.leavesCoherent_refl coherent) fun _ => dormant)
      fun _ => State.leavesCoherent_ite (fun _ => dormant) fun _ => State.parkCheck_leaves coherent
  · next state => exact State.flushNext_leaves outside state (queue (by rw [state]; simp)) idle
  all_goals
    refine State.leavesCoherent_ite (fun _ => State.startFlush_leaves outside idle) fun _ => ?_
    have timers := State.sameTimers_of_changesOnly s.nextWrite_changesOnly (by decide) (by decide)
    have next := State.leavesCoherent_of_fits timers outside (by rw [s.nextWrite_isLoading]; simp)
      (State.nextWrite_fits idle _)
    exact State.leavesCoherent_trans next (State.parkCheck_leaves next.store)

theorem State.writeDone_leaves {s : State} {w : Write} (faulted : Bool) (coherent : s.storeCoherent)
    (flying : s.store.inFlight = some w) : s.leavesCoherent (s.writeDone w faulted) := by
  have lands : s.lands (if faulted then s.completeFault w else s.completeGood w) := by
    cases faulted
    · exact State.completeGood_lands coherent flying
    · exact State.completeFault_lands coherent flying
  have after := State.afterWrite_leaves lands.landed s.store
  refine ⟨after.store, fun timers => after.timers (lands.coherent ?_ timers)⟩
  rw [lands.loaded]
  simp

end Sys2Proof.Machine
end

section
/-! PROOFS. The coherence of the store and of the timers (O10), the last part: the ends of loads and resets, the frames, the
commands and time. -/

namespace Sys2Proof.Machine

/-! ## The end of a load and of a reset (R154, R190) -/

/-- The blocks started in ACTIVE, a standing PFW taken (R62, R161). -/
theorem State.startUp_leaves {s t : State} (outside : t.time.inReset = none) (coherent : t.storeCoherent)
    (active : s.timersCoherent → t.time.mode = .active) : s.leavesCoherent t.startUp := by
  have timed : s.leavesCoherent { t with meter := { t.meter with timer := some periodMs } } :=
    ⟨coherent, fun timers => State.timersCoherent_of_active (active timers) outside⟩
  exact State.leavesCoherent_ite
    (fun _ => State.leavesCoherent_trans timed (State.takePfw_leaves outside timed.store)) fun _ => timed

/-- Nothing is in flight as long as the store is LOADING. -/
theorem State.worksOn.idle_of_loading {s t : State} (h : s.worksOn t) (outside : s.time.inReset = none)
    (coherent : s.storeCoherent) (loading : s.store.isLoading = true) : t.store.inFlight = none := by
  have fits := h.store _ ((State.storeCoherent_iff outside).mp coherent)
  have load := h.loading.trans loading
  unfold Store.isLoading at load
  unfold Store.fits at fits
  split at fits <;> simp_all

theorem State.finishLoad_eq (s : State) (k : LoadKind) :
    s.finishLoad k = (s.formAll k).readied.startIfReady.reformCrank.startUp := rfl

/-- A READY store with nothing in flight begins its first write and is coherent. -/
theorem State.startIfReady_coherent {s : State} (outside : s.time.inReset = none) (ready : s.store.state = .ready)
    (idle : s.store.inFlight = none) : s.startIfReady.storeCoherent := by
  have timers := State.sameTimers_of_changesOnly s.startIfReady_changesOnly (by decide) (by decide)
  exact (State.storeCoherent_iff (timers.inReset.trans outside)).mpr
    (State.startIfReady_fits (fun _ => idle) fun other => absurd ready other)

/-- The state formed, the store READY and its first write begun, the blocks started. -/
theorem State.readied_leaves {s x : State} (outside : x.time.inReset = none) (idle : x.store.inFlight = none)
    (active : s.timersCoherent → x.time.mode = .active) :
    s.leavesCoherent x.readied.startIfReady.reformCrank.startUp := by
  have begun := State.startIfReady_coherent (s := x.readied) outside rfl idle
  have time : x.readied.startIfReady.time = x.readied.time := x.readied.startIfReady_changesOnly .time (by decide)
  have reset : x.readied.startIfReady.time.inReset = none := by rw [time]; exact outside
  have crank := x.readied.startIfReady.reformCrank_worksOn
  refine State.startUp_leaves (crank.inReset.trans reset) (crank.leaves reset begun).store fun timers => ?_
  rw [crank.mode, time]
  exact active timers

theorem State.finishLoad_leaves {s : State} {k : LoadKind} (loading : s.store.state = .loading k)
    (outside : s.time.inReset = none) (coherent : s.storeCoherent) : s.leavesCoherent (s.finishLoad k) := by
  have load : s.store.isLoading = true := by rw [Store.isLoading, loading]
  have formed := s.formAll_worksOn k
  rw [State.finishLoad_eq]
  refine State.readied_leaves (formed.inReset.trans outside) (formed.idle_of_loading outside coherent load) fun timers => ?_
  obtain ⟨-, -, -, active⟩ := timers
  exact formed.mode.trans (active load)

theorem State.resumeQualifier_onlyMarks (s : State) : s.onlyMarks s.resumeQualifier := by
  unfold State.resumeQualifier
  dsimp only
  split
  · exact State.onlyMarks_trans s.reformCrank_onlyMarks (State.onlyMarks_of_same rfl)
  all_goals exact s.reformCrank_onlyMarks

theorem State.resumeQualifier_worksOn (s : State) : s.worksOn s.resumeQualifier := by
  unfold State.resumeQualifier
  dsimp only
  split
  · exact State.worksOn_after
      (State.worksOn_of_changesOnly (State.startStop_changesOnly _ _) (by decide) (by decide) (by decide))
      s.reformCrank_worksOn
  all_goals exact s.reformCrank_worksOn

theorem State.settleTimebase_onlyMarks (s : State) : s.onlyMarks s.settleTimebase := by
  have reported (v : Bool) : s.onlyMarks (s.reportTimebase v) :=
    State.onlyMarks_of_changesOnly (s.reportTimebase_changesOnly v) (by decide)
  unfold State.settleTimebase
  split
  · exact State.onlyMarks_trans (reported true) (State.flagOpen_onlyMarks _ _)
  · exact reported false
  all_goals exact State.onlyMarks_of_same rfl

/-- What the blocks take up after a good check, before the store rewrites its records (R190). -/
def State.resumed (s : State) : State :=
  (s.settleTimebase.report (devicePair .storeOffline) false none).reportObserved.resumeQualifier.flagOpen fun f =>
    { f with warmReset := true }

theorem State.resumeRetained_eq (s : State) : s.resumeRetained = s.resumed.rewriteAll.startUp := rfl

theorem State.reportObserved_changesOnly (s : State) : s.changesOnly s.reportObserved [.alerts, .port] :=
  State.changesOnly_foldl (fun x i => x.report_changesOnly (accountPair i .unobserved) false none) _ s

theorem State.resumed_onlyMarks (s : State) : s.onlyMarks s.resumed := by
  have reported (x : State) : x.onlyMarks (x.report (devicePair .storeOffline) false none).reportObserved :=
    State.onlyMarks_of_changesOnly
      (State.changesOnly_trans (x.report_changesOnly _ false none) (State.reportObserved_changesOnly _)) (by decide)
  exact State.onlyMarks_trans (State.onlyMarks_trans s.settleTimebase_onlyMarks (reported _))
    (State.onlyMarks_trans (State.resumeQualifier_onlyMarks _) (State.flagOpen_onlyMarks _ _))

theorem State.resumed_sameTimers (s : State) : s.sameTimers s.resumed := by
  have reported (x : State) : x.sameTimers (x.report (devicePair .storeOffline) false none).reportObserved :=
    State.sameTimers_of_changesOnly
      (State.changesOnly_trans (x.report_changesOnly _ false none) (State.reportObserved_changesOnly _)) (by decide)
      (by decide)
  exact State.sameTimers_trans
    (State.sameTimers_trans s.settleTimebase_worksOn.tosameTimers (reported _))
    (State.sameTimers_trans (State.resumeQualifier_worksOn _).tosameTimers (State.flagOpen_worksOn _ _).tosameTimers)

/-- A good check: whatever state the store was in, it rewrites its records (R163, R190). -/
theorem State.resumeRetained_leaves {s x : State} (outside : x.time.inReset = none) (idle : x.store.inFlight = none)
    (active : s.timersCoherent → x.time.mode = .active) : s.leavesCoherent x.resumeRetained := by
  have timers := x.resumed_sameTimers
  have still : x.resumed.store.inFlight = none := by simpa [idle] using x.resumed_onlyMarks.inFlight
  rw [State.resumeRetained_eq]
  generalize x.resumed = y at timers still
  have reset := timers.inReset.trans outside
  have time : y.rewriteAll.time = y.time := State.startIfReady_changesOnly _ .time (by decide)
  refine State.startUp_leaves (by rw [time]; exact reset) ?_ fun coherent => ?_
  · exact State.startIfReady_coherent reset rfl still
  · rw [time, timers.mode]
    exact active coherent

/-- Outside the reset LOADING starts with nothing in flight, in ACTIVE (R185, R190). -/
theorem State.reload_leaves {s x : State} (k : LoadKind) (outside : x.time.inReset = none)
    (idle : x.store.inFlight = none) (active : s.timersCoherent → x.time.mode = .active) :
    s.leavesCoherent (x.reload k) :=
  ⟨(State.storeCoherent_iff (s := x.reload k) outside).mpr idle,
    fun timers => State.timersCoherent_of_active (s := x.reload k) (active timers) outside⟩

theorem State.finishReset_leaves {s : State} {r : ResetInProgress} (retentionGood recordGood : Bool) (cycles : Nat)
    (straps : Straps) (resetting : s.time.inReset = some r) (coherent : s.storeCoherent) :
    s.leavesCoherent (s.finishReset r retentionGood recordGood cycles straps) := by
  have idle : s.store.inFlight = none := by
    unfold State.storeCoherent at coherent
    rw [resetting] at coherent
    exact coherent.2
  have active : s.timersCoherent → s.time.mode = .active := by
    rintro ⟨-, -, reset, -⟩
    exact reset (by rw [resetting]; rfl)
  unfold State.finishReset
  dsimp only
  split
  · exact State.reload_leaves _ rfl idle active
  all_goals
    exact State.leavesCoherent_ite (fun _ => State.resumeRetained_leaves rfl idle active)
      fun _ => State.reload_leaves _ rfl idle active

/-! ## Frames -/

/-- A frame wakes a PARKED part; otherwise it is taken in ACTIVE, or not heard (R187). -/
theorem State.hearFrame_leaves {s : State} {take : State → State} (coherent : s.storeCoherent)
    (taken : s.time.inReset = none → s.time.mode = .active → s.leavesCoherent (take s)) :
    s.leavesCoherent (s.hearFrame take) := by
  refine State.leavesCoherent_ite (fun on => ?_) fun _ => State.leavesCoherent_refl coherent
  simp only [State.onBus, Bool.and_eq_true, bne_iff_ne, ne_eq, Option.isNone_iff_eq_none] at on
  obtain ⟨⟨⟨-, outside⟩, -⟩, awake⟩ := on
  refine State.leavesCoherent_ite (fun _ => ?_) fun other => taken outside ?_
  · exact (State.wake_coherent (s := s.restartLinger) outside awake coherent).leaves
  · cases mode : s.time.mode with
    | active => rfl
    | parked => exact absurd (by rw [mode]; rfl) other
    | dormant => exact absurd mode awake

theorem State.outside_of_onBus {s : State} (on : s.onBus = true) : s.time.inReset = none := by
  simp only [State.onBus, Bool.and_eq_true, Option.isNone_iff_eq_none] at on
  obtain ⟨⟨⟨-, outside⟩, -⟩, -⟩ := on
  exact outside

/-- What works on from a restarted linger, in ACTIVE. -/
theorem State.worksOn.leaves_restarted {s t : State} (h : s.restartLinger.worksOn t) (coherent : s.storeCoherent)
    (outside : s.time.inReset = none) (active : s.time.mode = .active) : s.leavesCoherent t :=
  State.leavesCoherent_then (State.restartLinger_leaves outside active coherent) h outside

theorem State.requestFrame_leaves {s : State} (slot : SlotIx) (kind : Byte) (ops : List Byte)
    (coherent : s.storeCoherent) : s.leavesCoherent (s.requestFrame slot kind ops) :=
  State.hearFrame_leaves coherent fun outside active =>
    (s.takeRequest_worksOn slot kind ops).leaves_restarted coherent outside active

theorem State.observationFrame_leaves {s : State} (id : CanId) (data : List Byte) (coherent : s.storeCoherent) :
    s.leavesCoherent (s.observationFrame id data) := by
  refine State.hearFrame_leaves coherent fun outside active => ?_
  unfold State.routeFrame
  split
  · exact (s.takeRequestData_worksOn _ data).leaves_restarted coherent outside active
  · exact (s.restartLinger.decode_worksOn _ data).leaves_restarted coherent outside active
  · exact State.leavesCoherent_refl coherent

theorem exec_frame_leaves {c : Instr} {s t : State} (frame : isFrame c = true) (coherent : s.storeCoherent)
    (h : exec c s = .next t) : s.leavesCoherent t := by
  cases request : requestOf c with
  | some r =>
    obtain ⟨slot, kind, ops⟩ := r
    rw [exec_request request] at h
    cases h
    exact State.requestFrame_leaves slot kind ops coherent
  | none =>
    cases c
    case unknownRequest slot data =>
      cases h
      exact State.hearFrame_leaves coherent fun outside active =>
        (s.takeRequestData_worksOn slot data).leaves_restarted coherent outside active
    case engineState id data => cases h; exact State.observationFrame_leaves id data coherent
    case drivelineState id data => cases h; exact State.observationFrame_leaves id data coherent
    case drivelineEvent id data => cases h; exact State.observationFrame_leaves id data coherent
    case wakeFrame =>
      cases h
      exact State.hearFrame_leaves coherent fun _ _ => State.leavesCoherent_refl coherent
    all_goals simp [isFrame, requestOf] at frame request

/-! ## Commands and time -/

theorem State.isActive_iff {s : State} : s.isActive = true ↔ s.time.mode = .active ∧ s.time.inReset = none := by
  simp [State.isActive]

theorem State.outside_of_running {s : State} (running : s.isRunning = true) : s.time.inReset = none := by
  simp only [State.isRunning, Bool.and_eq_true, State.isActive_iff] at running
  obtain ⟨⟨-, outside⟩, -⟩ := running
  exact outside

/-- The running blocks act in ACTIVE outside a reset and a load only. -/
theorem State.leavesCoherent_running {s t : State} (coherent : s.storeCoherent) (h : s.worksOn t) :
    s.leavesCoherent (if s.isRunning then t else s) :=
  State.leavesCoherent_ite (fun running => h.leaves (State.outside_of_running running) coherent)
    fun _ => State.leavesCoherent_refl coherent

/-- A checkpoint enqueues in READY and WRITING only (R158). -/
theorem State.checkpointEnqueue_worksOn (s : State) (rs : List RecordId) : s.worksOn (s.checkpointEnqueue rs) := by
  unfold State.checkpointEnqueue
  split
  · next state => exact s.bulkEnqueue_worksOn rs (by rw [state]; simp)
  · next state => exact s.bulkEnqueue_worksOn rs (by rw [state]; simp)
  all_goals exact s.worksOn_refl

theorem State.sendFrame_leaves {s : State} (f : Frame) (rest : List Frame) (coherent : s.storeCoherent)
    (outside : s.time.inReset = none) : s.leavesCoherent (s.sendFrame f rest) := by
  have given (x : State) : x.worksOn x.givePlace := by
    unfold State.givePlace
    split
    · split <;> exact State.worksOn_of_same rfl rfl rfl
    · exact x.worksOn_refl
  have sent : s.worksOn (State.givePlace { s with port := { s.port with tx := rest } }) :=
    State.worksOn_after (given _) (State.worksOn_of_same rfl rfl rfl)
  have leaves := sent.leaves outside coherent
  refine State.leavesCoherent_ite (fun _ => ?_) fun _ => leaves
  unfold State.commandReset
  split
  · exact (State.beginReset_coherent _ _ _).leaves
  · exact State.leavesCoherent_trans leaves (State.leavesCoherent_of_same leaves.store rfl rfl rfl)

/-- A millisecond takes no timer to its end: an expiry is a command of its own (R181). -/
theorem State.tick_leaves {s : State} (coherent : s.storeCoherent) : s.leavesCoherent s.tick := by
  unfold State.tick
  refine State.leavesCoherent_ite (fun _ => State.leavesCoherent_refl coherent) fun runs => ?_
  have outside : s.time.inReset = none := by simp_all
  refine State.leavesCoherent_ite (fun _ => ?_) fun _ => State.leavesCoherent_ite (fun _ => ?_) fun _ => ?_
  · exact State.worksOn.leaves ⟨⟨rfl, rfl, Option.isSome_map, Option.isSome_map⟩, rfl, fun _ fits => fits⟩ outside
      coherent
  · exact State.worksOn.leaves (State.worksOn_of_store ⟨rfl, rfl, Option.isSome_map, rfl⟩ rfl) outside coherent
  · exact State.worksOn.leaves (State.worksOn_of_store ⟨rfl, rfl, rfl, rfl⟩ rfl) outside coherent

/-- Every command leaves a coherent state, from a state whose store is coherent. -/
theorem exec_leaves {c : Instr} {s t : State} (coherent : s.storeCoherent) (h : exec c s = .next t) :
    s.leavesCoherent t := by
  have same : s.leavesCoherent s := State.leavesCoherent_refl coherent
  by_cases frame : isFrame c = true
  · exact exec_frame_leaves frame coherent h
  cases c
  case signalHeld n => cases h; exact State.leavesCoherent_running coherent (s.passHeld_worksOn n)
  case signalUnknown n => cases h; exact State.leavesCoherent_running coherent (s.passUnknown_worksOn n _)
  case meteringExpiry =>
    cases h
    refine State.leavesCoherent_ite (fun running => ?_) fun _ => same
    obtain ⟨running, timed⟩ := Bool.and_eq_true_iff.mp running
    have started : s.worksOn s.periodStarted := State.worksOn_of_store ⟨rfl, rfl, rfl, timed.symm⟩ rfl
    exact (State.worksOn_after (State.meteringPass_worksOn _) started).leaves (State.outside_of_running running) coherent
  case crankChange asserted =>
    cases h
    refine State.leavesCoherent_ite (fun _ => same) fun _ => State.leavesCoherent_ite (fun running => ?_) fun _ => ?_
    · exact (s.crankLine_worksOn asserted).leaves (State.outside_of_running running) coherent
    · exact State.leavesCoherent_of_same coherent rfl rfl rfl
  case crankWindowExpiry =>
    cases h
    exact State.leavesCoherent_running coherent
      (State.worksOn_of_changesOnly s.windowExpiry_changesOnly (by decide) (by decide) (by decide))
  case confirmExpiry =>
    cases h
    exact State.leavesCoherent_running coherent
      (State.worksOn_of_marks s.confirmDone_onlyMarks s.confirmDone_changesOnly (by decide) (by decide))
  case stopTimerExpiry => cases h; exact State.leavesCoherent_running coherent s.stopDone_worksOn
  case ignAsserted =>
    cases h
    refine State.leavesCoherent_ite (fun _ => same) fun _ => State.leavesCoherent_ite (fun wakes => ?_) fun _ => ?_
    · simp only [Bool.and_eq_true, beq_iff_eq, Option.isNone_iff_eq_none] at wakes
      obtain ⟨parked, outside⟩ := wakes
      exact (State.wake_coherent (s := s.keyedOn) outside (by rw [show s.keyedOn.time.mode = .parked from parked]; simp)
        coherent).leaves
    · exact State.leavesCoherent_of_same coherent rfl rfl rfl
  case keyOff =>
    cases h
    have off : s.leavesCoherent { s with lines := { s.lines with ign := false } } :=
      State.leavesCoherent_of_same coherent rfl rfl rfl
    refine State.leavesCoherent_ite (fun _ => State.leavesCoherent_ite (fun active => ?_) fun _ => off) fun _ => same
    obtain ⟨active, outside⟩ := State.isActive_iff.mp active
    have enqueued := State.checkpointEnqueue_worksOn { s with lines := { s.lines with ign := false } } allRecords
    have leaves := State.leavesCoherent_then off enqueued outside
    exact State.leavesCoherent_trans leaves (State.restartLinger_leaves (enqueued.inReset.trans outside)
      (enqueued.mode.trans active) leaves.store)
  case periodicCheckpoint =>
    cases h
    refine State.leavesCoherent_ite (fun active => ?_) fun _ => same
    obtain ⟨-, outside⟩ := State.isActive_iff.mp active
    have zeroed : s.worksOn { s with store := { s.store with checkpointMs := 0 } } :=
      ⟨⟨rfl, rfl, rfl, rfl⟩, rfl, fun _ fits => fits⟩
    exact (State.worksOn_after (State.checkpointEnqueue_worksOn _ _) zeroed).leaves outside coherent
  case lingerExpiry =>
    cases h
    split
    · have expired : s.leavesCoherent { s with time := { s.time with linger := none } } :=
        ⟨coherent, fun ⟨metering, _, reset, load⟩ => ⟨metering, nofun, reset, load⟩⟩
      exact State.leavesCoherent_trans expired (State.parkCheck_leaves expired.store)
    · exact same
  case writeCompletion faulted =>
    cases h
    split
    · next w flying => exact State.writeDone_leaves faulted coherent flying
    · exact same
  case pfwAsserted =>
    cases h
    have lit : s.leavesCoherent { s with lines := { s.lines with pfw := true } } :=
      State.leavesCoherent_of_same coherent rfl rfl rfl
    refine State.leavesCoherent_ite (fun _ => same) fun _ => State.leavesCoherent_ite (fun taken => ?_) fun _ => lit
    simp only [Bool.and_eq_true, Option.isNone_iff_eq_none] at taken
    exact State.leavesCoherent_trans lit (State.takePfw_leaves taken.1 lit.store)
  case pfwReleased =>
    cases h
    have off : s.leavesCoherent { s with lines := { s.lines with pfw := false } } :=
      State.leavesCoherent_of_same coherent rfl rfl rfl
    refine State.leavesCoherent_ite (fun _ => State.leavesCoherent_ite (fun _ => off) fun outside =>
      State.leavesCoherent_ite (fun _ => (State.beginReset_coherent _ _ _).leaves) fun _ => ?_) fun _ => same
    exact State.leavesCoherent_then off (State.dropPfw_worksOn _) (by simpa using outside)
  case monitorWindow cycles =>
    cases h
    refine State.leavesCoherent_ite (fun active => ?_) fun _ => same
    obtain ⟨-, outside⟩ := State.isActive_iff.mp active
    exact (s.windowEnd_worksOn cycles).leaves outside coherent
  case deviceTimeSecond =>
    cases h
    refine State.leavesCoherent_ite (fun counts => ?_) fun _ => same
    simp only [Bool.and_eq_true, Option.isNone_iff_eq_none] at counts
    exact State.worksOn.leaves (State.worksOn_of_store ⟨rfl, rfl, rfl, rfl⟩ rfl) counts.1 coherent
  case coldReset straps cycles => cases h; exact (State.coldStart_coherent _ _ _ _ _).leaves
  case warmReset dip => cases h; exact (s.beginReset_coherent _ _).leaves
  case resetEnd retentionGood recordGood cycles straps =>
    cases h
    split
    · next r resetting =>
      exact State.finishReset_leaves retentionGood recordGood cycles straps resetting coherent
    · exact same
  case loadEnd =>
    cases h
    split
    · next k loading outside => exact State.finishLoad_leaves loading outside coherent
    · exact same
  case transmissionComplete =>
    cases h
    refine State.leavesCoherent_ite (fun on => ?_) fun _ => same
    split
    · next f rest _ => exact State.sendFrame_leaves f rest coherent (State.outside_of_onBus on)
    · exact same
  case busOff =>
    cases h
    have dropped : s.leavesCoherent { s.dropRequests with port := { tx := [], state := .busOff } } :=
      State.leavesCoherent_of_same coherent rfl rfl rfl
    refine State.leavesCoherent_ite (fun _ => State.leavesCoherent_ite (fun _ => ?_) fun _ => dropped) fun _ => same
    refine State.leavesCoherent_trans ?_ (State.parkCheck_leaves ?_)
    · exact State.leavesCoherent_of_same coherent rfl rfl rfl
    · exact coherent
  case busOffRecovery =>
    cases h
    exact State.leavesCoherent_ite (fun _ => State.leavesCoherent_of_same coherent rfl rfl rfl) fun _ => same
  all_goals exact absurd rfl frame

theorem step_leaves {s t : State} (coherent : s.storeCoherent) (h : step s = .next t) : s.leavesCoherent t := by
  rcases Laws.step_cases h with ⟨c, rest, -, ran⟩ | ⟨-, rfl⟩
  · have taken : s.leavesCoherent { s with pending := rest } := State.leavesCoherent_of_same coherent rfl rfl rfl
    exact State.leavesCoherent_trans taken (exec_leaves taken.store ran)
  · exact State.tick_leaves coherent

/-- Settles O10: from a coherent store every step leaves a coherent store, and coherent timers where they were. -/
theorem storeAndTimersStayCoherent : Obligations.StoreAndTimersStayCoherent :=
  ⟨fun _ _ coherent run => (step_leaves coherent run).store,
    fun _ _ coherent timers run => (step_leaves coherent run).timers timers⟩

end Sys2Proof.Machine
end

section
/-! PROOFS. What a metering pass raises and reports (O16): EXCURSION at a new winner (R72), UNOBSERVED at the first unobserved
period of a run (R69). What the period of one account notes is left alone by the periods of the others. -/

namespace Sys2Proof.Machine

/-! ## The entry of a pair through raises and reports of others (R134 to R139) -/

/-- A repeat keeps the pair of its entry, so that a pair is found where it was. -/
theorem AlertEntry.find?_repeated (l : List AlertEntry) (p q : AlertPair) (param : Option Byte) (now : Nat) :
    (l.map fun e => if e.pair == p then e.repeated param now else e).find? (fun e => e.pair == q) =
      (l.find? fun e => e.pair == q).map fun e => if e.pair == p then e.repeated param now else e := by
  rw [List.find?_map]
  congr 2
  funext e
  simp only [Function.comp_apply]
  split <;> rfl

/-- A raise leaves the entry of every other pair. -/
theorem AlertUnit.entry_raise_other (u : AlertUnit) {p q : AlertPair} (param : Option Byte) (now : Nat) (h : q ≠ p) :
    (u.raise p param now).1.entry q = u.entry q := by
  unfold AlertUnit.raise AlertUnit.entry
  split
  · simp [List.find?_append, AlertEntry.created, Ne.symm h]
  · rw [AlertEntry.find?_repeated]
    cases found : u.entries.find? fun e => e.pair == q with
    | none => rfl
    | some e =>
      have pair : e.pair = q := by simpa using List.find?_some found
      simp [pair, h]

/-- A raise leaves its pair PENDING, with the parameter and the time of the raise (R136, R139). -/
theorem AlertUnit.entry_raise_same (u : AlertUnit) (p : AlertPair) (param : Option Byte) (now : Nat) :
    ∃ e, (u.raise p param now).1.entry p = some e ∧ e.parameter = param ∧ e.latest = now ∧ e.state = .pending := by
  unfold AlertUnit.raise
  cases found : u.entry p with
  | none =>
    refine ⟨AlertEntry.created p param now, ?_, rfl, rfl, rfl⟩
    unfold AlertUnit.entry at found ⊢
    simp [List.find?_append, found, AlertEntry.created]
  | some e =>
    refine ⟨e.repeated param now, ?_, rfl, rfl, rfl⟩
    have pair : e.pair = p := by simpa using List.find?_some found
    unfold AlertUnit.entry at found ⊢
    dsimp only
    rw [AlertEntry.find?_repeated, found]
    simp [pair]

/-- A report of false leaves the entry of every other pair (R137). -/
theorem AlertUnit.entry_reportFalse_other (u : AlertUnit) {p q : AlertPair} (h : q ≠ p) :
    (u.reportFalse p).entry q = u.entry q := by
  unfold AlertUnit.reportFalse AlertUnit.entry
  split
  · dsimp only
    rw [List.find?_filter]
    congr 1
    funext e
    by_cases pair : e.pair = q
    · simp [pair, h]
    · simp [pair]
  · rfl

theorem State.entry_report_other (s : State) {p q : AlertPair} (v : Bool) (param : Option Byte) (h : q ≠ p) :
    (s.report p v param).alerts.entry q = s.alerts.entry q := by
  cases v
  · exact s.alerts.entry_reportFalse_other h
  · show (s.alerts.reportTrue p param s.time.deviceTime).1.entry q = _
    unfold AlertUnit.reportTrue
    split
    · rfl
    · exact AlertUnit.entry_raise_other _ param _ h

/-! ## What is noted of one account -/

/-- From s to t nothing that a period notes of account i changes: the last winning entry, the unobserved-now flag, the
EXCURSION entry, and the held value of UNOBSERVED. -/
structure State.sameNotes (s t : State) (i : AccountIx) : Prop where
  winner : t.meter.lastWinner[i] = s.meter.lastWinner[i]
  unobserved : t.meter.unobservedNow[i] = s.meter.unobservedNow[i]
  excursion : t.alerts.entry (accountPair i .excursion) = s.alerts.entry (accountPair i .excursion)
  held : t.alerts.holds (accountPair i .unobserved) = s.alerts.holds (accountPair i .unobserved)

theorem State.sameNotes_trans {s t u : State} {i : AccountIx} (h : s.sameNotes t i) (k : t.sameNotes u i) :
    s.sameNotes u i :=
  ⟨k.winner.trans h.winner, k.unobserved.trans h.unobserved, k.excursion.trans h.excursion, k.held.trans h.held⟩

theorem State.sameNotes_of_same {s t : State} (meter : t.meter = s.meter) (alerts : t.alerts = s.alerts)
    (i : AccountIx) : s.sameNotes t i :=
  ⟨by rw [meter], by rw [meter], by rw [alerts], by rw [alerts]⟩

theorem State.sameNotes_refl (s : State) (i : AccountIx) : s.sameNotes s i := State.sameNotes_of_same rfl rfl i

theorem State.sameNotes_of_changesOnly {s t : State} {ps : List Part} (h : s.changesOnly t ps) (meter : Part.meter ∉ ps)
    (alerts : Part.alerts ∉ ps) (i : AccountIx) : s.sameNotes t i :=
  State.sameNotes_of_same (h .meter meter) (h .alerts alerts) i

/-- A report of another pair than the account's EXCURSION and UNOBSERVED. -/
theorem State.report_sameNotes (s : State) {p : AlertPair} (v : Bool) (param : Option Byte) {i : AccountIx}
    (excursion : accountPair i .excursion ≠ p) (unobserved : accountPair i .unobserved ≠ p) :
    s.sameNotes (s.report p v param) i :=
  have meter := s.report_meter p v param
  ⟨by rw [meter], by rw [meter], s.entry_report_other v param excursion, s.holds_report_other v param unobserved⟩

theorem State.evalThresholds_sameNotes (s : State) (i j : AccountIx) : s.sameNotes (s.evalThresholds i) j := by
  have due : s.sameNotes (s.evalServiceDue i) j := by
    unfold State.evalServiceDue
    dsimp only
    split
    · exact s.sameNotes_refl j
    · refine State.sameNotes_trans ?_ (State.report_sameNotes _ _ _ ?_ ?_)
      · exact ⟨rfl, rfl, rfl, rfl⟩
      all_goals simp [accountPair]
  have life (x : State) : x.sameNotes (x.evalLifeLimit i) j := by
    unfold State.evalLifeLimit
    dsimp only
    split
    · exact x.sameNotes_refl j
    · refine State.sameNotes_trans ?_ (State.report_sameNotes _ _ _ ?_ ?_)
      · exact ⟨rfl, rfl, rfl, rfl⟩
      all_goals simp [accountPair]
  exact State.sameNotes_trans due (life _)

theorem State.evalCarried_sameNotes (s : State) (i j : AccountIx) (n : Nat) : s.sameNotes (s.evalCarried i n) j := by
  unfold State.evalCarried
  split
  · exact s.sameNotes_refl j
  · exact s.evalThresholds_sameNotes i j

/-- The time, the bin and the credit of a period note nothing. -/
theorem State.credited_sameNotes (s : State) (i j : AccountIx) (f : Account → Account) (n : Nat) :
    s.sameNotes ((s.changeAccount i f).credit i n) j :=
  State.sameNotes_trans
    (State.sameNotes_of_changesOnly
      (State.changesOnly_trans (s.changeAccount_changesOnly i f) (State.changeAccount_changesOnly _ i _)) (by decide)
      (by decide) j)
    (State.evalCarried_sameNotes _ i j _)

/-! ## The period of another account -/

theorem State.setUnobservedNow_sameNotes (s : State) {i j : AccountIx} (v : Bool) (h : i ≠ j) :
    s.sameNotes (s.setUnobservedNow i v) j :=
  ⟨rfl, by simp [Fin.val_inj, h], rfl, rfl⟩

/-- A report of UNOBSERVED of account i with its flag set or cleared. -/
theorem State.reportUnobserved_sameNotes (s : State) {i j : AccountIx} (v : Bool) (param : Option Byte) (h : i ≠ j) :
    s.sameNotes ((s.setUnobservedNow i v).report (accountPair i .unobserved) v param) j :=
  State.sameNotes_trans (s.setUnobservedNow_sameNotes v h)
    (State.report_sameNotes _ v param (by simp [accountPair]) (by simp [accountPair, Ne.symm h]))

theorem State.clearUnobserved_sameNotes (s : State) {i j : AccountIx} (h : i ≠ j) :
    s.sameNotes (s.clearUnobserved i) j := by
  unfold State.clearUnobserved
  split
  · exact s.reportUnobserved_sameNotes false none h
  · exact s.sameNotes_refl j

theorem State.noteUnobserved_sameNotes (s : State) {i j : AccountIx} (h : i ≠ j) :
    s.sameNotes (s.noteUnobserved i) j := by
  unfold State.noteUnobserved
  split
  · exact s.sameNotes_refl j
  · exact s.reportUnobserved_sameNotes true _ h

/-- The last winning entry of account i set (R72). -/
def State.setLastWinner (s : State) (i : AccountIx) (w : Option (Fin 16)) : State :=
  { s with meter := { s.meter with lastWinner := s.meter.lastWinner.set i w } }

theorem State.noteWinner_excursion {s : State} {i : AccountIx} {k : Fin 16}
    (excursion : s.bands.entries[k].weightPart.cls = .excursion) (new : s.meter.lastWinner[i] ≠ some k) :
    s.noteWinner i (some k) =
      (s.setLastWinner i (some k)).raiseEvent (accountPair i .excursion) (some (byteOf k.val)) := by
  unfold State.noteWinner
  dsimp only
  rw [if_pos (by simp only [Bool.and_eq_true, beq_iff_eq, bne_iff_ne]; exact ⟨excursion, new⟩)]
  rfl

theorem State.noteWinner_sameNotes (s : State) {i j : AccountIx} (w : Option (Fin 16)) (h : i ≠ j) :
    s.sameNotes (s.noteWinner i w) j := by
  have set_ : s.sameNotes (s.setLastWinner i w) j := ⟨by simp [State.setLastWinner, Fin.val_inj, h], rfl, rfl, rfl⟩
  have raised (param : Option Byte) :
      s.sameNotes ((s.setLastWinner i w).raiseEvent (accountPair i .excursion) param) j :=
    State.sameNotes_trans set_ ⟨rfl, rfl, AlertUnit.entry_raise_other _ _ _ (by simp [accountPair, Ne.symm h]),
      AlertUnit.holds_raise _ _ _ _ _⟩
  unfold State.noteWinner
  dsimp only
  split
  · split
    · exact raised _
    · exact set_
  · exact set_

/-- The period of account i notes nothing of another. -/
theorem State.meterAccount_sameNotes (s : State) {i j : AccountIx} (h : i ≠ j) : s.sameNotes (s.meterAccount i) j := by
  unfold State.meterAccount
  split
  · exact State.sameNotes_trans
      (State.sameNotes_trans (s.clearUnobserved_sameNotes h) (State.noteWinner_sameNotes _ _ h))
      (State.credited_sameNotes _ i j _ _)
  · exact s.clearUnobserved_sameNotes h
  · split
    · refine State.sameNotes_trans ?_ (State.evalCarried_sameNotes _ i j _)
      refine State.sameNotes_trans ?_ (State.sameNotes_of_changesOnly (State.flagOpen_changesOnly _ _) (by decide)
        (by decide) j)
      exact State.sameNotes_trans
        (State.sameNotes_of_changesOnly (s.changeAccount_changesOnly i _) (by decide) (by decide) j)
        (State.noteUnobserved_sameNotes _ h)
    · exact s.sameNotes_refl j

theorem State.foldl_meterAccount_sameNotes (l : List AccountIx) (s : State) {j : AccountIx} (out : j ∉ l) :
    s.sameNotes (l.foldl State.meterAccount s) j := by
  induction l generalizing s with
  | nil => exact s.sameNotes_refl j
  | cons i l ih =>
    obtain ⟨differs, out⟩ := not_or.mp (fun m => out (List.mem_cons.mpr m))
    exact State.sameNotes_trans (s.meterAccount_sameNotes (Ne.symm differs)) (ih _ out)

/-! ## The pass around the period of one account -/

/-- What x, where the period of account i begins, has of the state before the pass. -/
structure State.beforePeriod (s x : State) (i : AccountIx) : Prop where
  settings : x.settings = s.settings
  lines : x.lines = s.lines
  intake : x.intake = s.intake
  time : x.time = s.time
  entries : x.bands.entries = s.activeEntries
  notes : s.sameNotes x i

/-- The pass is the period of account i between two runs that note nothing of it. -/
theorem State.meteringPass_splits (s : State) (i : AccountIx) :
    ∃ x, s.beforePeriod x i ∧ (x.meterAccount i).sameNotes s.meteringPass i ∧
      (x.meterAccount i).flagsUnobserved s.meteringPass := by
  have once : ([0, 1, 2, 3, 4] : List AccountIx).Nodup := by decide
  have each : i ∈ ([0, 1, 2, 3, 4] : List AccountIx) := by
    revert i
    decide
  obtain ⟨before, after, parts⟩ := List.append_of_mem each
  rw [parts, List.nodup_middle, List.nodup_cons] at once
  obtain ⟨out, -⟩ := once
  obtain ⟨outBefore, outAfter⟩ := not_or.mp (fun m => out (List.mem_append.mpr m))
  have activated := s.activateStaged_changesOnly
  have run := State.changesOnly_foldl State.meterAccount_changesOnly before s.activateStaged
  have rest := State.changesOnly_then (rs := .bands :: .engine :: meterParts) activated run (by decide) (by decide)
  have bands : (before.foldl State.meterAccount s.activateStaged).bands = s.activateStaged.bands :=
    run .bands (by decide)
  refine ⟨before.foldl State.meterAccount s.activateStaged, ⟨rest .settings (by decide), rest .lines (by decide),
    rest .intake (by decide), rest .time (by decide), ?_, ?_⟩, ?_⟩
  · rw [bands]
    exact s.activateStaged_entries
  · exact State.sameNotes_trans (State.sameNotes_of_changesOnly activated (by decide) (by decide) i)
      (State.foldl_meterAccount_sameNotes before _ outBefore)
  · rw [State.meteringPass_eq, State.meteredAll, parts, List.foldl_append, List.foldl_cons]
    have revolved (y : State) := y.revolutions_changesOnly
    exact ⟨State.sameNotes_trans (State.foldl_meterAccount_sameNotes after _ outAfter)
        (State.sameNotes_of_changesOnly (revolved _) (by decide) (by decide) i),
      State.flagsUnobserved_trans (State.foldl_meterAccount_flagsUnobserved after _)
        (State.flagsUnobserved_of_changesOnly (revolved _) (by decide))⟩

/-! ## EXCURSION (R72) -/

/-- The last winning entry of account i is k, and its EXCURSION is PENDING with that index, raised at a time (R72). -/
def State.excursionRaised (s : State) (i : AccountIx) (k : Fin 16) (now : Nat) : Prop :=
  s.meter.lastWinner[i] = some k ∧
    ∃ e, s.alerts.entry (accountPair i .excursion) = some e ∧ e.parameter = some (byteOf k.val) ∧ e.latest = now ∧
      e.state = .pending

theorem State.sameNotes.excursionRaised {s t : State} {i : AccountIx} {k : Fin 16} {now : Nat} (h : s.sameNotes t i)
    (raised : s.excursionRaised i k now) : t.excursionRaised i k now := by
  unfold State.excursionRaised
  rw [h.winner, h.excursion]
  exact raised

/-- A new EXCURSION winner is raised with its index and becomes the last winning entry. -/
theorem State.noteWinner_raises {s : State} {i : AccountIx} {k : Fin 16}
    (excursion : s.bands.entries[k].weightPart.cls = .excursion) (new : s.meter.lastWinner[i] ≠ some k) :
    (s.noteWinner i (some k)).excursionRaised i k s.time.deviceTime := by
  rw [State.noteWinner_excursion excursion new]
  refine ⟨?_, AlertUnit.entry_raise_same _ _ _ _⟩
  simp [State.setLastWinner, State.raiseEvent]

theorem State.clearUnobserved_lastWinner (s : State) (i : AccountIx) :
    (s.clearUnobserved i).meter.lastWinner = s.meter.lastWinner := by
  unfold State.clearUnobserved
  split
  · rw [State.report_meter]
    rfl
  · rfl

theorem State.activePeriod_raises {s : State} {i : AccountIx} {k : Fin 16}
    (won : winner s.bands.entries s.intake i = some k) (excursion : s.bands.entries[k].weightPart.cls = .excursion)
    (new : s.meter.lastWinner[i] ≠ some k) : (s.activePeriod i).excursionRaised i k s.time.deviceTime := by
  have cleared := s.clearUnobserved_changesOnly i
  have bands : (s.clearUnobserved i).bands = s.bands := cleared .bands (by decide)
  have time : (s.clearUnobserved i).time = s.time := cleared .time (by decide)
  have raised : ((s.clearUnobserved i).noteWinner i (some k)).excursionRaised i k (s.clearUnobserved i).time.deviceTime :=
    State.noteWinner_raises (by rw [bands]; exact excursion) (by rw [s.clearUnobserved_lastWinner i]; exact new)
  rw [time] at raised
  unfold State.activePeriod
  dsimp only
  rw [won]
  exact (State.credited_sameNotes _ i i _ _).excursionRaised raised

/-! ## UNOBSERVED (R69) -/

/-- The OPEN segment, if there is one, has UNOBSERVED set. -/
def State.openFlagged (s : State) : Prop := ∀ e, s.log.openEntry = some e → e.seg.flags.unobserved = true

theorem State.flagsUnobserved.openFlagged {s t : State} (h : s.flagsUnobserved t) (flagged : s.openFlagged) :
    t.openFlagged := by
  intro e opened
  rcases h with same | ⟨d, found, set_⟩
  · exact flagged e (same ▸ opened)
  · rw [set_, SegmentLog.openEntry_modify s.log d.slot (f := Segment.notObserved) fun _ => rfl, found] at opened
    cases opened
    simp [Segment.notObserved]

/-- UNOBSERVED noted: the flag is set, and the first of a run is reported true. -/
theorem State.noteUnobserved_reports (s : State) (i : AccountIx) :
    (s.noteUnobserved i).meter.unobservedNow[i] = true ∧
      (s.meter.unobservedNow[i] = false → (s.noteUnobserved i).alerts.holds (accountPair i .unobserved) = true) := by
  unfold State.noteUnobserved
  split
  · next set_ => exact ⟨set_, fun clear => by rw [set_] at clear; cases clear⟩
  · refine ⟨?_, fun _ => State.holds_report_same _ _ _ _⟩
    show (s.setUnobservedNow i true).meter.unobservedNow[i] = true
    simp

/-- An unobserved period sets the flag, reports the first of a run, and flags the OPEN segment (R69). -/
theorem State.unobservedPeriod_reports (s : State) (i : AccountIx) :
    (s.unobservedPeriod i).meter.unobservedNow[i] = true ∧
      (s.meter.unobservedNow[i] = false →
        (s.unobservedPeriod i).alerts.holds (accountPair i .unobserved) = true) ∧
      (s.unobservedPeriod i).openFlagged := by
  unfold State.unobservedPeriod
  dsimp only
  have changed := s.changeAccount_changesOnly i fun a => a.addUnobserved.addCredit ((s.account i).fallbackWeight * 8)
  generalize s.changeAccount i _ = x at changed
  have meter : x.meter = s.meter := changed .meter (by decide)
  obtain ⟨flag, held⟩ := x.noteUnobserved_reports i
  have flagged := (x.noteUnobserved i).flagOpen_sets (f := fun f => { f with unobserved := true })
    (P := fun f => f.unobserved = true) fun _ => rfl
  have notes := State.sameNotes_of_changesOnly
    ((x.noteUnobserved i).flagOpen_changesOnly fun f => { f with unobserved := true }) (by decide) (by decide) i
  generalize (x.noteUnobserved i).flagOpen _ = y at flagged notes
  have last := State.sameNotes_trans notes
    (y.evalCarried_sameNotes i i ((s.account i).increment ((s.account i).fallbackWeight * 8)))
  have log := State.evalCarried_changesOnly y i ((s.account i).increment ((s.account i).fallbackWeight * 8)) .log
    (by decide)
  refine ⟨last.unobserved.trans flag, fun clear => last.held.trans (held (by rw [meter]; exact clear)), fun e opened => ?_⟩
  exact flagged e (by rw [← opened]; exact congrArg SegmentLog.openEntry log.symm)

/-! ## The whole pass (O16) -/

theorem State.meteringPass_excursion {s : State} {i : AccountIx} {k : Fin 16}
    (active : activity s.settings s.lines.crank s.intake i = some true)
    (won : winner s.activeEntries s.intake i = some k) (excursion : s.activeEntries[k].weightPart.cls = .excursion)
    (new : s.meter.lastWinner[i] ≠ some k) :
    s.meteringPass.excursionRaised i k s.time.deviceTime := by
  obtain ⟨x, before, after, -⟩ := s.meteringPass_splits i
  have period : x.meterAccount i = x.activePeriod i := by
    unfold State.meterAccount
    rw [before.settings, before.lines, before.intake, active]
  rw [period] at after
  rw [← before.time]
  refine after.excursionRaised (State.activePeriod_raises ?_ ?_ ?_)
  · rw [before.entries, before.intake]
    exact won
  · rw [before.entries]
    exact excursion
  · rw [before.notes.winner]
    exact new

theorem State.meteringPass_unobserved {s : State} {i : AccountIx}
    (unknown : activity s.settings s.lines.crank s.intake i = none) (ign : s.lines.ign = true) :
    s.meteringPass.meter.unobservedNow[i] = true ∧
      (s.meter.unobservedNow[i] = false → s.meteringPass.alerts.holds (accountPair i .unobserved) = true) ∧
      s.meteringPass.openFlagged := by
  obtain ⟨x, before, after, flags⟩ := s.meteringPass_splits i
  have period : x.meterAccount i = x.unobservedPeriod i := by
    unfold State.meterAccount
    rw [before.settings, before.lines, before.intake, unknown]
    exact if_pos ign
  rw [period] at after flags
  obtain ⟨flag, held, flagged⟩ := x.unobservedPeriod_reports i
  exact ⟨after.unobserved.trans flag, fun clear => after.held.trans (held (before.notes.unobserved.trans clear)),
    flags.openFlagged flagged⟩

/-- Settles O16: the period of the account notes what R69 and R72 say, and the rest of the pass leaves it. -/
theorem meteringRaisesAlerts : Obligations.MeteringRaisesAlerts := by
  intro s i running timed
  have pass := exec_meteringExpiry_pass running timed
  refine ⟨fun k active won excursion new => ?_, fun unknown ign => ?_⟩
  · have entry : s.activeEntries[k] = s.bands.entries[k].activated := Vector.getElem_map ..
    obtain ⟨last, e, found, parameter, latest, pending⟩ := State.meteringPass_excursion (s := s.periodStarted) active won
      (show s.activeEntries[k].weightPart.cls = .excursion by rw [entry]; exact excursion) new
    exact ⟨_, e, pass, last, found, parameter, latest, pending⟩
  · obtain ⟨flag, held, flagged⟩ := State.meteringPass_unobserved (s := s.periodStarted) unknown ign
    exact ⟨_, pass, flag, held, flagged⟩

end Sys2Proof.Machine
end

section
/-! PROOFS. The transmit queue and the start history stay bounded (O6): one invariant, `bounded`, through every operation. -/

namespace Sys2Proof.Machine

/-! ## The invariant -/

/-- The transmit queue within its places wherever p, and the start history within its own wherever q (R105, R172). The two
conditions let one walk through the operations serve both bounds, each without the other. -/
structure State.bounded (s : State) (p q : Prop) : Prop where
  tx : p → s.txBounded
  ring : q → s.ringBounded

section

variable {s t : State} {p q : Prop}

theorem State.bounded.of_same (h : s.bounded p q) (port : t.port = s.port)
    (ring : t.qualifier.ring = s.qualifier.ring) : t.bounded p q where
  tx x := (congrArg (fun y : Port => y.tx.length ≤ txPlaces) port).mpr (h.tx x)
  ring x := (congrArg (fun y : List HistoryEntry => y.length ≤ ringPlaces) ring).mpr (h.ring x)

/-- An operation on other parts than the port and the Qualifier. -/
theorem State.bounded.frame {ps : List Part} (h : s.bounded p q) (c : s.changesOnly t ps)
    (port : Part.port ∉ ps := by decide) (qualifier : Part.qualifier ∉ ps := by decide) : t.bounded p q :=
  h.of_same (c .port port) (congrArg Qualifier.ring (c .qualifier qualifier))

theorem State.bounded_ite {c : Prop} [Decidable c] (h : s.bounded p q) (k : t.bounded p q) :
    (if c then s else t).bounded p q := by
  split
  · exact h
  · exact k

theorem State.bounded.foldl {α : Type} {f : State → α → State} (h : s.bounded p q)
    (step : ∀ (x : State) (a : α), x.bounded p q → (f x a).bounded p q) (l : List α) : (l.foldl f s).bounded p q := by
  induction l generalizing s with
  | nil => exact h
  | cons a l ih => exact ih (step s a h)

/-! ## What enters the transmit queue (R145, R170 to R172) -/

theorem State.bounded.push (h : s.bounded p q) (room : s.port.hasRoom = true) (f : Frame) :
    { s with port := s.port.push f }.bounded p q :=
  ⟨fun _ => Port.push_bounded _ f room, h.ring⟩

theorem State.bounded.withAlerts {r : AlertUnit × Option AlertEntry} (h : s.bounded p q) :
    (s.withAlerts r).bounded p q :=
  ⟨fun x => s.withAlerts_txBounded r (h.tx x), h.ring⟩

theorem State.bounded.report {pair : AlertPair} {v : Bool} {param : Option Byte} (h : s.bounded p q) :
    (s.report pair v param).bounded p q :=
  h.withAlerts

theorem State.bounded.raiseEvent {pair : AlertPair} {param : Option Byte} (h : s.bounded p q) :
    (s.raiseEvent pair param).bounded p q :=
  h.withAlerts

theorem State.bounded.offer {k : SlotIx} {kind : Byte} {ops : List Byte} {f : Frame} (h : s.bounded p q) :
    (s.offer k kind ops f).bounded p q where
  tx x := s.offer_txBounded k kind ops f (h.tx x)
  ring x := by
    rw [State.ringBounded, s.offer_changesOnly k kind ops f .qualifier (by decide)]
    exact h.ring x

theorem State.bounded.releaseSlot {k : SlotIx} {o : ReqOutcome} (h : s.bounded p q) :
    (s.releaseSlot k o).bounded p q := by
  unfold State.releaseSlot
  split
  · split
    · exact h.offer
    · exact h
  · exact h

theorem State.bounded.releaseSatisfied (h : s.bounded p q) : s.releaseSatisfied.bounded p q :=
  h.foldl (fun _ _ hx => State.bounded_ite hx.releaseSlot hx) _

theorem State.bounded.releaseVolatile (h : s.bounded p q) : s.releaseVolatile.bounded p q :=
  h.foldl (fun _ _ hx => hx.releaseSlot) _

/-! ## Accounts and the OPEN segment -/

theorem State.bounded.evalThresholds {i : AccountIx} (h : s.bounded p q) : (s.evalThresholds i).bounded p q := by
  have due : (s.evalServiceDue i).bounded p q :=
    State.bounded_ite h (State.bounded.report (h.of_same rfl rfl))
  exact State.bounded_ite due (State.bounded.report (due.of_same rfl rfl))

theorem State.bounded.changeAccount {i : AccountIx} {g : Account → Account} (h : s.bounded p q) :
    (s.changeAccount i g).bounded p q :=
  h.frame (s.changeAccount_changesOnly i g)

theorem State.bounded.evalCarried {i : AccountIx} {k : Nat} (h : s.bounded p q) : (s.evalCarried i k).bounded p q :=
  State.bounded_ite h h.evalThresholds

theorem State.bounded.credit {i : AccountIx} {k : Nat} (h : s.bounded p q) : (s.credit i k).bounded p q :=
  h.changeAccount.evalCarried

theorem State.bounded.credits {i : AccountIx} {m k : Nat} (h : s.bounded p q) : (s.credits i m k).bounded p q := by
  induction k generalizing s with
  | zero => exact h
  | succ k ih => exact ih h.credit

theorem State.bounded.postEvents {i : AccountIx} {k m : Nat} (h : s.bounded p q) : (s.postEvents i k m).bounded p q :=
  h.changeAccount.credits

theorem State.bounded.evalNearFull (h : s.bounded p q) : s.evalNearFull.bounded p q :=
  State.bounded_ite h (State.bounded.report (h.of_same rfl rfl))

theorem State.bounded.flagOpen {g : SegmentFlags → SegmentFlags} (h : s.bounded p q) : (s.flagOpen g).bounded p q :=
  h.frame (s.flagOpen_changesOnly g)

theorem State.bounded.setStore {st : Store} (h : s.bounded p q) : { s with store := st }.bounded p q :=
  h.of_same rfl rfl

theorem State.bounded.hand {r : RecordId} (h : s.bounded p q) : (s.hand r).bounded p q :=
  h.frame (s.hand_changesOnly r)

/-! ## The Start Qualifier (R93 to R109) -/

/-- The ring never outgrows its places: a full one loses its oldest entry (R105). -/
theorem pushRing_length (ring : List HistoryEntry) (e : HistoryEntry) : (pushRing ring e).length ≤ ringPlaces := by
  simp only [pushRing, List.length_drop, List.length_append, List.length_cons, List.length_nil]
  omega

theorem State.bounded.setQualifier {x : QualifierState} (h : s.bounded p q) : (s.setQualifier x).bounded p q :=
  h.of_same rfl rfl

theorem State.bounded.reformLatch (h : s.bounded p q) : s.reformLatch.bounded p q := by
  unfold State.reformLatch
  split <;> exact h.of_same rfl rfl

theorem State.bounded.crankTrigger (h : s.bounded p q) : s.crankTrigger.bounded p q := by
  have posted (cold : Bool) : (s.postStarter cold).bounded p q := h.postEvents
  unfold State.crankTrigger
  split
  · exact (posted _).setQualifier
  · exact (posted _).setQualifier
  · exact (posted _).setQualifier
  · exact (posted _).changeAccount

theorem State.bounded.reformCrank (h : s.bounded p q) : s.reformCrank.bounded p q :=
  State.bounded_ite h.reformLatch.crankTrigger h.reformLatch

theorem State.bounded.crankLine {asserted : Bool} (h : s.bounded p q) : (s.crankLine asserted).bounded p q := by
  have formed : (State.reformCrank { s with lines := { s.lines with crank := asserted } }).bounded p q :=
    State.bounded.reformCrank (h.of_same rfl rfl)
  exact State.bounded_ite formed.crankTrigger formed

/-- An attempt ended and entered in the history, before START_FAILURES is considered. -/
def State.attemptEntered (s : State) (a : Attempt) (o : AttemptOutcome) (q : QualifierState) : State :=
  { s with
    qualifier :=
      { s.qualifier with
        state := q
        failures := failuresAfter s.qualifier.failures o
        ring := pushRing s.qualifier.ring (a.entry o) } }

theorem State.endAttempt_eq (s : State) (a : Attempt) (o : AttemptOutcome) (q : QualifierState) :
    s.endAttempt a o q = (s.attemptEntered a o q).raiseFailures o := rfl

/-- The end of an attempt pushes one entry and may raise START_FAILURES. -/
theorem State.bounded.endAttempt {a : Attempt} {o : AttemptOutcome} {x : QualifierState} (h : s.bounded p q) :
    (s.endAttempt a o x).bounded p q := by
  have entered : (s.attemptEntered a o x).bounded p q := ⟨h.tx, fun _ => pushRing_length _ _⟩
  exact State.bounded_ite entered.raiseEvent entered

theorem State.bounded.speedUpdate (h : s.bounded p q) : s.speedUpdate.bounded p q := by
  unfold State.speedUpdate
  split
  · exact State.bounded_ite h.changeAccount.setQualifier h
  · exact h
  · exact State.bounded_ite h.setQualifier h
  · exact h
  · exact State.bounded_ite h.endAttempt h
  · exact h
  · exact State.bounded_ite h.setQualifier h.setQualifier
  · exact h.setQualifier

theorem State.bounded.speedLost (h : s.bounded p q) : s.speedLost.bounded p q := by
  unfold State.speedLost
  split
  · exact h.endAttempt
  · exact h.setQualifier
  all_goals exact h

theorem State.bounded.windowExpiry (h : s.bounded p q) : s.windowExpiry.bounded p q := by
  unfold State.windowExpiry
  split
  · exact h.endAttempt
  all_goals exact h

theorem State.bounded.confirmDone (h : s.bounded p q) : s.confirmDone.bounded p q := by
  have posted (a : Attempt) : (s.postQualified a).bounded p q :=
    State.bounded_ite h.postEvents.changeAccount h.postEvents
  unfold State.confirmDone
  split
  · exact State.bounded_ite (posted _).endAttempt h.endAttempt
  all_goals exact h

theorem State.bounded.stopDone (h : s.bounded p q) : s.stopDone.bounded p q := by
  unfold State.stopDone
  split
  · exact h.setQualifier
  all_goals exact h

theorem State.bounded.stopQualifier (h : s.bounded p q) : s.stopQualifier.bounded p q := by
  have ended : s.endForMode.bounded p q := by
    unfold State.endForMode
    split
    · exact h.endAttempt
    · exact h.endAttempt
    · exact h.setQualifier
    · exact h
  exact ended.of_same rfl rfl

theorem State.bounded.resumeQualifier (h : s.bounded p q) : s.resumeQualifier.bounded p q := by
  unfold State.resumeQualifier
  dsimp only
  split
  · exact h.reformCrank.setQualifier
  all_goals exact h.reformCrank

/-! ## Signal Intake -/

theorem State.bounded.setIntake {x : Intake} (h : s.bounded p q) : { s with intake := x }.bounded p q :=
  h.of_same rfl rfl

theorem State.bounded.setAgeing {m : SignalName} {g : Ageing} (h : s.bounded p q) : (s.setAgeing m g).bounded p q :=
  h.of_same rfl rfl

theorem State.bounded.passUnknown {m : SignalName} {age : Nat} (h : s.bounded p q) :
    (s.passUnknown m age).bounded p q := by
  have handed {x : State} (hx : x.bounded p q) : (x.handUnknown m).bounded p q := by
    cases m
    case engineSpeed => exact hx.speedLost
    case starterStatus => exact hx.reformCrank
    all_goals exact hx.of_same rfl rfl
  unfold State.passUnknown
  split
  · exact h
  all_goals exact handed h.setAgeing

theorem State.bounded.passHeld {m : SignalName} (h : s.bounded p q) : (s.passHeld m).bounded p q := by
  unfold State.passHeld
  split
  · exact h.setAgeing
  all_goals exact h

theorem State.bounded.reclassify {m : SignalName} (h : s.bounded p q) : (s.reclassify m).bounded p q :=
  State.bounded_ite h.passUnknown (State.bounded_ite h.setAgeing h)

theorem State.bounded.reclassifyAll (h : s.bounded p q) : s.reclassifyAll.bounded p q :=
  h.foldl (f := State.reclassify) (fun _ _ hx => hx.reclassify) _

theorem State.bounded.intakeParked (h : s.bounded p q) : s.intakeParked.bounded p q := by
  have passed : (signalNames.foldl (fun x m => x.passUnknown m (x.intake.ageing m).age) s).bounded p q :=
    h.foldl (fun _ _ hx => hx.passUnknown) _
  unfold State.intakeParked
  exact State.bounded.setIntake passed

theorem State.bounded.postCounted {i : AccountIx} {k : Nat} (h : s.bounded p q) : (s.postCounted i k).bounded p q :=
  State.bounded_ite h h.postEvents

theorem State.bounded.decode {fmt : ObsFormat} {data : List Byte} (h : s.bounded p q) :
    (s.decode fmt data).bounded p q := by
  cases fmt with
  | engineState =>
    show (s.decodeEngine data).bounded p q
    unfold State.decodeEngine
    split
    · exact State.bounded_ite h.setIntake.reformCrank.speedUpdate h.setIntake
    · exact h
  | drivelineState =>
    show (s.decodeDriveline data).bounded p q
    unfold State.decodeDriveline
    split
    · exact h.setIntake
    · exact h
  | drivelineEvent =>
    show (s.decodeEvent data).bounded p q
    unfold State.decodeEvent
    split
    · exact h.setIntake.postCounted.postCounted
    · exact h

/-! ## The metering pass -/

theorem State.bounded.setMeter {m : Meter} (h : s.bounded p q) : { s with meter := m }.bounded p q :=
  h.of_same rfl rfl

theorem State.bounded.clearUnobserved {i : AccountIx} (h : s.bounded p q) : (s.clearUnobserved i).bounded p q :=
  State.bounded_ite (State.bounded.report (h.of_same rfl rfl)) h

theorem State.bounded.noteWinner {i : AccountIx} {w : Option (Fin 16)} (h : s.bounded p q) :
    (s.noteWinner i w).bounded p q := by
  cases w with
  | none => exact h.setMeter
  | some k => exact State.bounded_ite h.setMeter.raiseEvent h.setMeter

theorem State.bounded.unobservedPeriod {i : AccountIx} (h : s.bounded p q) : (s.unobservedPeriod i).bounded p q := by
  have noted {x : State} (hx : x.bounded p q) : (x.noteUnobserved i).bounded p q :=
    State.bounded_ite hx (State.bounded.report (hx.of_same rfl rfl))
  exact (noted h.changeAccount).flagOpen.evalCarried

theorem State.bounded.activePeriod {i : AccountIx} (h : s.bounded p q) : (s.activePeriod i).bounded p q :=
  h.clearUnobserved.noteWinner.changeAccount.credit

theorem State.bounded.meterAccount {i : AccountIx} (h : s.bounded p q) : (s.meterAccount i).bounded p q := by
  unfold State.meterAccount
  split
  · exact h.activePeriod
  · exact h.clearUnobserved
  · exact State.bounded_ite h.unobservedPeriod h

theorem State.bounded.meteringPass (h : s.bounded p q) : s.meteringPass.bounded p q := by
  have staged : s.activateStaged.bounded p q := h.frame s.activateStaged_changesOnly
  exact staged.meterAccount.meterAccount.meterAccount.meterAccount.meterAccount.frame (State.revolutions_changesOnly _)

theorem State.bounded.reportObserved (h : s.bounded p q) : s.reportObserved.bounded p q :=
  h.foldl (fun _ _ hx => hx.report) _

theorem State.bounded.meterParked (h : s.bounded p q) : s.meterParked.bounded p q := by
  have cleared : ((List.finRange 5).foldl State.clearUnobserved s).bounded p q :=
    h.foldl (fun _ _ hx => hx.clearUnobserved) _
  unfold State.meterParked
  exact cleared.setMeter

/-! ## Modes and the time base -/

/-- An operation that empties the transmit queue and leaves the history. -/
theorem State.bounded.emptied (h : s.bounded p q) (none_ : t.port.tx = [])
    (ring : t.qualifier.ring = s.qualifier.ring) : t.bounded p q where
  tx _ := by simp [State.txBounded, none_]
  ring x := by
    rw [State.ringBounded, ring]
    exact h.ring x

theorem State.bounded.dropRequests (h : s.bounded p q) : s.dropRequests.bounded p q :=
  h.emptied rfl rfl

theorem State.bounded.enterParked (h : s.bounded p q) : s.enterParked.bounded p q := by
  have parked : { s with time := { s.time with mode := .parked } }.bounded p q := h.of_same rfl rfl
  exact parked.intakeParked.meterParked.stopQualifier.dropRequests

theorem State.bounded.enterDormant (h : s.bounded p q) : s.enterDormant.bounded p q :=
  State.bounded.stopQualifier (h.of_same rfl rfl)

theorem State.bounded.bulkEnqueue {rs : List RecordId} (h : s.bounded p q) : (s.bulkEnqueue rs).bounded p q :=
  h.frame (s.bulkEnqueue_changesOnly rs)

theorem State.bounded.parkCheck (h : s.bounded p q) : s.parkCheck.bounded p q :=
  State.bounded_ite (State.bounded_ite h.bulkEnqueue h.enterParked) h

theorem State.bounded.wake (h : s.bounded p q) : s.wake.bounded p q :=
  State.bounded.reformCrank (h.of_same rfl rfl)

theorem State.bounded.restartLinger (h : s.bounded p q) : s.restartLinger.bounded p q :=
  h.of_same rfl rfl

theorem State.bounded.hearFrame {take : State → State} (h : s.bounded p q) (taken : (take s).bounded p q) :
    (s.hearFrame take).bounded p q :=
  State.bounded_ite (State.bounded_ite h.restartLinger.wake taken) h

theorem State.bounded.reportTimebase {v : Bool} (h : s.bounded p q) : (s.reportTimebase v).bounded p q :=
  State.bounded_ite h (State.bounded.report (h.of_same rfl rfl))

theorem State.bounded.timebaseBad (h : s.bounded p q) : s.timebaseBad.bounded p q :=
  h.reportTimebase.flagOpen

theorem State.bounded.settleTimebase (h : s.bounded p q) : s.settleTimebase.bounded p q := by
  unfold State.settleTimebase
  split
  · exact h.timebaseBad
  · exact h.reportTimebase
  all_goals exact h

theorem State.bounded.windowEnd {cycles : Nat} (h : s.bounded p q) : (s.windowEnd cycles).bounded p q := by
  have selected (v : Selection) (good : Nat) : (s.setSelection v good).bounded p q := h.of_same rfl rfl
  unfold State.windowEnd
  split
  · exact h
  · exact State.bounded_ite (selected _ _) (selected _ _).timebaseBad
  · exact State.bounded_ite (selected _ _) (selected _ _).reportTimebase
  · exact selected _ _

/-! ## The store and the supply -/

theorem State.bounded.beginReset {kind : ResetKind} {spoiled : Bool} (h : s.bounded p q) :
    (s.beginReset kind spoiled).bounded p q :=
  h.emptied rfl rfl

theorem State.bounded.recover (h : s.bounded p q) : s.recover.bounded p q := by
  have enqueued :
      (State.bulkEnqueue { s with store := { s.store with state := .ready, pfwReleased := false } }
        allRecords).bounded p q :=
    h.setStore.bulkEnqueue
  exact State.bounded_ite enqueued.wake enqueued

theorem State.bounded.flushNext (h : s.bounded p q) : s.flushNext.bounded p q := by
  unfold State.flushNext
  split
  · exact h.setStore.frame (State.startWrite_changesOnly _ _)
  · exact State.bounded_ite h.recover h.enterDormant

theorem State.bounded.startFlush (h : s.bounded p q) : s.startFlush.bounded p q :=
  State.bounded.flushNext (h.of_same rfl rfl)

theorem State.bounded.takePfw (h : s.bounded p q) : s.takePfw.bounded p q := by
  unfold State.takePfw
  split
  · exact h.startFlush
  · exact h.of_same rfl rfl
  · exact h.enterDormant
  all_goals exact h

theorem State.bounded.dropPfw (h : s.bounded p q) : s.dropPfw.bounded p q := by
  unfold State.dropPfw
  split <;> exact h.of_same rfl rfl

theorem State.bounded.completeGood {w : Write} (h : s.bounded p q) : (s.completeGood w).bounded p q := by
  have answered : (s.writeAnswered w).bounded p q := State.bounded.releaseSatisfied (h.of_same rfl rfl)
  rw [State.completeGood_eq]
  exact answered.frame (State.clearSuspect_changesOnly _ _)

theorem State.bounded.completeFault {w : Write} (h : s.bounded p q) : (s.completeFault w).bounded p q := by
  have lost : (s.imageLost w).bounded p q := h.of_same rfl rfl
  unfold State.completeFault
  dsimp only
  split
  · exact State.bounded_ite lost.raiseEvent (State.bounded.setStore lost.raiseEvent)
  · exact State.bounded.releaseVolatile (State.bounded.setStore lost.raiseEvent.report)

theorem State.bounded.afterWrite {before : Store} (h : s.bounded p q) : (s.afterWrite before).bounded p q := by
  have next : s.nextWrite.bounded p q := h.frame s.nextWrite_changesOnly
  unfold State.afterWrite
  refine State.bounded_ite h.beginReset ?_
  split
  · exact State.bounded_ite (State.bounded_ite h h.enterDormant) (State.bounded_ite h.enterDormant h.parkCheck)
  · exact h.flushNext
  all_goals exact State.bounded_ite h.startFlush next.parkCheck

theorem State.bounded.writeDone {w : Write} {faulted : Bool} (h : s.bounded p q) :
    (s.writeDone w faulted).bounded p q :=
  State.bounded.afterWrite (State.bounded_ite h.completeFault h.completeGood)

end

end Sys2Proof.Machine
end

section
/-! PROOFS. The transmit queue and the start history stay bounded (O6), continued: the ends of loads and resets, the requests,
the commands, and the statement. -/

namespace Sys2Proof.Machine

section

variable {s t : State} {p q : Prop}

/-! ## The end of a load and of a reset -/

theorem State.bounded.reportSuspect {r : RecordId} (h : s.bounded p q) : (s.reportSuspect r).bounded p q :=
  h.withAlerts

theorem State.bounded.loadAccounts (h : s.bounded p q) : s.loadAccounts.bounded p q := by
  have formed : s.tableFormed.bounded p q := h.of_same rfl rfl
  have reported : ((List.finRange 5).foldl State.reportLoaded s.tableFormed).bounded p q :=
    formed.foldl (fun _ _ hx => State.bounded_ite hx hx.report) _
  rw [State.loadAccounts_eq]
  exact reported.foldl (fun _ _ hx => hx.evalThresholds) _

theorem State.bounded.loadSettings {k : LoadKind} (h : s.bounded p q) : (s.loadSettings k).bounded p q := by
  have reported {x : State} (hx : x.bounded p q) :
      (if x.store.settingsSuspect then x.reportSuspect .settings else x).bounded p q :=
    State.bounded_ite hx.reportSuspect hx
  refine reported ?_
  split <;> exact h.of_same rfl rfl

theorem State.bounded.loadBand {kind : LoadKind} {k : Fin 16} (h : s.bounded p q) :
    (s.loadBand kind k).bounded p q := by
  have reported {x : State} (hx : x.bounded p q) :
      (if x.bands.suspect[k] then x.reportSuspect (.band k) else x).bounded p q :=
    State.bounded_ite hx.reportSuspect hx
  refine reported ?_
  cases kind with
  | cold =>
    show (s.formBand k).bounded p q
    rw [State.formBand_eq]
    exact h.of_same rfl rfl
  | failedCheck => exact h

theorem State.bounded.reportDamaged {k : Fin 24} (h : s.bounded p q) : (s.reportDamaged k).bounded p q := by
  unfold State.reportDamaged
  split
  · exact State.bounded_ite h.reportSuspect h
  · exact h

theorem State.bounded.settleCounters (h : s.bounded p q) : s.settleCounters.bounded p q := by
  unfold State.settleCounters
  split
  · exact State.bounded_ite (h.of_same rfl rfl) h
  · exact h

theorem State.bounded.setLog {l : SegmentLog} (h : s.bounded p q) : { s with log := l }.bounded p q :=
  h.of_same rfl rfl

theorem State.bounded.handleOpen (h : s.bounded p q) : s.handleOpen.bounded p q :=
  State.bounded.foldl (f := State.raiseGap) h.setLog (fun _ _ hx => hx.raiseEvent.hand) _

theorem State.bounded.loadSegments (h : s.bounded p q) : s.loadSegments.bounded p q := by
  have judged : ((List.finRange 24).foldl State.reportDamaged
      { s with log := { entries := s.store.loadLog, nearFull := false } }).bounded p q :=
    State.bounded.foldl h.setLog (fun _ _ hx => hx.reportDamaged) _
  exact judged.settleCounters.handleOpen.evalNearFull

theorem State.bounded.formAll {k : LoadKind} (h : s.bounded p q) : (s.formAll k).bounded p q := by
  have started : (s.startLoad k).bounded p q := h.of_same rfl rfl
  have banded : ((List.finRange 16).foldl (State.loadBand k) ((s.startLoad k).loadAccounts.loadSettings k)).bounded p q :=
    started.loadAccounts.loadSettings.foldl (fun _ _ hx => hx.loadBand) _
  exact banded.loadSegments.settleTimebase

theorem State.bounded.startIfReady (h : s.bounded p q) : s.startIfReady.bounded p q :=
  h.frame s.startIfReady_changesOnly

theorem State.bounded.startUp (h : s.bounded p q) : s.startUp.bounded p q :=
  State.bounded_ite (State.bounded.takePfw h.setMeter) h.setMeter

theorem State.bounded.finishLoad {k : LoadKind} (h : s.bounded p q) : (s.finishLoad k).bounded p q := by
  have readied {x : State} (hx : x.bounded p q) : x.readied.bounded p q := hx.of_same rfl rfl
  rw [State.finishLoad_eq]
  exact (readied h.formAll).startIfReady.reformCrank.startUp

theorem State.bounded.resumeRetained (h : s.bounded p q) : s.resumeRetained.bounded p q := by
  have rewritten {x : State} (hx : x.bounded p q) : x.rewriteAll.bounded p q :=
    State.bounded.startIfReady hx.setStore
  exact (rewritten h.settleTimebase.report.reportObserved.resumeQualifier.flagOpen).startUp

/-- A load that a reset falls back to starts from the Qualifier's initial state, whose history is empty (R109, R190). -/
theorem State.bounded.reload {k : LoadKind} (h : s.bounded p q) : (s.reload k).bounded p q :=
  ⟨h.tx, fun _ => Nat.zero_le _⟩

theorem State.bounded.finishReset {r : ResetInProgress} {retentionGood recordGood : Bool} {cycles : Nat}
    {straps : Straps} (h : s.bounded p q) :
    (s.finishReset r retentionGood recordGood cycles straps).bounded p q := by
  have recorded (kind : ResetKind) (lost : Bool) (time : Nat) :
      ((s.leaveReset cycles straps).recordReset kind lost recordGood time).bounded p q := h.of_same rfl rfl
  unfold State.finishReset
  dsimp only
  split
  · exact (recorded _ _ _).reload
  all_goals exact State.bounded_ite (recorded _ _ _).resumeRetained (recorded _ _ _).reload

/-- A cold reset leaves both empty (R109, R180). -/
theorem State.coldStart_bounded (pending : List Instr) (lines : Lines) (array : Vector Stored 46) (straps : Straps)
    (v : Selection) : (State.coldStart pending lines array straps v).bounded p q :=
  ⟨fun _ => Nat.zero_le _, fun _ => Nat.zero_le _⟩

/-! ## Requests -/

theorem Answer.conclude_bounded {slot : SlotIx} {kind : Byte} {ops : List Byte} {a : Answer}
    (h : a.state.bounded p q) : (a.conclude slot kind ops).bounded p q := by
  cases a with
  | atOnce s o payload => exact State.bounded.offer h
  | deferred s waits payload => exact State.bounded.of_same h rfl rfl
  | resetting s => exact State.bounded.offer h

theorem Answer.durable_bounded {records : List RecordId} {payload : List Byte} (h : s.bounded p q) :
    (Answer.durable s records payload).state.bounded p q := by
  rwa [Answer.state_durable]

theorem State.bounded.handleRead {slot : SlotIx} {r : Region} {n : Nat} (h : s.bounded p q) :
    (s.handleRead slot r n).state.bounded p q := by
  unfold State.handleRead
  split <;> exact h.of_same rfl rfl

theorem State.bounded.handleNext {slot : SlotIx} (h : s.bounded p q) : (s.handleNext slot).state.bounded p q := by
  unfold State.handleNext
  split
  · exact h
  · split <;> exact h.of_same rfl rfl

theorem State.bounded.openIn {slot : Fin 24} {renter : List Byte} {tariff : Byte} (h : s.bounded p q) :
    (s.openIn slot renter tariff).state.bounded p q :=
  Answer.durable_bounded (State.bounded.hand (State.bounded.hand (h.of_same rfl rfl)))

theorem State.bounded.handleOpenRental {renter : List Byte} {tariff : Byte} (h : s.bounded p q) :
    (s.handleOpenRental renter tariff).state.bounded p q := by
  have reclaimed (e : LogEntry) : (s.reclaim e).bounded p q :=
    State.bounded_ite (h.of_same rfl rfl) (h.of_same rfl rfl)
  unfold State.handleOpenRental
  split
  · exact h
  · split
    · exact h.openIn
    · split
      · exact (reclaimed _).openIn
      · exact h

theorem State.bounded.modifySegment {slot : Fin 24} {g : Segment → Segment} (h : s.bounded p q) :
    (s.modifySegment slot g).bounded p q :=
  h.setLog

theorem State.bounded.handleCloseRental (h : s.bounded p q) : s.handleCloseRental.state.bounded p q := by
  unfold State.handleCloseRental
  split
  · exact h
  · exact Answer.durable_bounded h.modifySegment.evalNearFull.hand

theorem State.bounded.handleMarkExported {number : Nat} (h : s.bounded p q) :
    (s.handleMarkExported number).state.bounded p q := by
  unfold State.handleMarkExported
  split
  · exact h
  · split
    case h_4 => exact Answer.durable_bounded h.modifySegment.evalNearFull.hand
    all_goals exact h

theorem State.bounded.handleAckAlert {source cause : Nat} (h : s.bounded p q) :
    (s.handleAckAlert source cause).state.bounded p q := by
  unfold State.handleAckAlert
  split
  · dsimp only
    split
    · split <;> exact h.of_same rfl rfl
    · exact h
  · exact h

theorem State.bounded.setAccount {i : AccountIx} {a : Account} (h : s.bounded p q) : (s.setAccount i a).bounded p q :=
  h.of_same rfl rfl

theorem State.bounded.handleServiceReset {account : Nat} (h : s.bounded p q) :
    (s.handleServiceReset account).state.bounded p q := by
  unfold State.handleServiceReset
  split
  · exact h
  · split
    · exact Answer.durable_bounded h.setAccount.evalThresholds.flagOpen.hand
    · exact h

theorem State.bounded.setRestore {b : Option RestoreBuffer} (h : s.bounded p q) : (s.setRestore b).bounded p q :=
  h.of_same rfl rfl

theorem State.bounded.handleRestoreField {account field value : Nat} (h : s.bounded p q) :
    (s.handleRestoreField account field value).state.bounded p q := by
  unfold State.handleRestoreField
  split
  · exact h
  · split
    · split
      · exact h
      · rw [Answer.state_atOnce]
        exact h.setRestore.changeAccount
    · exact h

theorem State.bounded.handleRestoreDone {account : Nat} (h : s.bounded p q) :
    (s.handleRestoreDone account).state.bounded p q := by
  have raised {x : State} {increase : Tracked} (hx : x.bounded p q) : (x.raiseSnapshot increase).bounded p q :=
    hx.frame (x.raiseSnapshot_changesOnly increase)
  unfold State.handleRestoreDone
  split
  · exact h
  · split
    · exact h
    · exact Answer.durable_bounded (raised h.setAccount.report.evalThresholds).setRestore.hand

theorem State.bounded.putBand {k : Fin 16} {e : BandEntry} (h : s.bounded p q) : (s.putBand k e).state.bounded p q :=
  Answer.durable_bounded (State.bounded.hand (h.of_same rfl rfl))

theorem State.bounded.editBand {k : Fin 16} {apply stage : BandEntry → BandEntry} (h : s.bounded p q) :
    (s.editBand k apply stage).state.bounded p q := by
  unfold State.editBand
  dsimp only
  split
  · exact h
  · exact h.putBand

theorem State.bounded.handleBandPrimary {entry metric : Nat} {low high : Int} (h : s.bounded p q) :
    (s.handleBandPrimary entry metric low high).state.bounded p q := by
  unfold State.handleBandPrimary
  split
  · exact h.editBand
  · exact h

theorem State.bounded.handleBandSecondary {entry metric : Nat} {low high : Int} (h : s.bounded p q) :
    (s.handleBandSecondary entry metric low high).state.bounded p q := by
  unfold State.handleBandSecondary
  split
  · exact h.editBand
  · exact h

theorem State.bounded.handleBandWeight {entry account cls bin weight enabled : Nat} (h : s.bounded p q) :
    (s.handleBandWeight entry account cls bin weight enabled).state.bounded p q := by
  unfold State.handleBandWeight
  split
  · exact h.editBand
  · exact h

theorem State.bounded.handleBandLock {entry : Nat} (h : s.bounded p q) :
    (s.handleBandLock entry).state.bounded p q := by
  unfold State.handleBandLock
  split
  · exact h
  · dsimp only
    split
    · exact h
    · split
      · exact h.putBand
      · exact h

theorem State.bounded.applySetting {id : Nat} (h : s.bounded p q) : (s.applySetting id).bounded p q :=
  State.bounded_ite h.reclassifyAll (State.bounded_ite h.reformLatch (State.bounded_ite h.setStore h))

theorem State.bounded.handleWriteSetting {id account raw : Nat} (h : s.bounded p q) :
    (s.handleWriteSetting id account raw).state.bounded p q := by
  unfold State.handleWriteSetting
  split
  · split
    · exact h
    · unfold State.writeAccount
      split
      · exact h
      · exact Answer.durable_bounded
          (State.bounded.hand (State.bounded_ite h.setAccount.evalThresholds h.setAccount))
  · unfold State.writeDevice
    split
    · exact h
    · exact Answer.durable_bounded (State.bounded.hand (State.bounded.applySetting (h.of_same rfl rfl)))

theorem State.bounded.handleCheckpoint (h : s.bounded p q) : s.handleCheckpoint.state.bounded p q := by
  unfold State.handleCheckpoint
  split
  · exact h
  · split <;> exact h
  all_goals
    split
    · exact h
    · exact h.bulkEnqueue

theorem State.bounded.handleResetDevice (h : s.bounded p q) : s.handleResetDevice.state.bounded p q := by
  unfold State.handleResetDevice
  split <;> exact h.of_same rfl rfl

theorem State.bounded.handle {slot : SlotIx} {r : Request} (h : s.bounded p q) :
    (s.handle slot r).state.bounded p q := by
  cases r with
  | status => exact h
  | read => exact h.handleRead
  | next => exact h.handleNext
  | openRental => exact h.handleOpenRental
  | closeRental => exact h.handleCloseRental
  | markExported => exact h.handleMarkExported
  | ackAlert => exact h.handleAckAlert
  | serviceReset => exact h.handleServiceReset
  | restoreField => exact h.handleRestoreField
  | restoreDone => exact h.handleRestoreDone
  | bandPrimary => exact h.handleBandPrimary
  | bandSecondary => exact h.handleBandSecondary
  | bandWeight => exact h.handleBandWeight
  | bandLock => exact h.handleBandLock
  | writeSetting => exact h.handleWriteSetting
  | checkpoint => exact h.handleCheckpoint
  | resetDevice => exact h.handleResetDevice

theorem State.bounded.decideRequest {slot : SlotIx} {kind : Byte} {ops : List Byte} (h : s.bounded p q) :
    (s.decideRequest slot kind ops).state.bounded p q := by
  unfold State.decideRequest
  split
  · exact h
  · split
    · exact h
    · split
      · exact h
      · exact h.handle

theorem State.bounded.answerBusy {slot : SlotIx} {kind : Byte} (h : s.bounded p q) :
    (s.answerBusy slot kind).bounded p q := by
  unfold State.answerBusy
  split
  · next room => exact h.push room _
  · exact h

theorem State.bounded.takeRequest {slot : SlotIx} {kind : Byte} {ops : List Byte} (h : s.bounded p q) :
    (s.takeRequest slot kind ops).bounded p q := by
  unfold State.takeRequest
  split
  · exact h.restartLinger.answerBusy
  · exact Answer.conclude_bounded h.restartLinger.decideRequest

theorem State.bounded.takeRequestData {slot : SlotIx} {data : List Byte} (h : s.bounded p q) :
    (s.takeRequestData slot data).bounded p q := by
  cases data with
  | nil => exact h.takeRequest
  | cons kind ops => exact h.takeRequest

theorem State.bounded.observationFrame {id : CanId} {data : List Byte} (h : s.bounded p q) :
    (s.observationFrame id data).bounded p q := by
  refine h.hearFrame ?_
  unfold State.routeFrame
  split
  · exact h.takeRequestData
  · exact h.restartLinger.decode
  · exact h

/-! ## Commands and time -/

theorem State.bounded.checkpointEnqueue {rs : List RecordId} (h : s.bounded p q) :
    (s.checkpointEnqueue rs).bounded p q := by
  unfold State.checkpointEnqueue
  split
  · exact h.bulkEnqueue
  · exact h.bulkEnqueue
  all_goals exact h

/-- A place freed and given to a HELD response: the queue it leaves has room for the response (R172). -/
theorem State.bounded.givePlace {rest : List Frame} {f : Frame} (h : s.bounded p q) (tx : s.port.tx = f :: rest) :
    (State.givePlace { s with port := { s.port with tx := rest } }).bounded p q where
  tx x := by
    have length : rest.length + 1 ≤ txPlaces := by
      have full := h.tx x
      rwa [State.txBounded, tx] at full
    unfold State.givePlace
    split
    · split
      · simpa [State.txBounded, State.setInFlight, Port.push] using length
      · exact Nat.le_of_succ_le length
    · exact Nat.le_of_succ_le length
  ring x := by
    unfold State.givePlace
    split
    · split <;> exact h.ring x
    · exact h.ring x

theorem State.bounded.commandReset (h : s.bounded p q) : s.commandReset.bounded p q := by
  unfold State.commandReset
  split
  · exact h.beginReset
  · exact h.of_same rfl rfl

theorem State.bounded.sendFrame {f : Frame} {rest : List Frame} (h : s.bounded p q) (tx : s.port.tx = f :: rest) :
    (s.sendFrame f rest).bounded p q :=
  State.bounded_ite (h.givePlace tx).commandReset (h.givePlace tx)

theorem State.bounded.tick (h : s.bounded p q) : s.tick.bounded p q :=
  State.bounded_ite h
    (State.bounded_ite (h.of_same rfl rfl) (State.bounded_ite (h.of_same rfl rfl) (h.of_same rfl rfl)))

theorem exec_frame_bounded {c : Instr} (frame : isFrame c = true) (h : s.bounded p q) (run : exec c s = .next t) :
    t.bounded p q := by
  cases request : requestOf c with
  | some r =>
    obtain ⟨slot, kind, ops⟩ := r
    rw [exec_request request] at run
    cases run
    exact h.hearFrame h.takeRequest
  | none =>
    cases c
    case unknownRequest slot data => cases run; exact h.hearFrame h.takeRequestData
    case engineState id data => cases run; exact h.observationFrame
    case drivelineState id data => cases run; exact h.observationFrame
    case drivelineEvent id data => cases run; exact h.observationFrame
    case wakeFrame => cases run; exact h.hearFrame h
    all_goals simp [isFrame, requestOf] at frame request

theorem exec_bounded {c : Instr} (h : s.bounded p q) (run : exec c s = .next t) : t.bounded p q := by
  by_cases frame : isFrame c = true
  · exact exec_frame_bounded frame h run
  cases c
  case signalHeld n => cases run; exact State.bounded_ite h.passHeld h
  case signalUnknown n => cases run; exact State.bounded_ite h.passUnknown h
  case meteringExpiry => cases run; exact State.bounded_ite (State.bounded.meteringPass h.setMeter) h
  case crankChange asserted =>
    cases run
    exact State.bounded_ite h (State.bounded_ite h.crankLine (h.of_same rfl rfl))
  case crankWindowExpiry => cases run; exact State.bounded_ite h.windowExpiry h
  case confirmExpiry => cases run; exact State.bounded_ite h.confirmDone h
  case stopTimerExpiry => cases run; exact State.bounded_ite h.stopDone h
  case ignAsserted =>
    cases run
    exact State.bounded_ite h
      (State.bounded_ite (State.bounded.wake (h.of_same rfl rfl)) (h.of_same rfl rfl))
  case keyOff =>
    cases run
    have released : { s with lines := { s.lines with ign := false } }.bounded p q := h.of_same rfl rfl
    exact State.bounded_ite (State.bounded_ite released.checkpointEnqueue.restartLinger released) h
  case periodicCheckpoint =>
    cases run
    exact State.bounded_ite (State.bounded.checkpointEnqueue h.setStore) h
  case lingerExpiry =>
    cases run
    split
    · exact State.bounded.parkCheck (h.of_same rfl rfl)
    · exact h
  case writeCompletion faulted =>
    cases run
    split
    · exact h.writeDone
    · exact h
  case pfwAsserted =>
    cases run
    exact State.bounded_ite h
      (State.bounded_ite (State.bounded.takePfw (h.of_same rfl rfl)) (h.of_same rfl rfl))
  case pfwReleased =>
    cases run
    have released : { s with lines := { s.lines with pfw := false } }.bounded p q := h.of_same rfl rfl
    exact State.bounded_ite
      (State.bounded_ite released (State.bounded_ite released.beginReset released.dropPfw)) h
  case monitorWindow cycles => cases run; exact State.bounded_ite h.windowEnd h
  case deviceTimeSecond => cases run; exact State.bounded_ite (h.of_same rfl rfl) h
  case coldReset straps cycles => cases run; exact State.coldStart_bounded _ _ _ _ _
  case warmReset dip => cases run; exact h.beginReset
  case resetEnd retentionGood recordGood cycles straps =>
    cases run
    split
    · exact h.finishReset
    · exact h
  case loadEnd =>
    cases run
    split
    · exact h.finishLoad
    · exact h
  case transmissionComplete =>
    cases run
    refine State.bounded_ite ?_ h
    split
    · next f rest tx => exact h.sendFrame tx
    · exact h
  case busOff =>
    cases run
    have off : { s.dropRequests with port := { tx := [], state := .busOff } }.bounded p q := h.emptied rfl rfl
    exact State.bounded_ite (State.bounded_ite (State.bounded.parkCheck (off.of_same rfl rfl)) off) h
  case busOffRecovery => cases run; exact State.bounded_ite ⟨h.tx, h.ring⟩ h
  all_goals exact absurd rfl frame

theorem step_bounded (h : s.bounded p q) (run : step s = .next t) : t.bounded p q := by
  obtain ⟨c, rest, -, done⟩ | ⟨-, rfl⟩ := Laws.step_cases run
  · exact exec_bounded (s := { s with pending := rest }) (h.of_same rfl rfl) done
  · exact h.tick

end

/-- Settles O6: a step keeps the invariant, of which each bound is a case. -/
theorem queueAndHistoryStayBounded : Obligations.QueueAndHistoryStayBounded :=
  ⟨fun s _ frames run => (step_bounded (s := s) (p := True) (q := False) ⟨fun _ => frames, False.elim⟩ run).tx trivial,
    fun s _ entries run => (step_bounded (s := s) (p := False) (q := True) ⟨False.elim, fun _ => entries⟩ run).ring trivial⟩

end Sys2Proof.Machine
end

section
/-! PROOFS. The Start Qualifier: crank triggers by the CRANK line (O43, O44, O45), the engine caught (O46), the expiry of the
crank window (O47), of the stop timer and of a second (O49). -/

namespace Sys2Proof.Machine

/-! ## The CRANK line asserted (R87, R88, R89) -/

/-- CRANK asserted and crank active re-formed, before a trigger is taken. -/
def State.cranked (s : State) : State := State.reformLatch { s with lines := { s.lines with crank := true } }

theorem State.cranked_changesOnly (s : State) : s.changesOnly s.cranked [.lines, .qualifier] := by
  refine State.changesOnly_then (ps := [.lines]) ?_ (State.reformLatch_changesOnly _) (by simp) (by simp)
  intro p hp
  cases p <;> first | rfl | simp at hp

theorem State.cranked_lines (s : State) : s.cranked.lines = { s.lines with crank := true } :=
  State.reformLatch_changesOnly _ .lines (by decide)

/-- In LEVEL mode the asserted line makes crank active TRUE: the latch is set, and an open attempt's duration determined. -/
theorem State.cranked_qualifier {s : State} (level : s.settings.crankMode = .level) :
    s.cranked.qualifier = { s.qualifier with latch := true, state := s.qualifier.state.determined } := by
  simp [State.cranked, State.reformLatch, State.crankActiveNow, crankActive, level]

/-- A rising edge is a trigger in EDGE mode, and in LEVEL mode where it moves the latch. -/
theorem exec_crankAsserted {s : State} (running : s.isRunning = true) (released : s.lines.crank = false)
    (trigger : s.settings.crankMode = .edge ∨ (s.settings.crankMode = .level ∧ s.qualifier.latch = false)) :
    exec (.crankChange true) s = .next s.cranked.crankTrigger := by
  have taken : exec (.crankChange true) s = .next (s.crankLine true) := by
    simp [exec, execCrankChange, running, released]
  rw [taken]
  unfold State.crankLine State.reformCrank
  obtain edge | ⟨level, unlatched⟩ := trigger
  · simp [edge, State.cranked]
  · have latched : s.cranked.qualifier.latch = true := congrArg Qualifier.latch (State.cranked_qualifier level)
    unfold State.cranked at latched ⊢
    simp [level, unlatched, latched]

/-! ## What a trigger does by state (R93, R94, R100) -/

theorem State.crankTrigger_idle {s : State} (idle : s.qualifier.state = .idle) : s.crankTrigger = s.openAttempt := by
  simp [State.crankTrigger, idle]

theorem State.crankTrigger_running {s : State} {stop : Option Nat} (on : s.qualifier.state = .running stop) :
    s.crankTrigger = s.crankWhileRunning := by
  simp [State.crankTrigger, on]

/-- The states of an open attempt with one remaining time: CRANKING or CONFIRMING. -/
def opensAttempt (q : Attempt → QualifierState) (left : Nat) : Prop :=
  q = (fun x => .cranking x left) ∨ q = (fun x => .confirming x left)

theorem State.crankTrigger_attempt {s : State} {q : Attempt → QualifierState} {a : Attempt} {left : Nat}
    (kind : opensAttempt q left) (during : s.qualifier.state = q a) :
    s.crankTrigger = (s.postStarter a.cold).setQualifier (q a.recranked) := by
  obtain rfl | rfl := kind <;> simp [State.crankTrigger, during]

theorem QualifierState.determined_attempt {q : Attempt → QualifierState} {left : Nat} (kind : opensAttempt q left)
    (a : Attempt) : (q a).determined = q { a with determined := true } := by
  obtain rfl | rfl := kind <;> rfl

/-! ## The STARTER event of a trigger (R14, R81) -/

/-- From s to t the CRANK line rose and one STARTER event was posted, cold or not, the Qualifier aside. -/
structure State.starterPosted (s t : State) (cold : Bool) : Prop where
  account : t.account 1 =
    ((s.account 1).addEvents 1).addCredit ((s.account 1).eventNumerator (startMultiplier s.settings cold))
  others : s.keepsOtherAccounts t 1
  queue : t.store.queue = s.store.queue
  lines : t.lines = { s.lines with crank := true }
  qualifier : t.qualifier = s.cranked.qualifier
  rest : s.changesOnly t [.lines, .qualifier, .accounts, .alerts, .port, .store]

theorem State.cranked_postStarter (s : State) (cold : Bool) : s.starterPosted (s.cranked.postStarter cold) cold := by
  have risen := s.cranked_changesOnly
  have posted := s.cranked.postStarter_changesOnly cold
  have settings : s.cranked.settings = s.settings := risen .settings (by decide)
  have account := State.account_of_changesOnly risen (by decide)
  refine ⟨?_, fun j other => ?_, ?_, (posted .lines (by decide)).trans s.cranked_lines, posted .qualifier (by decide),
    State.changesOnly_then risen posted (by simp) (by simp)⟩
  · rw [State.postStarter, State.account_postEvents_same, account, settings]
    rfl
  · exact (State.account_postEvents_other _ _ _ other.symm).trans (account j)
  · have marks := State.postEvents_onlyMarks s.cranked 1 1 (startMultiplier s.cranked.settings cold)
    exact marks.queue.trans (congrArg Store.queue (risen .store (by decide)))

section

variable {s t : State} {cold : Bool}

theorem State.starterPosted.events (h : s.starterPosted t cold) :
    (t.account 1).events = (s.account 1).events.map fun n => min (n + 1) 4294967295 := by
  rw [h.account]
  rfl

theorem State.starterPosted.ssEvents (h : s.starterPosted t cold) :
    (t.account 1).ssEvents = (s.account 1).ssEvents.map fun n => min (n + 1) 4294967295 := by
  rw [h.account]
  rfl

theorem State.starterPosted.engaged (h : s.starterPosted t cold) :
    (t.account 1).engagedWhileRunning = (s.account 1).engagedWhileRunning := by
  rw [h.account]
  rfl

theorem State.starterPosted.credit (h : s.starterPosted t cold) :
    (t.account 1).credit =
      ((s.account 1).credit + (s.account 1).eventNumerator (startMultiplier s.settings cold)) % 288000 := by
  rw [h.account]
  rfl

/-- What is then done to the Qualifier leaves the frame. -/
theorem State.starterPosted.setQualifier (h : s.starterPosted t cold) (q : QualifierState) :
    s.changesOnly (t.setQualifier q) [.lines, .qualifier, .accounts, .alerts, .port, .store] :=
  State.changesOnly_then h.rest (t.setQualifier_changesOnly q) (by simp) (by simp)

end

/-! ## The three triggers (O43, O44, O45) -/

/-- The attempt that the asserted line opens takes its fields from the state before it (R93). -/
theorem Attempt.opened_cranked {s : State} (mode : s.settings.crankMode = .edge ∨ s.settings.crankMode = .level) :
    Attempt.opened s.cranked =
      { beginTime := s.time.deviceTime, oil := s.intake.engineOil.known,
        cold := isCold s.settings s.intake.engineOil.known, crankCount := 1, durationMs := 0,
        determined := s.settings.crankMode == .level || s.intake.starterStatus.known.isSome, sinceOpenMs := 0,
        timeToRun := none, window := s.settings.crankWindow, confirm := s.settings.confirmTime,
        threshold := s.settings.runThreshold } := by
  have risen := s.cranked_changesOnly
  have settings : s.cranked.settings = s.settings := risen .settings (by decide)
  have intake : s.cranked.intake = s.intake := risen .intake (by decide)
  have time : s.cranked.time = s.time := risen .time (by decide)
  unfold Attempt.opened State.crankActiveNow
  rw [settings, intake, time]
  obtain mode | mode := mode <;> simp [mode, crankActive]

/-- Settles O43: the trigger in IDLE posts the event and opens the attempt; the rest is as re-forming crank active left it. -/
theorem crankTriggerOpensAttempt : Obligations.CrankTriggerOpensAttempt := by
  intro s running released idle trigger
  have opened := Attempt.opened_cranked (trigger.imp_right And.left)
  obtain ⟨-, ring, failures⟩ := State.reformLatch_qualifier { s with lines := { s.lines with crank := true } }
  have still : s.cranked.qualifier.state = .idle := by
    unfold State.cranked State.reformLatch
    split
    · exact idle
    · exact congrArg QualifierState.determined idle
  have posted := s.cranked_postStarter (isCold s.settings s.intake.engineOil.known)
  refine ⟨_, (exec_crankAsserted running released trigger).trans (congrArg _ (State.crankTrigger_idle still)), ?_⟩
  unfold State.openAttempt
  rw [opened]
  refine ⟨posted.lines, rfl, fun level => ?_, ?_, ?_, posted.events, posted.credit, posted.others, posted.setQualifier _,
    posted.queue⟩
  · rw [State.setQualifier_qualifier, posted.qualifier, State.cranked_qualifier level]
  · exact (congrArg Qualifier.ring posted.qualifier).trans ring
  · exact (congrArg Qualifier.failures posted.qualifier).trans failures

/-- Settles O44: the trigger posts with the attempt's cold flag and puts the attempt back with its count raised. -/
theorem recrankCountsWithinAttempt : Obligations.RecrankCountsWithinAttempt := by
  intro s a left q kind running released unlatched level during
  have risen := State.cranked_qualifier level
  rw [during, QualifierState.determined_attempt kind] at risen
  have trigger := State.crankTrigger_attempt kind (congrArg Qualifier.state risen)
  have posted := s.cranked_postStarter a.cold
  refine ⟨_, (exec_crankAsserted running released (.inr ⟨level, unlatched⟩)).trans (congrArg _ trigger), ?_, posted.events,
    posted.ssEvents, posted.credit, posted.others, posted.setQualifier _⟩
  rw [State.setQualifier_qualifier, posted.qualifier, risen]
  rfl

/-- Settles O45: the event, then the counter of the same account; the Qualifier keeps its state and its stop timer. -/
theorem crankWhileRunningIsCounted : Obligations.CrankWhileRunningIsCounted := by
  intro s stop running released unlatched level on
  have risen : s.cranked.qualifier = { s.qualifier with latch := true } := by
    simp only [State.cranked_qualifier level, on, QualifierState.determined]
  have trigger := State.crankTrigger_running ((congrArg Qualifier.state risen).trans on)
  have intake : s.cranked.intake = s.intake := s.cranked_changesOnly .intake (by decide)
  have settings : s.cranked.settings = s.settings := s.cranked_changesOnly .settings (by decide)
  have posted := s.cranked_postStarter (isCold s.settings s.intake.engineOil.known)
  refine ⟨_, (exec_crankAsserted running released (.inr ⟨level, unlatched⟩)).trans (congrArg _ trigger), ?_⟩
  unfold State.crankWhileRunning
  rw [intake, settings]
  have counted := State.changeAccount_changesOnly
    (s.cranked.postStarter (isCold s.settings s.intake.engineOil.known)) 1 Account.addEngagedWhileRunning
  rw [counted .qualifier (by decide), posted.qualifier, risen, State.account_changeAccount_same]
  refine ⟨rfl, posted.events, posted.ssEvents, ?_, posted.credit, fun j other => ?_,
    State.changesOnly_then posted.rest counted (by simp) (by simp)⟩
  · rw [← posted.engaged]
    rfl
  · exact (State.account_changeAccount_other _ _ other.symm).trans (posted.others j other)

/-! ## Engine speed in CRANKING (O46) -/

/-- Where crank active is the latch's value, re-forming it makes no trigger and determines an open attempt's duration. -/
theorem State.reformCrank_agrees {s : State} (agrees : s.crankActiveNow = some s.qualifier.latch) :
    s.reformCrank = s.setQualifier s.qualifier.state.determined := by
  have formed : s.reformLatch = s.setQualifier s.qualifier.state.determined := by
    unfold State.reformLatch
    rw [agrees]
    rfl
  unfold State.reformCrank
  rw [formed]
  simp

/-- Engine speed at the captured threshold in CRANKING starts the confirm timer and notes the time to run (R95). -/
theorem State.speedUpdate_caught {s : State} {a : Attempt} {left : Nat} {v : Int}
    (cranking : s.qualifier.state = .cranking a left) (speed : s.intake.engineSpeed.known = some v)
    (caught : (a.threshold : Int) ≤ v) :
    s.speedUpdate =
      s.setQualifier (.confirming { a with timeToRun := some (tenths a.sinceOpenMs) } (a.confirm * 100)) := by
  simp [State.speedUpdate, cranking, speed, caught]

theorem Intake.takeEngine_engineSpeed {x : Intake} {b0 b1 : Byte} {v : Int} (b2 b3 b4 : Byte)
    (speed : speedField 8000 b0 b1 = some v) : (x.takeEngine b0 b1 b2 b3 b4).engineSpeed.known = some v := by
  simp [Intake.takeEngine, speed, Signal.refresh, Signal.known]

/-- An update in CRANKING with crank active as latched and the speed at the threshold: the duration is determined, and the
confirmation begins. -/
theorem State.update_caught {s : State} {a : Attempt} {left : Nat} {v : Int}
    (cranking : s.qualifier.state = .cranking a left) (agrees : s.crankActiveNow = some s.qualifier.latch)
    (speed : s.intake.engineSpeed.known = some v) (caught : (a.threshold : Int) ≤ v) :
    s.reformCrank.speedUpdate =
      s.setQualifier
        (.confirming { a with determined := true, timeToRun := some (tenths a.sinceOpenMs) } (a.confirm * 100)) := by
  rw [State.reformCrank_agrees agrees, cranking]
  exact State.speedUpdate_caught (a := { a with determined := true }) rfl speed caught

/-- The state once an ENGINE STATE frame is stored. -/
def State.takenEngine (s : State) (b0 b1 b2 b3 b4 : Byte) : State :=
  { s with intake := s.intake.takeEngine b0 b1 b2 b3 b4 }

/-- A frame with its speed available is handed to the Qualifier (R30). -/
theorem State.decodeEngine_speed (s : State) {b0 b1 : Byte} {v : Int} (b2 b3 b4 : Byte) (rest : List Byte)
    (speed : speedField 8000 b0 b1 = some v) :
    s.decodeEngine (b0 :: b1 :: b2 :: b3 :: b4 :: rest) = (s.takenEngine b0 b1 b2 b3 b4).reformCrank.speedUpdate := by
  simp [State.decodeEngine, State.takenEngine, speed]

/-- A frame whose starter status field is not available leaves crank active (R28, R87). -/
theorem State.takenEngine_crankActiveNow (s : State) (b0 b1 b2 b3 : Byte) :
    (s.takenEngine b0 b1 b2 b3 0x03#8).crankActiveNow = s.crankActiveNow := rfl

/-- Settles O46: the stored frame is an update that catches the engine. -/
theorem engineCaughtConfirms : Obligations.EngineCaughtConfirms := by
  intro s id b0 b1 b2 b3 rest a left v on active route cranking agrees speed caught
  have decoded : s.restartLinger.decode .engineState (b0 :: b1 :: b2 :: b3 :: 0x03#8 :: rest) =
      (s.restartLinger.takenEngine b0 b1 b2 b3 0x03#8).reformCrank.speedUpdate :=
    s.restartLinger.decodeEngine_speed b2 b3 _ rest speed
  have agreed := (s.restartLinger.takenEngine_crankActiveNow b0 b1 b2 b3).trans agrees
  have known := Intake.takeEngine_engineSpeed (x := s.intake) b2 b3 0x03#8 speed
  rw [exec_observation (.inl rfl) on active, State.routeFrame_observation _ route, decoded,
    State.update_caught (s := s.restartLinger.takenEngine b0 b1 b2 b3 0x03#8) cranking agreed known caught]
  exact ⟨_, rfl, rfl, rfl, rfl, rfl⟩

/-! ## Expiry of the crank window (O47) -/

/-- At the limit a failure raises START_FAILURES with the count; below it nothing is raised (R104). -/
theorem State.raiseFailures_alerts (s : State) {o : AttemptOutcome} (failed : o ≠ .qualified) :
    if s.settings.failureLimit ≤ s.qualifier.failures then
      ∃ e, (s.raiseFailures o).alerts.entry (accountPair 1 .startFailures) = some e ∧
        e.parameter = some (byteOf s.qualifier.failures) ∧ e.state = .pending
    else (s.raiseFailures o).alerts = s.alerts := by
  unfold State.raiseFailures
  split
  · next reached =>
    obtain ⟨e, found, parameter, -, pending⟩ := AlertUnit.entry_raise_same s.alerts (accountPair 1 .startFailures)
      (some (byteOf s.qualifier.failures)) s.time.deviceTime
    rw [if_pos (by simp [failed, reached])]
    exact ⟨e, found, parameter, pending⟩
  · next below =>
    rw [if_neg (by simp [below])]

/-- The end of an attempt other than QUALIFIED raises START_FAILURES where its failure takes the count to the limit. -/
theorem State.endAttempt_alerts (s : State) (a : Attempt) {o : AttemptOutcome} (q : QualifierState)
    (failed : o ≠ .qualified) :
    if s.settings.failureLimit ≤ failuresAfter s.qualifier.failures o then
      ∃ e, (s.endAttempt a o q).alerts.entry (accountPair 1 .startFailures) = some e ∧
        e.parameter = some (byteOf (failuresAfter s.qualifier.failures o)) ∧ e.state = .pending
    else (s.endAttempt a o q).alerts = s.alerts := by
  rw [State.endAttempt_eq]
  exact (s.attemptEntered a o q).raiseFailures_alerts failed

/-- Settles O47: the end of the attempt with an outcome other than QUALIFIED. -/
theorem crankWindowExpiryEndsAttempt : Obligations.CrankWindowExpiryEndsAttempt := by
  intro s a left running cranking
  have run : exec .crankWindowExpiry s = .next s.windowExpiry := congrArg Host.Outcome.next (if_pos running)
  have ended : s.windowExpiry =
      s.endAttempt a (if s.intake.engineSpeed.known.isSome then .failed else .unverified) .idle := by
    simp [State.windowExpiry, cranking]
  have failed : (if s.intake.engineSpeed.known.isSome then AttemptOutcome.failed else .unverified) ≠ .qualified := by
    split <;> simp
  rw [run, ended]
  generalize (if s.intake.engineSpeed.known.isSome then AttemptOutcome.failed else .unverified) = o at failed ⊢
  have count : failuresAfter s.qualifier.failures o = min (s.qualifier.failures + 1) 255 := if_neg failed
  refine ⟨_, rfl, ?_, ?_, s.endAttempt_changesOnly a o .idle⟩
  · rw [State.endAttempt_qualifier, count]
    rfl
  · rw [← count]
    exact s.endAttempt_alerts a .idle failed

/-! ## The stop timer and the device second (O49) -/

theorem State.stopDone_timed {s : State} {left : Nat} (on : s.qualifier.state = .running (some left)) :
    s.stopDone = s.setQualifier .idle := by
  simp [State.stopDone, on]

/-- Settles O49: each expiry where its timer runs. -/
theorem stopTimerAndSecondExpire : Obligations.StopTimerAndSecondExpire := by
  refine ⟨fun s left running on => ?_, fun s outside awake => ?_⟩
  · have run : exec .stopTimerExpiry s = .next s.stopDone := congrArg Host.Outcome.next (if_pos running)
    rw [run, State.stopDone_timed on]
    rfl
  · have counts : (s.time.inReset.isNone && s.time.mode != .dormant) = true := by simp [outside, awake]
    exact congrArg Host.Outcome.next (if_pos counts)

end Sys2Proof.Machine
end

section
/-! PROOFS. The segment log stays sound (O8). Most operations leave the log alone; those that only change figures and
flags of its segments leave every entry its place, the slot and the state; and those that open, close, mark or load
segments make places that are as sound. -/

namespace Sys2Proof.Machine

/-! ## Operations that leave the log alone -/

theorem State.foldl_log {α : Type} {f : State → α → State} (h : ∀ (x : State) (a : α), (f x a).log = x.log)
    (l : List α) (s : State) : (l.foldl f s).log = s.log := by
  induction l generalizing s with
  | nil => rfl
  | cons a l ih => exact (ih (f s a)).trans (h s a)

@[simp] theorem State.report_log (s : State) (p : AlertPair) (v : Bool) (param : Option Byte) :
    (s.report p v param).log = s.log := rfl

@[simp] theorem State.raiseEvent_log (s : State) (p : AlertPair) (param : Option Byte) :
    (s.raiseEvent p param).log = s.log := rfl

@[simp] theorem State.startWrite_log (s : State) (r : RecordId) : (s.startWrite r).log = s.log :=
  s.startWrite_changesOnly r .log (by decide)

@[simp] theorem State.nextWrite_log (s : State) : s.nextWrite.log = s.log := s.nextWrite_changesOnly .log (by decide)

@[simp] theorem State.startIfReady_log (s : State) : s.startIfReady.log = s.log :=
  s.startIfReady_changesOnly .log (by decide)

@[simp] theorem State.hand_log (s : State) (r : RecordId) : (s.hand r).log = s.log :=
  s.hand_changesOnly r .log (by decide)

@[simp] theorem State.bulkEnqueue_log (s : State) (rs : List RecordId) : (s.bulkEnqueue rs).log = s.log :=
  s.bulkEnqueue_changesOnly rs .log (by decide)

@[simp] theorem State.changeAccount_log (s : State) (i : AccountIx) (f : Account → Account) :
    (s.changeAccount i f).log = s.log :=
  s.changeAccount_changesOnly i f .log (by decide)

@[simp] theorem State.evalThresholds_log (s : State) (i : AccountIx) : (s.evalThresholds i).log = s.log :=
  s.evalThresholds_changesOnly i .log (by decide)

@[simp] theorem State.offer_log (s : State) (k : SlotIx) (kind : Byte) (ops : List Byte) (f : Frame) :
    (s.offer k kind ops f).log = s.log :=
  s.offer_changesOnly k kind ops f .log (by decide)

@[simp] theorem State.releaseVolatile_log (s : State) : s.releaseVolatile.log = s.log :=
  s.releaseVolatile_changesOnly .log (by decide)

@[simp] theorem State.reformCrank_log (s : State) : s.reformCrank.log = s.log :=
  s.reformCrank_changesOnly .log (by decide)

@[simp] theorem State.crankTrigger_log (s : State) : s.crankTrigger.log = s.log :=
  s.crankTrigger_changesOnly .log (by decide)

@[simp] theorem State.stopQualifier_log (s : State) : s.stopQualifier.log = s.log :=
  s.stopQualifier_changesOnly .log (by decide)

@[simp] theorem State.intakeParked_log (s : State) : s.intakeParked.log = s.log :=
  s.intakeParked_changesOnly .log (by decide)

@[simp] theorem State.clearUnobserved_log (s : State) (i : AccountIx) : (s.clearUnobserved i).log = s.log :=
  s.clearUnobserved_changesOnly i .log (by decide)

@[simp] theorem State.dropRequests_log (s : State) : s.dropRequests.log = s.log := rfl

@[simp] theorem State.wake_log (s : State) : s.wake.log = s.log := s.wake_changesOnly .log (by decide)

@[simp] theorem State.enterDormant_log (s : State) : s.enterDormant.log = s.log :=
  s.enterDormant_changesOnly .log (by decide)

@[simp] theorem State.beginReset_log (s : State) (kind : ResetKind) (spoiled : Bool) :
    (s.beginReset kind spoiled).log = s.log := rfl

theorem State.crankLine_log (s : State) (asserted : Bool) : (s.crankLine asserted).log = s.log := by
  unfold State.crankLine
  dsimp only
  split <;> simp

@[simp] theorem State.resumeQualifier_log (s : State) : s.resumeQualifier.log = s.log := by
  unfold State.resumeQualifier State.startStop
  dsimp only
  split <;> simp

theorem State.passHeld_log (s : State) (n : SignalName) : (s.passHeld n).log = s.log := by
  unfold State.passHeld
  split <;> rfl

theorem State.stopDone_log (s : State) : s.stopDone.log = s.log := by
  unfold State.stopDone
  split <;> rfl

theorem State.decode_log (s : State) (f : ObsFormat) (data : List Byte) : (s.decode f data).log = s.log := by
  cases f with
  | engineState =>
    match data with
    | b0 :: b1 :: b2 :: b3 :: b4 :: rest => exact (s.decodeEngine_effect b0 b1 b2 b3 b4 rest).2 .log (by decide)
    | [] | [_] | [_, _] | [_, _, _] | [_, _, _, _] => rfl
  | drivelineState =>
    show (s.decodeDriveline data).log = s.log
    unfold State.decodeDriveline
    split <;> rfl
  | drivelineEvent =>
    match data with
    | shift :: engagement :: rest => exact (s.decodeEvent_effect shift engagement rest).2 .log (by decide)
    | [] | [_] => rfl

@[simp] theorem State.meterParked_log (s : State) : s.meterParked.log = s.log := by
  unfold State.meterParked
  exact State.foldl_log State.clearUnobserved_log _ s

@[simp] theorem State.enterParked_log (s : State) : s.enterParked.log = s.log := by simp [State.enterParked]

@[simp] theorem State.parkCheck_log (s : State) : s.parkCheck.log = s.log := by
  unfold State.parkCheck
  split
  · split <;> simp
  · rfl

@[simp] theorem State.recover_log (s : State) : s.recover.log = s.log := by
  unfold State.recover
  dsimp only
  split <;> simp

@[simp] theorem State.flushNext_log (s : State) : s.flushNext.log = s.log := by
  unfold State.flushNext
  split
  · simp
  · split <;> simp

@[simp] theorem State.startFlush_log (s : State) : s.startFlush.log = s.log := by simp [State.startFlush]

@[simp] theorem State.takePfw_log (s : State) : s.takePfw.log = s.log := by
  unfold State.takePfw
  split <;> simp

theorem State.dropPfw_log (s : State) : s.dropPfw.log = s.log := by
  unfold State.dropPfw
  split <;> rfl

theorem State.completeGood_log (s : State) (w : Write) : (s.completeGood w).log = s.log := by
  rw [State.completeGood_eq, State.clearSuspect_changesOnly _ _ .log (by decide),
    (s.writeAnswered_rest w).1 .log (by decide)]
  rfl

theorem State.completeFault_log (s : State) (w : Write) : (s.completeFault w).log = s.log := by
  unfold State.completeFault
  dsimp only
  split
  · unfold State.firstFault
    dsimp only
    split <;> simp
  · simp [State.goOffline]

theorem State.afterWrite_log (s : State) (before : Store) : (s.afterWrite before).log = s.log := by
  unfold State.afterWrite
  split
  · simp
  · split
    · split <;> split <;> simp
    · simp
    all_goals split <;> simp

theorem State.writeDone_log (s : State) (w : Write) (faulted : Bool) : (s.writeDone w faulted).log = s.log := by
  unfold State.writeDone
  rw [State.afterWrite_log]
  split
  · exact s.completeFault_log w
  · exact s.completeGood_log w

@[simp] theorem State.startUp_log (s : State) : s.startUp.log = s.log := by
  unfold State.startUp
  dsimp only
  split <;> simp

@[simp] theorem State.rewriteAll_log (s : State) : s.rewriteAll.log = s.log := by simp [State.rewriteAll]

@[simp] theorem State.reportObserved_log (s : State) : s.reportObserved.log = s.log :=
  s.reportObserved_changesOnly .log (by decide)

theorem State.checkpointEnqueue_log (s : State) (rs : List RecordId) : (s.checkpointEnqueue rs).log = s.log := by
  unfold State.checkpointEnqueue
  split <;> simp

theorem State.sendFrame_log (s : State) (f : Frame) (rest : List Frame) : (s.sendFrame f rest).log = s.log := by
  have given (x : State) : x.givePlace.log = x.log := by
    unfold State.givePlace
    split
    · split <;> rfl
    · rfl
  have reset (x : State) : x.commandReset.log = x.log := by
    unfold State.commandReset
    split <;> rfl
  unfold State.sendFrame
  dsimp only
  split
  · rw [reset, given]
  · rw [given]

@[simp] theorem Answer.conclude_log (slot : SlotIx) (kind : Byte) (ops : List Byte) (a : Answer) :
    (a.conclude slot kind ops).log = a.state.log := by
  cases a <;> simp [Answer.conclude, State.answer, Answer.state]

/-! ## Operations that leave every entry its place -/

/-- The slot and the state of every segment, in log order. -/
def SegmentLog.places (l : SegmentLog) : List (Fin 24 × SegmentState) := l.entries.map fun e => (e.slot, e.seg.state)

/-- A change that keeps the state of a segment leaves the places. -/
theorem SegmentLog.modify_places (l : SegmentLog) (k : Fin 24) {f : Segment → Segment}
    (h : ∀ g, (f g).state = g.state) : (l.modify k f).places = l.places := by
  unfold SegmentLog.places SegmentLog.modify
  rw [List.map_map]
  refine List.map_congr_left fun e _ => ?_
  rw [Function.comp_apply]
  split <;> simp [h]

@[simp] theorem State.flagOpen_places (s : State) (f : SegmentFlags → SegmentFlags) :
    (s.flagOpen f).log.places = s.log.places := by
  unfold State.flagOpen
  split
  · rfl
  · next e _ =>
    split
    · rfl
    · exact s.log.modify_places e.slot fun _ => rfl

@[simp] theorem State.raiseSnapshot_places (s : State) (increase : Tracked) :
    (s.raiseSnapshot increase).log.places = s.log.places := by
  cases opened : s.log.openEntry with
  | none => rw [State.raiseSnapshot_none increase opened]
  | some e =>
    rw [State.raiseSnapshot_some increase opened]
    exact s.log.modify_places e.slot fun _ => rfl

@[simp] theorem State.timebaseBad_places (s : State) : s.timebaseBad.log.places = s.log.places := by
  unfold State.timebaseBad
  rw [State.flagOpen_places, State.reportTimebase_log]

@[simp] theorem State.settleTimebase_places (s : State) : s.settleTimebase.log.places = s.log.places := by
  unfold State.settleTimebase
  split
  · exact s.timebaseBad_places
  · rw [State.reportTimebase_log]
  all_goals rfl

theorem State.windowEnd_places (s : State) (cycles : Nat) : (s.windowEnd cycles).log.places = s.log.places := by
  unfold State.windowEnd
  split
  · rfl
  · split <;> simp
  · split <;> simp [State.reportTimebase_log]
  · rfl

theorem State.meterAccount_places (s : State) (i : AccountIx) : (s.meterAccount i).log.places = s.log.places := by
  unfold State.meterAccount
  split
  · unfold State.activePeriod
    dsimp only
    rw [State.credit_changesOnly _ _ _ .log (by decide), State.changeAccount_log,
      State.noteWinner_changesOnly _ _ _ .log (by decide), State.clearUnobserved_log]
  · rw [State.clearUnobserved_log]
  · split
    · unfold State.unobservedPeriod
      dsimp only
      rw [State.evalCarried_changesOnly _ _ _ .log (by decide), State.flagOpen_places,
        State.noteUnobserved_changesOnly _ _ .log (by decide), State.changeAccount_log]
    · rfl

theorem State.meteringPass_places (s : State) : s.meteringPass.log.places = s.log.places := by
  unfold State.meteringPass
  rw [State.revolutions_changesOnly _ .log (by decide)]
  simp only [State.meterAccount_places]
  rw [s.activateStaged_changesOnly .log (by decide)]

theorem State.resumeRetained_places (s : State) : s.resumeRetained.log.places = s.log.places := by
  simp [State.resumeRetained]

theorem State.finishReset_places (s : State) (r : ResetInProgress) (retentionGood recordGood : Bool) (cycles : Nat)
    (straps : Straps) :
    (s.finishReset r retentionGood recordGood cycles straps).log.places = s.log.places := by
  unfold State.finishReset
  dsimp only
  split
  · rfl
  all_goals
    split
    · exact State.resumeRetained_places _
    · rfl

/-! ## The relation -/

/-- From s to t the log stays sound (R111). -/
structure State.keepsSegments (s t : State) : Prop where
  oneOpen : s.oneOpen → t.oneOpen
  distinct : s.slotsDistinct → t.slotsDistinct

theorem State.oneOpen_iff (s : State) : s.oneOpen ↔ (s.log.places.countP fun p => p.2 == .opened) ≤ 1 := by
  unfold State.oneOpen SegmentLog.places
  rw [List.countP_map]
  rfl

theorem State.slotsDistinct_iff (s : State) : s.slotsDistinct ↔ (s.log.places.map Prod.fst).Nodup := by
  unfold State.slotsDistinct SegmentLog.places
  rw [List.map_map]
  rfl

theorem State.keepsSegments_of_places {s t : State} (h : t.log.places = s.log.places) : s.keepsSegments t where
  oneOpen := by rw [State.oneOpen_iff, State.oneOpen_iff, h]; exact id
  distinct := by rw [State.slotsDistinct_iff, State.slotsDistinct_iff, h]; exact id

theorem State.keepsSegments_of_log {s t : State} (h : t.log = s.log) : s.keepsSegments t :=
  State.keepsSegments_of_places (by rw [h])

theorem State.keepsSegments_refl (s : State) : s.keepsSegments s := State.keepsSegments_of_log rfl

/-- Two operations in succession, the later one given first. -/
theorem State.keepsSegments_after {s t u : State} (k : t.keepsSegments u) (h : s.keepsSegments t) :
    s.keepsSegments u where
  oneOpen one := k.oneOpen (h.oneOpen one)
  distinct own := k.distinct (h.distinct own)

theorem State.keepsSegments_ite {s t u : State} {c : Prop} [Decidable c] (h : s.keepsSegments t)
    (k : s.keepsSegments u) : s.keepsSegments (if c then t else u) := by
  split
  · exact h
  · exact k

/-! ## Rentals (R116 to R118, R122, R124) -/

theorem SegmentLog.not_opened_of_openEntry {l : SegmentLog} (h : l.openEntry = none) :
    ∀ e ∈ l.entries, e.seg.state ≠ .opened := by
  intro e m
  simpa using List.find?_eq_none.mp h e m

/-- No entry of the log is in the slot that R116 takes. -/
theorem SegmentLog.freeSlot_unused {l : SegmentLog} {k : Fin 24} (h : l.freeSlot = some k) :
    k ∉ l.entries.map LogEntry.slot := by
  have none_ : l.inSlot k = none := by simpa using List.find?_some h
  unfold SegmentLog.inSlot at none_
  rw [Option.map_eq_none_iff, List.find?_eq_none] at none_
  rintro used
  obtain ⟨e, m, rfl⟩ := List.mem_map.mp used
  exact none_ e m (by simp)

/-- An OPEN segment joins a log that has none, in a slot that none of those left has. -/
theorem State.keepsSegments_joined {s t : State} {before : List LogEntry} {e : LogEntry}
    (closed : s.log.openEntry = none) (left : before.Sublist s.log.entries)
    (free : e.slot ∉ before.map LogEntry.slot) (entries : t.log.entries = before ++ [e]) : s.keepsSegments t where
  oneOpen _ := by
    have none_ : (before.countP fun x => x.seg.state == .opened) = 0 := by
      refine List.countP_eq_zero.mpr fun x m => ?_
      simpa using SegmentLog.not_opened_of_openEntry closed x (left.subset m)
    unfold State.oneOpen
    rw [entries, List.countP_append, none_, Nat.zero_add]
    exact List.countP_le_length
  distinct own := by
    unfold State.slotsDistinct at own ⊢
    rw [entries, List.map_append]
    refine List.nodup_append.mpr ⟨(left.map _).nodup own, List.nodup_singleton _, ?_⟩
    rintro k used _ m rfl
    exact free (List.mem_singleton.mp m ▸ used)

/-- The log after an opening in slot k (R118). -/
theorem State.openIn_entries (s : State) (k : Fin 24) (renter : List Byte) (tariff : Byte) :
    (s.openIn k renter tariff).state.log.entries =
      s.log.entries ++ [{ slot := k, seg := s.newSegment renter tariff }] := by
  simp [State.openIn]

/-- What a reclaiming leaves of the log (R117). -/
theorem State.reclaim_log (s : State) (e : LogEntry) :
    (s.reclaim e).log = { s.log with entries := s.log.entries.filter fun x => x.slot != e.slot } := by
  unfold State.reclaim
  dsimp only
  split <;> rfl

theorem State.handleOpenRental_keepsSegments (s : State) (renter : List Byte) (tariff : Byte) :
    s.keepsSegments (s.handleOpenRental renter tariff).state := by
  unfold State.handleOpenRental
  split
  · exact s.keepsSegments_refl
  · next closed =>
    split
    · next k unused =>
      exact State.keepsSegments_joined closed (List.Sublist.refl _) (SegmentLog.freeSlot_unused unused)
        (s.openIn_entries k renter tariff)
    · split
      · next e _ =>
        refine State.keepsSegments_joined closed (before := s.log.entries.filter fun x => x.slot != e.slot)
          List.filter_sublist ?_ (by rw [State.openIn_entries, State.reclaim_log])
        simp
      · exact s.keepsSegments_refl

/-- A change that opens no segment keeps the log sound. -/
theorem SegmentLog.modify_sound (l : SegmentLog) (k : Fin 24) {f : Segment → Segment}
    (h : ∀ g, (f g).state ≠ .opened) :
    ((l.modify k f).entries.countP fun e => e.seg.state == .opened) ≤
        (l.entries.countP fun e => e.seg.state == .opened) ∧
      (l.modify k f).entries.map LogEntry.slot = l.entries.map LogEntry.slot := by
  unfold SegmentLog.modify
  rw [List.countP_map, List.map_map]
  refine ⟨List.countP_mono_left fun e _ => ?_, List.map_congr_left fun e _ => ?_⟩
  · rw [Function.comp_apply]
    split <;> simp [h]
  · rw [Function.comp_apply]
    split <;> rfl

/-- A segment that is not OPEN afterwards, LOG_NEAR_FULL evaluated and the slot record handed. -/
theorem State.modifySegment_keepsSegments (s : State) (k : Fin 24) {f : Segment → Segment}
    (h : ∀ g, (f g).state ≠ .opened) : s.keepsSegments ((s.modifySegment k f).evalNearFull.hand (.slot k)) := by
  have entries : ((s.modifySegment k f).evalNearFull.hand (.slot k)).log.entries = (s.log.modify k f).entries := by
    rw [State.hand_log, State.evalNearFull_entries, State.modifySegment_log]
  obtain ⟨fewer, slots⟩ := s.log.modify_sound k h
  refine ⟨fun one => ?_, fun own => ?_⟩
  · unfold State.oneOpen
    rw [entries]
    exact fewer.trans one
  · unfold State.slotsDistinct
    rw [entries, slots]
    exact own

theorem State.handleCloseRental_keepsSegments (s : State) : s.keepsSegments s.handleCloseRental.state := by
  unfold State.handleCloseRental
  split
  · exact s.keepsSegments_refl
  · dsimp only
    rw [Answer.state_durable]
    exact s.modifySegment_keepsSegments _ fun _ => by simp [Segment.closeAt]

theorem State.handleMarkExported_keepsSegments (s : State) (number : Nat) :
    s.keepsSegments (s.handleMarkExported number).state := by
  unfold State.handleMarkExported
  split
  · exact s.keepsSegments_refl
  · split
    case h_4 =>
      dsimp only
      rw [Answer.state_durable]
      exact s.modifySegment_keepsSegments _ fun _ => by simp
    all_goals exact s.keepsSegments_refl

/-! ## The other requests -/

theorem State.putBand_log (s : State) (k : Fin 16) (e : BandEntry) : (s.putBand k e).state.log = s.log := by
  simp [State.putBand]

theorem State.editBand_log (s : State) (k : Fin 16) (apply stage : BandEntry → BandEntry) :
    (s.editBand k apply stage).state.log = s.log := by
  unfold State.editBand
  dsimp only
  split
  · rfl
  · exact s.putBand_log k _

theorem State.handleRestoreDone_places (s : State) (account : Nat) :
    (s.handleRestoreDone account).state.log.places = s.log.places := by
  unfold State.handleRestoreDone
  split
  · rfl
  · split
    · rfl
    · simp

theorem State.handleServiceReset_places (s : State) (account : Nat) :
    (s.handleServiceReset account).state.log.places = s.log.places := by
  unfold State.handleServiceReset
  split
  · rfl
  · split
    · simp
    · rfl

theorem State.handleWriteSetting_log (s : State) (id account raw : Nat) :
    (s.handleWriteSetting id account raw).state.log = s.log := by
  unfold State.handleWriteSetting
  split
  · split
    · rfl
    · unfold State.writeAccount
      split
      · rfl
      · dsimp only
        rw [Answer.state_durable, State.hand_log]
        split <;> simp
  · unfold State.writeDevice
    split
    · rfl
    · rw [Answer.state_durable, State.hand_log, State.applySetting_changesOnly _ _ .log (by decide)]

theorem State.handleCheckpoint_log (s : State) : s.handleCheckpoint.state.log = s.log := by
  unfold State.handleCheckpoint
  split
  · rfl
  · split <;> rfl
  all_goals
    split
    · rfl
    · exact s.bulkEnqueue_log _

theorem State.handleRead_log (s : State) (slot : SlotIx) (r : Region) (n : Nat) :
    (s.handleRead slot r n).state.log = s.log := by
  unfold State.handleRead
  split <;> rfl

theorem State.handleNext_log (s : State) (slot : SlotIx) : (s.handleNext slot).state.log = s.log := by
  unfold State.handleNext
  split
  · rfl
  · split <;> rfl

theorem State.handleAckAlert_log (s : State) (source cause : Nat) :
    (s.handleAckAlert source cause).state.log = s.log := by
  unfold State.handleAckAlert
  split
  · dsimp only
    split
    · split <;> rfl
    · rfl
  · rfl

theorem State.handleRestoreField_log (s : State) (account field value : Nat) :
    (s.handleRestoreField account field value).state.log = s.log := by
  unfold State.handleRestoreField
  split
  · rfl
  · split
    · split
      · rfl
      · simp
    · rfl

theorem State.handleBandPrimary_log (s : State) (entry metric : Nat) (low high : Int) :
    (s.handleBandPrimary entry metric low high).state.log = s.log := by
  unfold State.handleBandPrimary
  split
  · exact s.editBand_log _ _ _
  · rfl

theorem State.handleBandSecondary_log (s : State) (entry metric : Nat) (low high : Int) :
    (s.handleBandSecondary entry metric low high).state.log = s.log := by
  unfold State.handleBandSecondary
  split
  · exact s.editBand_log _ _ _
  · rfl

theorem State.handleBandWeight_log (s : State) (entry account cls bin weight enabled : Nat) :
    (s.handleBandWeight entry account cls bin weight enabled).state.log = s.log := by
  unfold State.handleBandWeight
  split
  · exact s.editBand_log _ _ _
  · rfl

theorem State.handleBandLock_log (s : State) (entry : Nat) : (s.handleBandLock entry).state.log = s.log := by
  unfold State.handleBandLock
  split
  · rfl
  · dsimp only
    split
    · rfl
    · split
      · exact s.putBand_log _ _
      · rfl

theorem State.handleResetDevice_log (s : State) : s.handleResetDevice.state.log = s.log := by
  unfold State.handleResetDevice
  split <;> rfl

/-- A request that touches no segment, or only figures and flags, leaves the places; the three of a rental keep the log
sound. -/
theorem State.handle_keepsSegments (s : State) (slot : SlotIx) (q : Request) :
    s.keepsSegments (s.handle slot q).state := by
  cases q with
  | status => exact s.keepsSegments_refl
  | read r n => exact State.keepsSegments_of_log (s.handleRead_log slot r n)
  | next => exact State.keepsSegments_of_log (s.handleNext_log slot)
  | openRental renter tariff => exact s.handleOpenRental_keepsSegments renter tariff
  | closeRental => exact s.handleCloseRental_keepsSegments
  | markExported number => exact s.handleMarkExported_keepsSegments number
  | ackAlert source cause => exact State.keepsSegments_of_log (s.handleAckAlert_log source cause)
  | serviceReset account => exact State.keepsSegments_of_places (s.handleServiceReset_places account)
  | restoreField account field value => exact State.keepsSegments_of_log (s.handleRestoreField_log account field value)
  | restoreDone account => exact State.keepsSegments_of_places (s.handleRestoreDone_places account)
  | bandPrimary entry metric low high =>
    exact State.keepsSegments_of_log (s.handleBandPrimary_log entry metric low high)
  | bandSecondary entry metric low high =>
    exact State.keepsSegments_of_log (s.handleBandSecondary_log entry metric low high)
  | bandWeight entry account cls bin weight enabled =>
    exact State.keepsSegments_of_log (s.handleBandWeight_log entry account cls bin weight enabled)
  | bandLock entry => exact State.keepsSegments_of_log (s.handleBandLock_log entry)
  | writeSetting id account raw => exact State.keepsSegments_of_log (s.handleWriteSetting_log id account raw)
  | checkpoint => exact State.keepsSegments_of_log s.handleCheckpoint_log
  | resetDevice => exact State.keepsSegments_of_log s.handleResetDevice_log

theorem State.decideRequest_keepsSegments (s : State) (slot : SlotIx) (kind : Byte) (ops : List Byte) :
    s.keepsSegments (s.decideRequest slot kind ops).state := by
  unfold State.decideRequest
  split
  · exact s.keepsSegments_refl
  · split
    · exact s.keepsSegments_refl
    · split
      · exact s.keepsSegments_refl
      · exact s.handle_keepsSegments slot _

theorem State.takeRequest_keepsSegments (s : State) (slot : SlotIx) (kind : Byte) (ops : List Byte) :
    s.keepsSegments (s.takeRequest slot kind ops) := by
  unfold State.takeRequest
  split
  · refine State.keepsSegments_of_log ?_
    unfold State.answerBusy
    split <;> rfl
  · exact State.keepsSegments_after (State.keepsSegments_of_log (Answer.conclude_log slot kind ops _))
      (State.keepsSegments_after (State.decideRequest_keepsSegments _ slot kind ops) (State.keepsSegments_of_log rfl))

theorem State.takeRequestData_keepsSegments (s : State) (slot : SlotIx) (data : List Byte) :
    s.keepsSegments (s.takeRequestData slot data) := by
  cases data with
  | nil => exact s.takeRequest_keepsSegments slot _ _
  | cons kind ops => exact s.takeRequest_keepsSegments slot kind ops

theorem State.hearFrame_keepsSegments (s : State) {take : State → State}
    (h : ∀ x : State, x.keepsSegments (take x)) : s.keepsSegments (s.hearFrame take) :=
  State.keepsSegments_ite
    (State.keepsSegments_ite (State.keepsSegments_of_log s.restartLinger.wake_log) (h s)) s.keepsSegments_refl

theorem State.observationFrame_keepsSegments (s : State) (id : CanId) (data : List Byte) :
    s.keepsSegments (s.observationFrame id data) := by
  refine s.hearFrame_keepsSegments fun x => ?_
  unfold State.routeFrame
  split
  · exact x.takeRequestData_keepsSegments _ data
  · exact State.keepsSegments_of_log (x.restartLinger.decode_log _ data)
  · exact x.keepsSegments_refl

end Sys2Proof.Machine
end

section
/-! PROOFS. The segment log stays sound (O8), the last part: the log a load forms, the commands, and the statement. -/

namespace Sys2Proof.Machine

/-! ## The log a load forms (R129 to R131) -/

/-- The order of the log a load forms: by opening serial, and of equal serials by slot (R130). -/
def LogEntry.precedes (a b : LogEntry) : Prop :=
  a.seg.serial < b.seg.serial ∨ a.seg.serial = b.seg.serial ∧ a.slot < b.slot

/-- The log with the segment slot k is loaded with, if any (R130). -/
def Store.placeSlot (st : Store) (l : List LogEntry) (k : Fin 24) : List LogEntry :=
  match st.loadSlot k with
  | some g => placeBySerial { slot := k, seg := g } l
  | none => l

theorem Store.loadLog_eq (st : Store) : st.loadLog = (List.finRange 24).foldl st.placeSlot [] := rfl

theorem placeBySerial_perm (e : LogEntry) (l : List LogEntry) : (placeBySerial e l).Perm (e :: l) := by
  induction l with
  | nil => exact List.Perm.refl _
  | cons x rest ih =>
    unfold placeBySerial
    split
    · exact List.Perm.refl _
    · exact (ih.cons x).trans (List.Perm.swap e x rest)

/-- An entry of a later slot than all others is placed in the order of the log. -/
theorem placeBySerial_ordered {e : LogEntry} {l : List LogEntry} (later : ∀ x ∈ l, x.slot < e.slot)
    (ordered : l.Pairwise LogEntry.precedes) : (placeBySerial e l).Pairwise LogEntry.precedes := by
  induction l with
  | nil => simp [placeBySerial]
  | cons x rest ih =>
    obtain ⟨first, others⟩ := List.pairwise_cons.mp ordered
    unfold placeBySerial
    split
    · next before =>
      refine List.pairwise_cons.mpr ⟨fun y m => .inl ?_, ordered⟩
      rcases List.mem_cons.mp m with rfl | m
      · exact before
      · rcases first y m with less | ⟨same, -⟩
        · exact before.trans less
        · exact same ▸ before
    · next after =>
      refine List.pairwise_cons.mpr ⟨fun y m => ?_, ih (fun y m => later y (List.mem_cons_of_mem x m)) others⟩
      rcases mem_placeBySerial.mp m with rfl | m
      · exact (Nat.lt_or_eq_of_le (Nat.le_of_not_lt after)).imp id fun same => ⟨same, later x List.mem_cons_self⟩
      · exact first y m

/-- Slots placed in their order give a log in its order, each entry in a slot of its own. -/
theorem Store.foldl_placeSlot_ordered (st : Store) {ks : List (Fin 24)} (sorted : ks.Pairwise (· < ·))
    {l : List LogEntry} (below : ∀ e ∈ l, ∀ k ∈ ks, e.slot < k) (ordered : l.Pairwise LogEntry.precedes)
    (own : (l.map LogEntry.slot).Nodup) :
    (ks.foldl st.placeSlot l).Pairwise LogEntry.precedes ∧ ((ks.foldl st.placeSlot l).map LogEntry.slot).Nodup := by
  induction ks generalizing l with
  | nil => exact ⟨ordered, own⟩
  | cons k ks ih =>
    obtain ⟨first, others⟩ := List.pairwise_cons.mp sorted
    have tail : ∀ e ∈ l, ∀ j ∈ ks, e.slot < j := fun e m j mj => below e m j (List.mem_cons_of_mem k mj)
    rw [List.foldl_cons]
    unfold Store.placeSlot
    split
    · next g _ =>
      have later : ∀ x ∈ l, x.slot < k := fun x m => below x m k List.mem_cons_self
      refine ih others (fun e m j mj => ?_) (placeBySerial_ordered later ordered) ?_
      · rcases mem_placeBySerial.mp m with rfl | m
        · exact first j mj
        · exact tail e m j mj
      · rw [((placeBySerial_perm _ l).map LogEntry.slot).nodup_iff, List.map_cons, List.nodup_cons]
        refine ⟨fun used => ?_, own⟩
        obtain ⟨x, m, same⟩ := List.mem_map.mp used
        exact absurd same (Fin.ne_of_lt (later x m))
    · exact ih others tail ordered own

/-- The log a load forms is in its order, each segment in a slot of its own. -/
theorem Store.loadLog_ordered (st : Store) :
    st.loadLog.Pairwise LogEntry.precedes ∧ (st.loadLog.map LogEntry.slot).Nodup :=
  st.loadLog_eq ▸ st.foldl_placeSlot_ordered (List.pairwise_lt_finRange 24) (by simp) List.Pairwise.nil List.nodup_nil

theorem gapEntries_slots (current : Tracked) (l : List LogEntry) :
    (gapEntries current l).map LogEntry.slot = l.map LogEntry.slot := by
  induction l with
  | nil => rfl
  | cons e newer ih =>
    unfold gapEntries
    rw [List.map_cons, List.map_cons, ih]
    split <;> rfl

/-- With a newer segment OPEN a segment found OPEN is closed; the newest stays OPEN (R131). -/
theorem Segment.afterGap_state (current : Tracked) (g : Segment) (newer : List LogEntry) :
    (g.afterGap current newer).state = if newer.any fun e => e.seg.state == .opened then .closed else g.state := by
  unfold Segment.afterGap
  split <;> rfl

/-- Of the segments found OPEN one stays OPEN (R131). -/
theorem gapEntries_opened (current : Tracked) (l : List LogEntry) :
    ((gapEntries current l).countP fun e => e.seg.state == .opened) =
      if l.any fun e => e.seg.state == .opened then 1 else 0 := by
  induction l with
  | nil => rfl
  | cons e newer ih =>
    unfold gapEntries
    rw [List.countP_cons, ih, List.any_cons]
    by_cases opened : e.seg.state = .opened
    · rw [if_pos opened]
      cases found : newer.any fun x => x.seg.state == .opened <;> simp [Segment.afterGap_state, found, opened]
    · simp [opened]

/-- The log formed, its DAMAGED segments reported and the counters settled, before the OPEN segments are handled (R129,
R130). -/
def State.countersSettled (s : State) : State :=
  ((List.finRange 24).foldl State.reportDamaged { s with log := s.store.formedLog }).settleCounters

theorem State.loadSegments_eq (s : State) : s.loadSegments = s.countersSettled.handleOpen.evalNearFull := rfl

theorem State.settleCounters_changesOnly (s : State) : s.changesOnly s.settleCounters [.settings, .store] := by
  unfold State.settleCounters
  split
  · refine State.changesOnly_ite ?_ (s.changesOnly_refl _)
    intro p hp
    cases p <;> first | rfl | simp at hp
  · exact s.changesOnly_refl _

theorem State.countersSettled_changesOnly (s : State) :
    s.changesOnly s.countersSettled [.log, .settings, .store, .alerts, .port] := by
  have formed : s.changesOnly { s with log := s.store.formedLog } [.log] := by
    intro p hp
    cases p <;> first | rfl | simp at hp
  exact State.changesOnly_then (rs := [.log, .settings, .store, .alerts, .port])
    (State.changesOnly_then (rs := [.log, .alerts, .port]) formed
      (State.changesOnly_foldl State.reportDamaged_changesOnly _ _) (by decide) (by decide))
    (State.settleCounters_changesOnly _) (by decide) (by decide)

theorem State.countersSettled_log (s : State) : s.countersSettled.log = s.store.formedLog :=
  (State.settleCounters_counted _).2.trans
    (State.changesOnly_foldl State.reportDamaged_changesOnly (List.finRange 24) { s with log := s.store.formedLog } .log
      (by decide))

theorem State.handleOpen_entries (s : State) :
    s.handleOpen.log.entries = gapEntries (Tracked.current s.accounts.accounts) s.log.entries := by
  unfold State.handleOpen
  dsimp only
  rw [State.foldl_raiseGap_log]

/-- The log after the segments are loaded and those found OPEN handled (R130, R131). -/
theorem State.loadSegments_entries (s : State) :
    s.loadSegments.log.entries = gapEntries (Tracked.current s.accounts.accounts) s.store.loadLog := by
  rw [State.loadSegments_eq, State.evalNearFull_entries, State.handleOpen_entries, State.countersSettled_log,
    s.countersSettled_changesOnly .accounts (by decide)]
  rfl

/-- The state with all but the segments formed. -/
def State.recordsFormed (s : State) (k : LoadKind) : State :=
  (List.finRange 16).foldl (State.loadBand k) ((s.startLoad k).loadAccounts.loadSettings k)

theorem State.formAll_eq (s : State) (k : LoadKind) :
    s.formAll k = (s.recordsFormed k).loadSegments.settleTimebase := rfl

theorem State.foldl_loadBand_changesOnly (s : State) (k : LoadKind) (l : List (Fin 16)) :
    s.changesOnly (l.foldl (State.loadBand k) s) [.bands, .alerts, .port] :=
  State.changesOnly_foldl (fun x j => x.loadBand_changesOnly k j) l s

theorem State.loadSettings_changesOnly (s : State) (k : LoadKind) :
    s.changesOnly (s.loadSettings k) [.settings, .store, .alerts, .port] :=
  State.changesOnly_then (s.formSettings_changesOnly k)
    (State.changesOnly_ite (State.reportSuspect_changesOnly _ _) (State.changesOnly_refl _ _)) (by decide) (by decide)

theorem State.recordsFormed_changesOnly (s : State) (k : LoadKind) :
    (s.startLoad k).changesOnly (s.recordsFormed k) [.accounts, .settings, .store, .bands, .alerts, .port] :=
  State.changesOnly_then (rs := [.accounts, .settings, .store, .bands, .alerts, .port])
    (s.startLoad k).loadAccounts_changesOnly
    (State.changesOnly_then (rs := [.settings, .store, .bands, .alerts, .port])
      (State.loadSettings_changesOnly _ k) (State.foldl_loadBand_changesOnly _ k _) (by decide) (by decide))
    (by decide) (by decide)

/-- Of the store the accounts, the settings and the bands set the suspect mark of record 5 alone. -/
theorem State.recordsFormed_store (s : State) (k : LoadKind) :
    { (s.recordsFormed k).store with settingsSuspect := s.store.settingsSuspect } = (s.startLoad k).store := by
  have accounts : (s.startLoad k).loadAccounts.store = (s.startLoad k).store :=
    (s.startLoad k).loadAccounts_changesOnly .store (by decide)
  have settings (x : State) : (x.loadSettings k).store = (x.formSettings k).store :=
    State.changesOnly_ite (State.reportSuspect_changesOnly _ _) (State.changesOnly_refl _ _) .store (by decide)
  have formed := (s.startLoad k).loadAccounts.formSettings_store k
  unfold State.recordsFormed
  rw [State.foldl_loadBand_changesOnly _ k _ .store (by decide), settings]
  rw [accounts] at formed
  exact formed

theorem State.recordsFormed_array (s : State) (k : LoadKind) : (s.recordsFormed k).store.array = s.store.array := by
  have e := congrArg Store.array (s.recordsFormed_store k)
  exact e

theorem State.loadAccounts_account (s : State) (i : AccountIx) : s.loadAccounts.account i = s.store.loadAccount i := by
  have evaluated (l : List AccountIx) (x : State) : (l.foldl State.evalThresholds x).account i = x.account i := by
    induction l generalizing x with
    | nil => rfl
    | cons j l ih => rw [List.foldl_cons, ih, State.account_evalThresholds]
  have report (x : State) (j : AccountIx) : x.changesOnly (x.reportLoaded j) [.alerts, .port] :=
    State.changesOnly_ite (x.changesOnly_refl _) (x.report_changesOnly _ _ _)
  rw [State.loadAccounts_eq, evaluated,
    State.account_of_changesOnly (State.changesOnly_foldl report _ s.tableFormed) (by decide),
    State.account_tableFormed]

/-- The accounts stand as loaded when the segments are (R24). -/
theorem State.recordsFormed_account (s : State) (k : LoadKind) (i : AccountIx) :
    (s.recordsFormed k).account i = s.store.loadAccount i := by
  unfold State.recordsFormed
  rw [State.account_of_changesOnly (State.foldl_loadBand_changesOnly _ k _) (by decide),
    State.account_of_changesOnly (State.loadSettings_changesOnly _ k) (by decide), State.loadAccounts_account]
  rfl

/-- The current values as the accounts are loaded (R114, R131). -/
def Store.loadedValues (st : Store) : Tracked :=
  Tracked.current #v[st.loadAccount 0, st.loadAccount 1, st.loadAccount 2, st.loadAccount 3, st.loadAccount 4]

theorem State.recordsFormed_current (s : State) (k : LoadKind) :
    Tracked.current (s.recordsFormed k).accounts.accounts = s.store.loadedValues := by
  refine congrArg Tracked.current (Vector.ext fun i below => ?_)
  refine (s.recordsFormed_account k ⟨i, below⟩).trans ?_
  match i with
  | 0 | 1 | 2 | 3 | 4 => rfl

/-- The segments a load leaves, but for the flag of R183. -/
def Store.gapLog (st : Store) : List LogEntry := gapEntries st.loadedValues st.loadLog

theorem State.recordsFormed_segments (s : State) (k : LoadKind) :
    (s.recordsFormed k).loadSegments.log.entries = s.store.gapLog := by
  rw [State.loadSegments_entries, State.recordsFormed_current]
  exact congrArg (gapEntries s.store.loadedValues)
    (congrArg SegmentLog.entries (Store.formedLog_congr (s.recordsFormed_array k)))

/-- Whatever the records hold, one segment at most is left OPEN, and each has a slot of its own. -/
theorem Store.gapLog_sound (st : Store) :
    (st.gapLog.countP fun e => e.seg.state == .opened) ≤ 1 ∧ (st.gapLog.map LogEntry.slot).Nodup := by
  refine ⟨(gapEntries_opened _ _).trans_le ?_, (gapEntries_slots _ _).symm ▸ st.loadLog_ordered.2⟩
  split <;> decide

theorem State.finishLoad_log (s : State) (k : LoadKind) : (s.finishLoad k).log = (s.formAll k).log := by
  rw [State.finishLoad_eq]
  simp [State.readied]

theorem State.recordsFormed_sound (s : State) (k : LoadKind) :
    (s.recordsFormed k).loadSegments.oneOpen ∧ (s.recordsFormed k).loadSegments.slotsDistinct := by
  unfold State.oneOpen State.slotsDistinct
  rw [State.recordsFormed_segments]
  exact s.store.gapLog_sound

/-- Whatever the log was, the one loaded is sound. -/
theorem State.finishLoad_keepsSegments (s : State) (k : LoadKind) : s.keepsSegments (s.finishLoad k) := by
  have kept : (s.recordsFormed k).loadSegments.keepsSegments (s.finishLoad k) :=
    State.keepsSegments_of_places (by rw [State.finishLoad_log, State.formAll_eq, State.settleTimebase_places])
  obtain ⟨one, own⟩ := s.recordsFormed_sound k
  exact ⟨fun _ => kept.oneOpen one, fun _ => kept.distinct own⟩

/-! ## Commands and time -/

theorem State.tick_log (s : State) : s.tick.log = s.log := by
  unfold State.tick
  split
  · rfl
  · split
    · rfl
    · split <;> rfl

/-- Every command keeps the log sound. -/
theorem exec_keepsSegments {c : Instr} {s t : State} (h : exec c s = .next t) : s.keepsSegments t := by
  have same : s.keepsSegments s := s.keepsSegments_refl
  cases request : requestOf c with
  | some r =>
    obtain ⟨slot, kind, ops⟩ := r
    rw [exec_request request] at h
    cases h
    exact s.hearFrame_keepsSegments fun x => x.takeRequest_keepsSegments slot kind ops
  | none =>
    cases c
    case unknownRequest slot data =>
      cases h
      exact s.hearFrame_keepsSegments fun x => x.takeRequestData_keepsSegments slot data
    case engineState id data => cases h; exact s.observationFrame_keepsSegments id data
    case drivelineState id data => cases h; exact s.observationFrame_keepsSegments id data
    case drivelineEvent id data => cases h; exact s.observationFrame_keepsSegments id data
    case wakeFrame => cases h; exact s.hearFrame_keepsSegments fun x => x.keepsSegments_refl
    case signalHeld n => cases h; exact State.keepsSegments_ite (State.keepsSegments_of_log (s.passHeld_log n)) same
    case signalUnknown n =>
      cases h
      exact State.keepsSegments_ite
        (State.keepsSegments_of_log (s.passUnknown_changesOnly n _ .log (by decide))) same
    case meteringExpiry =>
      cases h
      exact State.keepsSegments_ite (State.keepsSegments_of_places (State.meteringPass_places _)) same
    case crankChange asserted =>
      cases h
      exact State.keepsSegments_ite same (State.keepsSegments_ite
        (State.keepsSegments_of_log (s.crankLine_log asserted)) (State.keepsSegments_of_log rfl))
    case crankWindowExpiry =>
      cases h
      exact State.keepsSegments_ite (State.keepsSegments_of_log (s.windowExpiry_changesOnly .log (by decide))) same
    case confirmExpiry =>
      cases h
      exact State.keepsSegments_ite (State.keepsSegments_of_log (s.confirmDone_changesOnly .log (by decide))) same
    case stopTimerExpiry => cases h; exact State.keepsSegments_ite (State.keepsSegments_of_log s.stopDone_log) same
    case ignAsserted =>
      cases h
      exact State.keepsSegments_ite same (State.keepsSegments_ite (State.keepsSegments_of_log (State.wake_log _))
        (State.keepsSegments_of_log rfl))
    case keyOff =>
      cases h
      exact State.keepsSegments_ite (State.keepsSegments_ite
        (State.keepsSegments_of_log (State.checkpointEnqueue_log _ allRecords)) (State.keepsSegments_of_log rfl)) same
    case periodicCheckpoint =>
      cases h
      exact State.keepsSegments_ite (State.keepsSegments_of_log (State.checkpointEnqueue_log _ _)) same
    case lingerExpiry =>
      cases h
      split
      · exact State.keepsSegments_of_log (State.parkCheck_log _)
      · exact same
    case writeCompletion faulted =>
      cases h
      split
      · next w _ => exact State.keepsSegments_of_log (s.writeDone_log w faulted)
      · exact same
    case pfwAsserted =>
      cases h
      exact State.keepsSegments_ite same (State.keepsSegments_ite (State.keepsSegments_of_log (State.takePfw_log _))
        (State.keepsSegments_of_log rfl))
    case pfwReleased =>
      cases h
      exact State.keepsSegments_ite (State.keepsSegments_ite (State.keepsSegments_of_log rfl)
        (State.keepsSegments_ite (State.keepsSegments_of_log rfl)
          (State.keepsSegments_of_log (State.dropPfw_log _)))) same
    case monitorWindow cycles =>
      cases h
      exact State.keepsSegments_ite (State.keepsSegments_of_places (s.windowEnd_places cycles)) same
    case deviceTimeSecond => cases h; exact State.keepsSegments_ite (State.keepsSegments_of_log rfl) same
    case coldReset straps cycles =>
      cases h
      exact ⟨fun _ => Nat.zero_le 1, fun _ => List.nodup_nil⟩
    case warmReset dip => cases h; exact State.keepsSegments_of_log rfl
    case resetEnd retentionGood recordGood cycles straps =>
      cases h
      split
      · exact State.keepsSegments_of_places (s.finishReset_places _ _ _ _ _)
      · exact same
    case loadEnd =>
      cases h
      split
      · exact s.finishLoad_keepsSegments _
      · exact same
    case transmissionComplete =>
      cases h
      refine State.keepsSegments_ite ?_ same
      split
      · exact State.keepsSegments_of_log (s.sendFrame_log _ _)
      · exact same
    case busOff =>
      cases h
      exact State.keepsSegments_ite (State.keepsSegments_ite (State.keepsSegments_of_log (State.parkCheck_log _))
        (State.keepsSegments_of_log rfl)) same
    case busOffRecovery => cases h; exact State.keepsSegments_ite (State.keepsSegments_of_log rfl) same
    all_goals cases request

theorem step_keepsSegments {s t : State} (h : step s = .next t) : s.keepsSegments t := by
  rcases Laws.step_cases h with ⟨c, rest, -, ran⟩ | ⟨-, rfl⟩
  · exact State.keepsSegments_after (exec_keepsSegments ran) (State.keepsSegments_of_log rfl)
  · exact State.keepsSegments_of_log s.tick_log

/-- Settles O8: every step keeps the log sound, and of 24 slots no more than 24 are taken without a repeat. -/
theorem segmentLogStaysSound : Obligations.SegmentLogStaysSound := by
  refine ⟨fun s t one run => (step_keepsSegments run).oneOpen one,
    fun s t own run => (step_keepsSegments run).distinct own, fun s own => ?_⟩
  have bound := List.Nodup.length_le_card own
  rwa [List.length_map, Fintype.card_fin] at bound

end Sys2Proof.Machine
end

section
/-! PROOFS. Rentals: what the handing of slot records and record 5 leaves, CLOSE RENTAL (O32), MARK EXPORTED (O33) and
OPEN RENTAL (O31) with the numbering of segments (R115). -/

namespace Sys2Proof.Machine

/-! ## Requests of any slot that has the right -/

/-- What a permitted request becomes where the part hears it, at rest if it has to be (R167 to R169). -/
theorem exec_permitted {c : Instr} {s : State} {slot : SlotIx} {kind : Byte} {ops : List Byte} {q : Request}
    (request : requestOf c = some (slot, kind, ops)) (parsed : parseRequest kind.toNat ops = some q)
    (hears : s.hears slot) (permitted : q.permitted slot = true) (rest : (q.needsRest && !s.atRest) = false) :
    exec c s = .next ((s.restartLinger.handle slot q).conclude slot kind ops) := by
  have resting : (q.needsRest && !s.restartLinger.atRest) = false := rest
  rw [exec_request request, s.requestFrame_hears slot kind ops hears]
  simp [State.decideRequest, parsed, permitted, resting]

/-- A refusal of a permitted request adds its response and changes nothing else. -/
theorem exec_permitted_refused {c : Instr} {s : State} {slot : SlotIx} {kind : Byte} {ops : List Byte} {q : Request}
    {o : ReqOutcome} (request : requestOf c = some (slot, kind, ops)) (parsed : parseRequest kind.toNat ops = some q)
    (hears : s.hears slot) (permitted : q.permitted slot = true) (rest : (q.needsRest && !s.atRest) = false)
    (room : s.port.hasRoom = true) (refused : s.restartLinger.handle slot q = .refusal s.restartLinger o) :
    exec c s = .next (s.responded slot kind o []) := by
  rw [exec_permitted request parsed hears permitted rest, refused]
  obtain ⟨-, -, idle⟩ := hears
  exact congrArg Host.Outcome.next (Answer.conclude_atOnce s.restartLinger slot kind ops o [] idle room)

/-- A permitted request whose records a WRITING store was handed waits for their writes (R157, R170). -/
theorem exec_permitted_deferred {c : Instr} {s u : State} {slot : SlotIx} {kind : Byte} {ops payload : List Byte}
    {q : Request} {records : List RecordId} (request : requestOf c = some (slot, kind, ops))
    (parsed : parseRequest kind.toNat ops = some q) (hears : s.hears slot) (permitted : q.permitted slot = true)
    (rest : (q.needsRest && !s.atRest) = false) (handled : s.restartLinger.handle slot q = .durable u records payload)
    (writing : u.store.state = .writing) :
    ∃ t, exec c s = .next t ∧ t.waitsWith slot kind payload records ∧ u.changesOnly t [.engine] := by
  have durable : Answer.durable u records payload = .deferred u (records.map u.waitOn) payload := by
    unfold Answer.durable
    rw [writing]
  refine ⟨_, ?_, Answer.conclude_deferred_waits u slot kind ops records payload, u.setInFlight_changesOnly slot _⟩
  rw [exec_permitted request parsed hears permitted rest, handled, durable]

/-! ## Handing where the store can write (R155) -/

/-- A store that can write still can after it was handed a record. -/
theorem State.hand_defers {s : State} (d : s.defers) (r : RecordId) : (s.hand r).defers := by
  refine .inr ⟨State.hand_state d r, ?_⟩
  rcases State.hand_cases d r with e | ⟨writing, e⟩
  · rw [e]
    rfl
  · have busy : s.store.inFlight.isSome = true := by
      rcases d with ⟨ready, -⟩ | ⟨-, busy⟩
      · rw [ready] at writing
        cases writing
      · exact busy
    rw [e]
    unfold Store.append
    split <;> simpa [Store.mark] using busy

/-- A mark of one record leaves what covers another. -/
theorem Store.covered_mark_other (st : Store) {r q : RecordId} (other : q ≠ r) :
    (st.mark r).covered q = st.covered q := by
  have flying : (st.mark r).inFlightCovers q = st.inFlightCovers q := by
    unfold Store.inFlightCovers Store.mark
    cases st.inFlight with
    | none => rfl
    | some w =>
      by_cases same : w.record = q
      · subst same
        simp [other]
      · have apart : (w.record == q) = false := beq_eq_false_iff_ne.mpr same
        simp [apart]
  unfold Store.covered
  rw [flying, Store.mark_queue]

/-- What joins the queue takes no cover away. -/
theorem Store.covered_append (st : Store) (r : RecordId) {q : RecordId} (covered : st.covered q = true) :
    (st.append r).covered q = true := by
  unfold Store.append
  split
  · exact covered
  · unfold Store.covered at covered ⊢
    simp only [List.contains_eq_mem, Bool.or_eq_true, decide_eq_true_eq, List.mem_append] at covered ⊢
    exact covered.imp .inl id

/-- A record covered stays covered when a WRITING store is handed another. -/
theorem State.hand_covers_other {s : State} (writing : s.store.state = .writing) {r q : RecordId} (other : q ≠ r)
    (covered : s.store.covered q = true) : (s.hand r).store.covered q = true := by
  rw [s.hand_writing r writing]
  exact Store.covered_append _ r ((s.store.covered_mark_other other).trans covered)

/-- Handing a record that is no account's stamps no working copy (R9). -/
theorem State.hand_changesOnly_of_other {s : State} (d : s.defers) {r : RecordId} (other : ∀ i, r ≠ .account i) :
    s.changesOnly (s.hand r) [.store, .engine] := by
  intro p hp
  by_cases accounts : p = .accounts
  · subst accounts
    exact (State.hand_awaited d 0#8 [] [] r).accounts other
  · exact s.hand_changesOnly r p (by simp_all)

/-! ## A segment changed in its slot (R122, R124) -/

theorem SegmentLog.inSlot_congr {l m : SegmentLog} (h : m.entries = l.entries) (k : Fin 24) :
    m.inSlot k = l.inSlot k := by
  unfold SegmentLog.inSlot
  rw [h]

/-- LOG_NEAR_FULL is kept as evaluated (R127). -/
theorem State.evalNearFull_nearFull (s : State) :
    s.evalNearFull.log.nearFull = decide (20 ≤ s.evalNearFull.log.closedCount) := by
  unfold State.evalNearFull
  dsimp only
  split
  · next same => exact same.symm
  · rfl

theorem State.modifySegment_changesOnly (s : State) (k : Fin 24) (f : Segment → Segment) :
    s.changesOnly (s.modifySegment k f) [.log] := by
  intro p hp
  cases p <;> first | rfl | simp at hp

/-- From s to t the segment of an entry became g, its record was handed, and the slot waits for its write. -/
structure State.segmentPut (s t : State) (slot : SlotIx) (kind : Byte) (payload : List Byte) (e : LogEntry)
    (g : Segment) : Prop where
  segment : t.log.inSlot e.slot = some g
  others : ∀ k, k ≠ e.slot → t.log.inSlot k = s.log.inSlot k
  nearFull : t.log.nearFull = decide (20 ≤ t.log.closedCount)
  covered : t.store.covered (.slot e.slot) = true
  waits : t.waitsWith slot kind payload [.slot e.slot]
  changes : s.changesOnly t [.time, .log, .alerts, .port, .store, .engine]

/-- A permitted request that its owning block answers by a change of one segment. -/
theorem exec_putSegment {c : Instr} {s : State} {slot : SlotIx} {kind : Byte} {ops payload : List Byte} {q : Request}
    {e : LogEntry} {f : Segment → Segment} (request : requestOf c = some (slot, kind, ops))
    (parsed : parseRequest kind.toNat ops = some q) (hears : s.hears slot) (permitted : q.permitted slot = true)
    (rest : (q.needsRest && !s.atRest) = false) (d : s.defers) (own : s.slotsDistinct) (m : e ∈ s.log.entries)
    (handled : s.restartLinger.handle slot q =
      .durable ((s.restartLinger.modifySegment e.slot f).evalNearFull.hand (.slot e.slot)) [.slot e.slot] payload) :
    ∃ t, exec c s = .next t ∧ s.segmentPut t slot kind payload e (f e.seg) := by
  have changed := s.restartLinger.modifySegment_changesOnly e.slot f
  have entries : (s.restartLinger.modifySegment e.slot f).evalNearFull.log.entries = (s.log.modify e.slot f).entries :=
    State.evalNearFull_entries _
  have nearFull := (s.restartLinger.modifySegment e.slot f).evalNearFull_nearFull
  have evaluated := State.changesOnly_then (rs := [.log, .alerts, .port]) changed
    (State.evalNearFull_changesOnly _) (by decide) (by decide)
  generalize (s.restartLinger.modifySegment e.slot f).evalNearFull = u at *
  have defers : u.defers := by
    unfold State.defers
    rw [evaluated .store (by decide)]
    exact d
  have handed := State.hand_changesOnly_of_other defers (r := .slot e.slot) fun _ => RecordId.noConfusion
  obtain ⟨t, run, waits, engine⟩ := exec_permitted_deferred request parsed hears permitted rest handled
    (State.hand_state defers _)
  have log : t.log = u.log := (engine .log (by decide)).trans (handed .log (by decide))
  have segments : t.log.entries = (s.log.modify e.slot f).entries := by rw [log, entries]
  have store : t.store = (u.hand (.slot e.slot)).store := engine .store (by decide)
  have whole : s.changesOnly u [.time, .log, .alerts, .port] :=
    State.changesOnly_then s.restartLinger_changesOnly evaluated (by decide) (by decide)
  refine ⟨t, run,
    { segment := ?_
      others := fun k other => ?_
      nearFull := by rw [log, nearFull]
      covered := by rw [store]; exact State.hand_covers defers _
      waits := waits
      changes := State.changesOnly_then whole
        (State.changesOnly_then (rs := [.store, .engine]) handed engine (by decide) (by decide)) (by decide)
        (by decide) }⟩
  · rw [SegmentLog.inSlot_congr segments, SegmentLog.inSlot_modify, if_pos rfl, SegmentLog.inSlot_of_mem own m]
    rfl
  · rw [SegmentLog.inSlot_congr segments, SegmentLog.inSlot_modify, if_neg other]

/-! ## CLOSE RENTAL (O32) -/

theorem State.handleCloseRental_none {s : State} (closed : s.log.openEntry = none) :
    s.handleCloseRental = .refusal s .stateRefused := by
  unfold State.handleCloseRental
  rw [closed]

theorem State.handleCloseRental_some {s : State} {e : LogEntry} (opened : s.log.openEntry = some e) :
    s.handleCloseRental =
      .durable
        ((s.modifySegment e.slot fun g =>
          g.closeAt (Tracked.current s.accounts.accounts) s.time.deviceTime).evalNearFull.hand (.slot e.slot))
        [.slot e.slot] (bytes16 e.seg.number) := by
  unfold State.handleCloseRental
  rw [opened]

/-- Settles O32: without an OPEN segment a refusal, else the close of the one found. -/
theorem closeRentalTakesDeltas : Obligations.CloseRentalTakesDeltas := by
  intro s slot ops office hears resting d room own
  have rest : (Request.closeRental.needsRest && !s.atRest) = false := by rw [resting]; rfl
  cases opened : s.log.openEntry with
  | none =>
    exact ⟨_, exec_permitted_refused (q := .closeRental) rfl rfl hears office rest room
      (State.handleCloseRental_none (s := s.restartLinger) opened), rfl⟩
  | some e =>
    obtain ⟨t, run, put⟩ := exec_putSegment (c := .closeRental slot ops) (q := .closeRental) rfl rfl hears office rest d
      own (SegmentLog.openEntry_mem opened) (State.handleCloseRental_some (s := s.restartLinger) opened)
    exact ⟨t, run, put.segment, put.others, put.nearFull, put.covered, put.waits, put.changes⟩

/-! ## MARK EXPORTED (O33) -/

theorem SegmentLog.named_mem {l : SegmentLog} {n : Nat} {e : LogEntry} (named : l.named n = some e) :
    e ∈ l.entries := by
  unfold SegmentLog.named at named
  split at named <;> exact List.mem_of_find?_eq_some named

theorem State.handleMarkExported_none {s : State} {n : Nat} (none_ : s.log.named n = none) :
    s.handleMarkExported n = .refusal s .empty := by
  unfold State.handleMarkExported
  rw [none_]

theorem State.handleMarkExported_refused {s : State} {n : Nat} {e : LogEntry} (named : s.log.named n = some e)
    (h : e.seg.state = .opened ∨ e.seg.state = .damaged) : s.handleMarkExported n = .refusal s .stateRefused := by
  unfold State.handleMarkExported
  rw [named]
  rcases h with h | h <;> simp [h]

theorem State.handleMarkExported_exported {s : State} {n : Nat} {e : LogEntry} (named : s.log.named n = some e)
    (h : e.seg.state = .exported) : s.handleMarkExported n = .refusal s .ok := by
  unfold State.handleMarkExported
  rw [named]
  simp [h]

theorem State.handleMarkExported_closed {s : State} {n : Nat} {e : LogEntry} (named : s.log.named n = some e)
    (h : e.seg.state = .closed) :
    s.handleMarkExported n =
      .durable ((s.modifySegment e.slot fun g => { g with state := .exported }).evalNearFull.hand (.slot e.slot))
        [.slot e.slot] [] := by
  unfold State.handleMarkExported
  rw [named]
  simp [h]

/-- Settles O33: by the segment the number names, and by its state. -/
theorem markExportedByState : Obligations.MarkExportedByState := by
  intro s slot n1 n0 rest office hears d room own
  have refused {o : ReqOutcome}
      (h : s.restartLinger.handleMarkExported (nat16 n1 n0) = .refusal s.restartLinger o) :
      exec (.markExported slot (n1 :: n0 :: rest)) s = .next (s.responded slot 0x12#8 o []) :=
    exec_permitted_refused (q := .markExported (nat16 n1 n0)) rfl rfl hears office rfl room h
  cases named : s.log.named (nat16 n1 n0) with
  | none => exact ⟨_, refused (State.handleMarkExported_none named), rfl⟩
  | some e =>
    cases state : e.seg.state with
    | opened =>
      refine ⟨_, refused (State.handleMarkExported_refused named (.inl state)), ?_⟩
      simp [state]
    | damaged =>
      refine ⟨_, refused (State.handleMarkExported_refused named (.inr state)), ?_⟩
      simp [state]
    | exported =>
      refine ⟨_, refused (State.handleMarkExported_exported named state), ?_⟩
      simp [state]
    | closed =>
      obtain ⟨t, run, put⟩ := exec_putSegment (c := .markExported slot (n1 :: n0 :: rest))
        (q := .markExported (nat16 n1 n0)) rfl rfl hears office rfl d own (SegmentLog.named_mem named)
        (State.handleMarkExported_closed (s := s.restartLinger) named state)
      refine ⟨t, run, ?_⟩
      simp only [state]
      exact ⟨put.segment, put.others, put.nearFull, put.covered, put.waits, put.changes⟩

/-! ## Segment numbers (R115) -/

theorem numberAfter_range (n : Nat) : 1 ≤ numberAfter n ∧ numberAfter n ≤ 65535 := by
  unfold numberAfter
  split <;> omega

/-- The i-th number after one in 1..65,535. -/
theorem numberAfter_iterate {m : Nat} (low : 1 ≤ m) (high : m ≤ 65535) (i : Nat) :
    numberAfter^[i] m = (m - 1 + i) % 65535 + 1 := by
  induction i with
  | zero => rw [Function.iterate_zero_apply]; omega
  | succ i ih =>
    rw [Function.iterate_succ_apply', ih]
    unfold numberAfter
    split <;> omega

/-- Successive numbers do not repeat within a round. -/
theorem numberAfter_iterate_injOn (n : Nat) {i j : Nat} (hi : i < 65535) (hj : j < 65535)
    (same : numberAfter^[i + 1] n = numberAfter^[j + 1] n) : i = j := by
  obtain ⟨low, high⟩ := numberAfter_range n
  rw [Function.iterate_succ_apply, Function.iterate_succ_apply, numberAfter_iterate low high,
    numberAfter_iterate low high] at same
  omega

/-- A segment of the log holds the number. -/
def SegmentLog.holdsNumber (l : SegmentLog) (n : Nat) : Prop := ∃ e ∈ l.entries, e.seg.number = n

theorem freeNumber_succ (l : SegmentLog) (tries n : Nat) :
    (l.holdsNumber (numberAfter n) ∧ freeNumber l (tries + 1) n = freeNumber l tries (numberAfter n)) ∨
      (¬l.holdsNumber (numberAfter n) ∧ freeNumber l (tries + 1) n = numberAfter n) := by
  have held : (l.entries.any fun e => e.seg.number == numberAfter n) = true ↔ l.holdsNumber (numberAfter n) := by
    simp [SegmentLog.holdsNumber]
  rw [freeNumber]
  split
  · next h => exact .inl ⟨held.mp h, rfl⟩
  · next h => exact .inr ⟨fun k => h (held.mpr k), rfl⟩

theorem freeNumber_range (l : SegmentLog) (tries n : Nat) :
    1 ≤ freeNumber l (tries + 1) n ∧ freeNumber l (tries + 1) n ≤ 65535 := by
  induction tries generalizing n with
  | zero => rcases freeNumber_succ l 0 n with ⟨-, e⟩ | ⟨-, e⟩ <;> rw [e] <;> exact numberAfter_range n
  | succ tries ih =>
    rcases freeNumber_succ l (tries + 1) n with ⟨-, e⟩ | ⟨-, e⟩ <;> rw [e]
    · exact ih _
    · exact numberAfter_range n

/-- If the number reached is held, so are all that were tried. -/
theorem freeNumber_held {l : SegmentLog} {tries n : Nat} (held : l.holdsNumber (freeNumber l tries n)) :
    ∀ i < tries, l.holdsNumber (numberAfter^[i + 1] n) := by
  induction tries generalizing n with
  | zero => exact fun i less => absurd less (Nat.not_lt_zero i)
  | succ tries ih =>
    rcases freeNumber_succ l tries n with ⟨first, e⟩ | ⟨free, e⟩
    · rw [e] at held
      intro i less
      cases i with
      | zero => exact first
      | succ i => exact ih held i (Nat.lt_of_succ_lt_succ less)
    · exact absurd (e ▸ held) free

/-- With more tries than segments the number reached is free. -/
theorem freeNumber_free {l : SegmentLog} {tries : Nat} (n : Nat) (few : l.entries.length < tries)
    (round : tries ≤ 65535) : ¬l.holdsNumber (freeNumber l tries n) := by
  intro held
  have all := freeNumber_held held
  have tried : ((List.range tries).map fun i => numberAfter^[i + 1] n).Nodup :=
    List.nodup_range.map_on fun i hi j hj same => numberAfter_iterate_injOn n
      ((List.mem_range.mp hi).trans_le round) ((List.mem_range.mp hj).trans_le round) same
  have taken : ((List.range tries).map fun i => numberAfter^[i + 1] n) ⊆ l.entries.map fun e => e.seg.number := by
    intro m hm
    obtain ⟨i, hi, rfl⟩ := List.mem_map.mp hm
    exact List.mem_map.mpr (all i (List.mem_range.mp hi))
  have most := (List.subperm_of_subset tried taken).length_le
  rw [List.length_map, List.length_map, List.length_range] at most
  omega

/-! ## OPEN RENTAL (O31) -/

/-- From s to t a segment was opened in slot k behind the entries before it (R118), as O31 states it. -/
def State.opensIn (s t : State) (renter : List Byte) (tariff : Byte) (before : List LogEntry) (k : Fin 24) : Prop :=
  ∃ g : Segment, t.log.entries = before ++ [{ slot := k, seg := g }] ∧ g.state = .opened ∧
    g.renter = renter ∧ g.tariff = tariff ∧ g.openTime = s.time.deviceTime ∧
    g.closeTime = none ∧ 1 ≤ g.number ∧ g.number ≤ 65535 ∧
    (s.slotsDistinct → ∀ x ∈ before, x.seg.number ≠ g.number) ∧ g.serial = min (s.settings.lastSerial + 1) 4294967295 ∧
    g.tracked = Tracked.current s.accounts.accounts ∧
    g.flags = { SegmentFlags.empty with timebaseDegraded := s.time.selection == .internalRc } ∧
    t.settings = { s.settings with lastSegment := g.number, lastSerial := g.serial } ∧
    t.store.covered (.slot k) = true ∧ t.store.covered .settings = true ∧
    t.waitsWith 3 0x10#8 (bytes16 g.number) [.slot k, .settings] ∧
    s.changesOnly t [.time, .log, .settings, .alerts, .store, .engine]

/-- The log with the segment an opening makes, and the counters taken (R118). -/
def State.segmentOpened (s : State) (k : Fin 24) (renter : List Byte) (tariff : Byte) : State :=
  { s with
    log := { s.log with entries := s.log.entries ++ [{ slot := k, seg := s.newSegment renter tariff }] }
    settings :=
      { s.settings with
        lastSegment := (s.newSegment renter tariff).number, lastSerial := (s.newSegment renter tariff).serial } }

theorem State.openIn_eq (s : State) (k : Fin 24) (renter : List Byte) (tariff : Byte) :
    s.openIn k renter tariff =
      .durable (((s.segmentOpened k renter tariff).hand (.slot k)).hand .settings) [.slot k, .settings]
        (bytes16 (s.newSegment renter tariff).number) := rfl

theorem State.segmentOpened_changesOnly (s : State) (k : Fin 24) (renter : List Byte) (tariff : Byte) :
    s.changesOnly (s.segmentOpened k renter tariff) [.log, .settings] := by
  intro p hp
  cases p <;> first | rfl | simp at hp

/-- The slot record and record 5 handed one after the other. -/
theorem State.hand_slot_settings {s : State} (d : s.defers) (k : Fin 24) :
    ((s.hand (.slot k)).hand .settings).store.state = .writing ∧
      ((s.hand (.slot k)).hand .settings).store.covered (.slot k) = true ∧
      ((s.hand (.slot k)).hand .settings).store.covered .settings = true ∧
      s.changesOnly ((s.hand (.slot k)).hand .settings) [.store, .engine] :=
  have second := State.hand_defers d (.slot k)
  ⟨State.hand_state second _,
    State.hand_covers_other (State.hand_state d _) RecordId.noConfusion (State.hand_covers d _),
    State.hand_covers second _,
    State.changesOnly_trans (State.hand_changesOnly_of_other d fun _ => RecordId.noConfusion)
      (State.hand_changesOnly_of_other second fun _ => RecordId.noConfusion)⟩

/-- An OPEN RENTAL that its owning block answers by an opening, from a state x with the log as a reclaiming left it. -/
theorem exec_openIn {s x : State} {renter : List Byte} {tariff : Byte} {ops : List Byte} {k : Fin 24}
    (parsed : parseRequest (0x10#8).toNat ops = some (.openRental renter tariff)) (hears : s.hears 3)
    (resting : s.atRest = true) (d : s.defers) (time : x.time = s.restartLinger.time)
    (left : s.changesOnly x [.time, .log, .alerts]) (fewer : x.log.entries.Sublist s.log.entries)
    (handled : s.restartLinger.handleOpenRental renter tariff = x.openIn k renter tariff) :
    ∃ t, exec (.openRental 3 ops) s = .next t ∧ s.opensIn t renter tariff x.log.entries k := by
  have rest : ((Request.openRental renter tariff).needsRest && !s.atRest) = false := by rw [resting]; rfl
  have opened := x.segmentOpened_changesOnly k renter tariff
  have defers : (x.segmentOpened k renter tariff).defers := by
    unfold State.defers
    rw [opened .store (by decide), left .store (by decide)]
    exact d
  obtain ⟨writing, slotCovered, settingsCovered, handed⟩ := State.hand_slot_settings defers k
  obtain ⟨t, run, waits, engine⟩ := exec_permitted_deferred (c := .openRental 3 ops) (q := .openRental renter tariff)
    rfl parsed hears rfl rest (handled.trans (x.openIn_eq k renter tariff)) writing
  have store : t.store = _ := engine .store (by decide)
  have changed : (x.segmentOpened k renter tariff).changesOnly t [.store, .engine] :=
    State.changesOnly_then handed engine (by decide) (by decide)
  have settings : x.settings = s.settings := left .settings (by decide)
  have log : t.log.entries = x.log.entries ++ [{ slot := k, seg := x.newSegment renter tariff }] := by
    rw [changed .log (by decide)]
    rfl
  have free (own : s.slotsDistinct) : ∀ e ∈ x.log.entries, e.seg.number ≠ (x.newSegment renter tariff).number := by
    have few : x.log.entries.length < 25 :=
      Nat.lt_succ_of_le (fewer.length_le.trans (segmentLogStaysSound.2.2 s own))
    exact fun e m same => freeNumber_free x.settings.lastSegment few (by decide) ⟨e, m, same⟩
  refine ⟨t, run, x.newSegment renter tariff, log, rfl, rfl, rfl, ?_, rfl,
    (freeNumber_range _ 24 _).1, (freeNumber_range _ 24 _).2, free, ?_, ?_, ?_, ?_, ?_, ?_, waits, ?_⟩
  · exact (congrArg TimeBase.deviceTime time).trans rfl
  · show min (x.settings.lastSerial + 1) counterMax = _
    rw [settings]
  · exact congrArg (fun a : AccountTable => Tracked.current a.accounts) (left .accounts (by decide))
  · exact congrArg
      (fun y : TimeBase => { SegmentFlags.empty with timebaseDegraded := y.selection == Selection.internalRc }) time
  · rw [changed .settings (by decide), ← settings]
    rfl
  · rw [store]
    exact slotCovered
  · rw [store]
    exact settingsCovered
  · exact State.changesOnly_then left
      (State.changesOnly_then (rs := [.log, .settings, .store, .engine]) opened changed (by decide) (by decide))
      (by decide) (by decide)

theorem State.reclaim_changesOnly (s : State) (e : LogEntry) : s.changesOnly (s.reclaim e) [.log, .alerts] := by
  have filtered (l : SegmentLog) : s.changesOnly { s with log := l } [.log] := by
    intro p hp
    cases p <;> first | rfl | simp at hp
  exact State.changesOnly_ite
    (State.changesOnly_then (filtered _) (State.reportGood_changesOnly _ _) (by decide) (by decide))
    (State.changesOnly_mono (filtered _) (by decide))

theorem State.handleOpenRental_opened {s : State} {e : LogEntry} (renter : List Byte) (tariff : Byte)
    (opened : s.log.openEntry = some e) : s.handleOpenRental renter tariff = .refusal s .stateRefused := by
  unfold State.handleOpenRental
  rw [opened]

theorem State.handleOpenRental_unused {s : State} {k : Fin 24} (renter : List Byte) (tariff : Byte)
    (closed : s.log.openEntry = none) (unused : s.log.freeSlot = some k) :
    s.handleOpenRental renter tariff = s.openIn k renter tariff := by
  unfold State.handleOpenRental
  rw [closed, unused]

theorem State.handleOpenRental_reclaims {s : State} {e : LogEntry} (renter : List Byte) (tariff : Byte)
    (closed : s.log.openEntry = none) (used : s.log.freeSlot = none) (old : s.log.reclaimable = some e) :
    s.handleOpenRental renter tariff = (s.reclaim e).openIn e.slot renter tariff := by
  unfold State.handleOpenRental
  rw [closed, used, old]

theorem State.handleOpenRental_full {s : State} (renter : List Byte) (tariff : Byte)
    (closed : s.log.openEntry = none) (used : s.log.freeSlot = none) (kept : s.log.reclaimable = none) :
    s.handleOpenRental renter tariff = .refusal s .logFull := by
  unfold State.handleOpenRental
  rw [closed, used, kept]

/-- Settles O31: by the OPEN segment, the unused slot and the segment to reclaim, in the order of R116. -/
theorem openRentalOpensSegment : Obligations.OpenRentalOpensSegment := by
  intro s r0 r1 r2 r3 r4 r5 tariff hears resting d room
  have refused {o : ReqOutcome}
      (h : s.restartLinger.handleOpenRental [r0, r1, r2, r3, r4, r5] tariff = .refusal s.restartLinger o) :
      exec (.openRental 3 [r0, r1, r2, r3, r4, r5, tariff]) s = .next (s.responded 3 0x10#8 o []) :=
    exec_refused (q := .openRental [r0, r1, r2, r3, r4, r5] tariff) rfl rfl hears resting room h
  cases closed : s.log.openEntry with
  | some e => exact ⟨_, refused (State.handleOpenRental_opened _ _ closed), rfl⟩
  | none =>
    cases used : s.log.freeSlot with
    | some k =>
      exact exec_openIn (x := s.restartLinger) (ops := [r0, r1, r2, r3, r4, r5, tariff]) rfl hears resting d rfl
        (State.changesOnly_mono s.restartLinger_changesOnly (by decide)) (List.Sublist.refl _)
        (State.handleOpenRental_unused _ _ closed used)
    | none =>
      cases old : s.log.reclaimable with
      | some e =>
        have reclaimed := s.restartLinger.reclaim_changesOnly e
        have entries : (s.restartLinger.reclaim e).log.entries = s.log.entries.filter fun x => x.slot != e.slot := by
          rw [State.reclaim_log]
          rfl
        have opens := exec_openIn (x := s.restartLinger.reclaim e) (k := e.slot)
          (ops := [r0, r1, r2, r3, r4, r5, tariff]) rfl hears resting d (reclaimed .time (by decide))
          (State.changesOnly_then s.restartLinger_changesOnly reclaimed (by decide) (by decide))
          (entries ▸ List.filter_sublist) (State.handleOpenRental_reclaims _ _ closed used old)
        rw [entries] at opens
        exact opens
      | none => exact ⟨_, refused (State.handleOpenRental_full _ _ closed used old), rfl⟩

end Sys2Proof.Machine
end

section
/-! PROOFS. The end of a load (O58): the segments found OPEN as the load leaves them, their records covered, and
POWER_GAP raised (R129 to R131, R183). -/

namespace Sys2Proof.Machine

/-! ## The log as loaded, entry by entry (R130, R131) -/

/-- The segment of slot k stands in the loaded log as its record is judged (R129). -/
theorem Store.mem_loadLog_judged {st : Store} {e : LogEntry} :
    e ∈ st.loadLog ↔
      match (st.stored (.slot e.slot)).judgeSlot e.slot with
      | .blank => False
      | .good g => e.seg = g
      | .bad => e.seg = Segment.damaged := by
  rw [Store.mem_loadLog]
  unfold Store.loadSlot
  cases (st.stored (.slot e.slot)).judgeSlot e.slot <;> simp [eq_comm]

/-- What becomes of an entry found OPEN, with the entries after it (R131). -/
def LogEntry.afterGap (current : Tracked) (e : LogEntry) (newer : List LogEntry) : LogEntry :=
  if e.seg.state = .opened then { e with seg := e.seg.afterGap current newer } else e

theorem gapEntries_getElem? (current : Tracked) (l : List LogEntry) (n : Nat) :
    (gapEntries current l)[n]? = (l[n]?).map fun e => e.afterGap current (l.drop (n + 1)) := by
  induction l generalizing n with
  | nil => rfl
  | cons e newer ih =>
    unfold gapEntries
    cases n with
    | zero => rfl
    | succ n => exact ih n

/-- Of the entries after place n one is OPEN. -/
theorem any_opened_drop (l : List LogEntry) (n : Nat) :
    ((l.drop (n + 1)).any fun e => e.seg.state == .opened) = true ↔
      ¬∀ (m : Nat) (x : LogEntry), n < m → l[m]? = some x → x.seg.state ≠ .opened := by
  rw [List.any_eq_true]
  constructor
  · rintro ⟨x, found, opened⟩ none_
    obtain ⟨i, at_⟩ := List.mem_iff_getElem?.mp found
    rw [List.getElem?_drop] at at_
    exact none_ _ x (by omega) at_ (by simpa using opened)
  · intro some_
    push Not at some_
    obtain ⟨m, x, later, at_, opened⟩ := some_
    refine ⟨x, List.mem_iff_getElem?.mpr ⟨m - (n + 1), ?_⟩, by simpa using opened⟩
    rw [List.getElem?_drop, show n + 1 + (m - (n + 1)) = m by omega]
    exact at_

/-- Each value lowered by itself (R131). -/
theorem Tracked.lowered_figures (snapshot current : Tracked) (i : AccountIx) :
    (snapshot.lowered current).figures[i].active = min snapshot.figures[i].active current.figures[i].active ∧
      (snapshot.lowered current).figures[i].wear = min snapshot.figures[i].wear current.figures[i].wear ∧
      (snapshot.lowered current).figures[i].events =
        match snapshot.figures[i].events, current.figures[i].events with
        | some u, some v => some (min u v)
        | _, _ => none := by
  fin_cases i <;> exact ⟨rfl, rfl, rfl⟩

/-! ## The flag of the OPEN segment (R126, R183) -/

/-- An OPEN segment with its flags changed. -/
def LogEntry.flagged (f : SegmentFlags → SegmentFlags) (e : LogEntry) : LogEntry :=
  if e.seg.state = .opened then { e with seg := { e.seg with flags := f e.seg.flags } } else e

theorem LogEntry.flagged_of_same {f : SegmentFlags → SegmentFlags} {e : LogEntry}
    (same : e.seg.state = .opened → f e.seg.flags = e.seg.flags) : e.flagged f = e := by
  unfold LogEntry.flagged
  split
  · next opened => rw [same opened]
  · rfl

/-- Flags that stand on every OPEN segment leave the entries. -/
theorem LogEntry.map_flagged_of_same {f : SegmentFlags → SegmentFlags} {l : List LogEntry}
    (same : ∀ e ∈ l, e.seg.state = .opened → f e.seg.flags = e.seg.flags) : l.map (LogEntry.flagged f) = l :=
  (List.map_congr_left (g := id) fun e m => LogEntry.flagged_of_same (same e m)).trans (List.map_id l)

theorem eq_of_length_le_one {α : Type} {l : List α} (short : l.length ≤ 1) {a b : α} (ma : a ∈ l) (mb : b ∈ l) :
    a = b := by
  match l with
  | [] => cases ma
  | [x] => rw [List.mem_singleton.mp ma, List.mem_singleton.mp mb]
  | x :: y :: rest => simp at short

theorem State.opened_unique {s : State} (one : s.oneOpen) {d e : LogEntry} (md : d ∈ s.log.entries)
    (me : e ∈ s.log.entries) (opened : d.seg.state = .opened) (also : e.seg.state = .opened) : d = e := by
  have inD : d ∈ s.log.entries.filter fun x => x.seg.state == .opened := List.mem_filter.mpr ⟨md, by simp [opened]⟩
  have inE : e ∈ s.log.entries.filter fun x => x.seg.state == .opened := List.mem_filter.mpr ⟨me, by simp [also]⟩
  unfold State.oneOpen at one
  rw [List.countP_eq_length_filter] at one
  exact eq_of_length_le_one one inD inE

/-- In a sound log the flags change on the OPEN segment and nowhere else. -/
theorem State.flagOpen_entries {s : State} (one : s.oneOpen) (own : s.slotsDistinct)
    (f : SegmentFlags → SegmentFlags) : (s.flagOpen f).log.entries = s.log.entries.map (LogEntry.flagged f) := by
  have stands (same : ∀ x ∈ s.log.entries, x.seg.state = .opened → f x.seg.flags = x.seg.flags) :
      s.log.entries = s.log.entries.map (LogEntry.flagged f) := (LogEntry.map_flagged_of_same same).symm
  unfold State.flagOpen
  split
  · next closed => exact stands fun x m opened => absurd opened (SegmentLog.not_opened_of_openEntry closed x m)
  · next d opened =>
    have open_ : d.seg.state = .opened := by simpa using List.find?_some opened
    have unique {x : LogEntry} (m : x ∈ s.log.entries) (also : x.seg.state = .opened) : x = d :=
      State.opened_unique one m (SegmentLog.openEntry_mem opened) also open_
    split
    · next same => exact stands fun x m also => unique m also ▸ same
    · refine List.map_congr_left fun x m => ?_
      unfold LogEntry.flagged
      refine if_congr ?_ rfl rfl
      rw [beq_iff_eq]
      exact ⟨State.opened_of_slot own opened m, fun also => by rw [unique m also]⟩

/-- TIMEBASE_DEGRADED where a selection is taken for degraded (R183). -/
def SegmentFlags.degradedIf (degraded : Bool) (f : SegmentFlags) : SegmentFlags :=
  { f with timebaseDegraded := f.timebaseDegraded || degraded }

/-- On the internal RC with TIMEBASE held false the OPEN segment is flagged (R183). -/
theorem State.settleTimebase_entries {s : State} (one : s.oneOpen) (own : s.slotsDistinct) :
    s.settleTimebase.log.entries =
      s.log.entries.map
        (LogEntry.flagged (SegmentFlags.degradedIf (s.time.selection == .internalRc && !s.time.timebaseHeld))) := by
  have stands : s.log.entries = s.log.entries.map (LogEntry.flagged (SegmentFlags.degradedIf false)) :=
    (LogEntry.map_flagged_of_same fun e _ _ => by simp [SegmentFlags.degradedIf]).symm
  have reported (v : Bool) : (s.reportTimebase v).log = s.log := s.reportTimebase_log v
  unfold State.settleTimebase
  cases selection : s.time.selection <;> cases held : s.time.timebaseHeld
  case internalRc.false =>
    have set : (fun f : SegmentFlags => { f with timebaseDegraded := true }) = SegmentFlags.degradedIf true := by
      funext f
      simp [SegmentFlags.degradedIf]
    dsimp only
    unfold State.timebaseBad
    rw [State.flagOpen_entries (by unfold State.oneOpen; rw [reported]; exact one)
      (by unfold State.slotsDistinct; rw [reported]; exact own), reported, set]
    rfl
  case crystal.true =>
    dsimp only
    rw [reported]
    exact stands
  all_goals exact stands

/-! ## The log a load leaves -/

theorem State.loadSegments_changesOnly (s : State) :
    s.changesOnly s.loadSegments [.log, .settings, .store, .accounts, .alerts, .port, .engine] := by
  rw [State.loadSegments_eq]
  exact State.changesOnly_then (rs := [.log, .settings, .store, .accounts, .alerts, .port, .engine])
    (State.changesOnly_then (rs := [.log, .settings, .store, .accounts, .alerts, .port, .engine])
      s.countersSettled_changesOnly (State.handleOpen_changesOnly _) (by decide) (by decide))
    (State.evalNearFull_changesOnly _) (by decide) (by decide)

/-- The flags of R183 for the time base a load finds. -/
def TimeBase.degrades (t : TimeBase) : SegmentFlags → SegmentFlags :=
  SegmentFlags.degradedIf (t.selection == .internalRc && !t.timebaseHeld)

theorem State.finishLoad_entries (s : State) (k : LoadKind) :
    (s.finishLoad k).log.entries = s.store.gapLog.map (LogEntry.flagged s.time.degrades) := by
  obtain ⟨one, own⟩ := s.recordsFormed_sound k
  have time : (s.recordsFormed k).loadSegments.time = (s.startLoad k).time :=
    (State.loadSegments_changesOnly _ .time (by decide)).trans (s.recordsFormed_changesOnly k .time (by decide))
  rw [State.finishLoad_log, State.formAll_eq, State.settleTimebase_entries one own, State.recordsFormed_segments, time]
  rfl

theorem State.finishLoad_getElem? (s : State) (k : LoadKind) (n : Nat) :
    (s.finishLoad k).log.entries[n]? =
      (s.store.loadLog[n]?).map fun e =>
        (e.afterGap s.store.loadedValues (s.store.loadLog.drop (n + 1))).flagged s.time.degrades := by
  rw [State.finishLoad_entries, List.getElem?_map, Store.gapLog, gapEntries_getElem?, Option.map_map]
  rfl

/-- A segment that is not OPEN stands as loaded. -/
theorem LogEntry.handled_other {current : Tracked} {f : SegmentFlags → SegmentFlags} {e : LogEntry}
    {newer : List LogEntry} (h : e.seg.state ≠ .opened) : (e.afterGap current newer).flagged f = e := by
  unfold LogEntry.afterGap LogEntry.flagged
  rw [if_neg h, if_neg h]

/-- An OPEN segment with a newer one is closed with every delta 0 (R131). -/
theorem LogEntry.handled_older {current : Tracked} {f : SegmentFlags → SegmentFlags} {e : LogEntry}
    {newer : List LogEntry} (h : e.seg.state = .opened) (later : (newer.any fun x => x.seg.state == .opened) = true) :
    (e.afterGap current newer).flagged f =
      { e with
        seg :=
          { e.seg with
            state := .closed
            closeTime := newer.head?.map fun x => x.seg.openTime
            tracked := Tracked.zero
            flags := { e.seg.flags with powerGap := true } } } := by
  unfold LogEntry.afterGap Segment.afterGap
  rw [if_pos h, if_pos later]
  exact if_neg SegmentState.noConfusion

/-- The newest OPEN segment stays OPEN, its snapshot lowered (R131). -/
theorem LogEntry.handled_newest {current : Tracked} {f : SegmentFlags → SegmentFlags} {e : LogEntry}
    {newer : List LogEntry} (h : e.seg.state = .opened) (last : ¬(newer.any fun x => x.seg.state == .opened) = true) :
    (e.afterGap current newer).flagged f =
      { e with
        seg := { e.seg with tracked := e.seg.tracked.lowered current, flags := f e.seg.flags.gapped } } := by
  unfold LogEntry.afterGap Segment.afterGap
  rw [if_pos h, if_neg last]
  exact if_pos h

/-! ## POWER_GAP and the queue through the handling of the OPEN segments (R131) -/

/-- A LOADING store marks what it is handed and appends it. -/
theorem State.hand_loading {s : State} {kind : LoadKind} (loading : s.store.state = .loading kind) (r : RecordId) :
    s.hand r = { s.markRecord r with store := (s.store.mark r).append r } := by
  have appended : ((s.store.mark r).append r).state = .loading kind := by
    unfold Store.append
    split <;> exact loading
  unfold State.hand
  simp only [State.markRecord, Store.mark_state, loading]
  unfold State.startIfReady
  simp only [appended]

/-- What is marked and appended is queued: the write in flight, if it is of the record, no longer covers it. -/
theorem Store.mem_append_mark (st : Store) (r : RecordId) : r ∈ ((st.mark r).append r).queue := by
  have stale : (st.mark r).inFlightCovers r = false := by
    unfold Store.inFlightCovers Store.mark
    cases st.inFlight with
    | none => rfl
    | some w => cases same : w.record == r <;> simp [same]
  unfold Store.append Store.covered
  rw [stale, Bool.or_false]
  split
  · next queued => exact List.contains_iff_mem.mp queued
  · exact List.mem_append_right _ (List.mem_singleton_self r)

theorem Store.mem_append_queue {st : Store} (r : RecordId) {q : RecordId} (queued : q ∈ st.queue) :
    q ∈ (st.append r).queue := by
  unfold Store.append
  split
  · exact queued
  · exact List.mem_append_left _ queued

/-- Of these entries the records are queued, and POWER_GAP stands if there is one. -/
structure State.gapsRaised (s : State) (found : List LogEntry) : Prop where
  entry : found ≠ [] → (s.alerts.entry (devicePair .powerGap)).isSome = true
  queued : ∀ e ∈ found, RecordId.slot e.slot ∈ s.store.queue

/-- One entry more. -/
theorem State.raiseGap_gapsRaised {s : State} {kind : LoadKind} (loading : s.store.state = .loading kind)
    {found : List LogEntry} (raised : s.gapsRaised found) (e : LogEntry) :
    (s.raiseGap e).store.state = .loading kind ∧ (s.raiseGap e).gapsRaised (found ++ [e]) := by
  have handed : s.raiseGap e =
      { (s.raiseEvent (devicePair .powerGap) (some (byteOf e.seg.number))).markRecord (.slot e.slot) with
        store := (s.store.mark (.slot e.slot)).append (.slot e.slot) } :=
    State.hand_loading (s := s.raiseEvent (devicePair .powerGap) (some (byteOf e.seg.number))) loading (.slot e.slot)
  rw [handed]
  refine ⟨?_, fun _ => ?_, fun x m => ?_⟩
  · show ((s.store.mark (.slot e.slot)).append (.slot e.slot)).state = _
    unfold Store.append
    split <;> exact loading
  · obtain ⟨entry, stands, -⟩ :=
      s.alerts.entry_raise_same (devicePair .powerGap) (some (byteOf e.seg.number)) s.time.deviceTime
    exact Option.isSome_iff_exists.mpr ⟨entry, stands⟩
  · rcases List.mem_append.mp m with before | last
    · exact Store.mem_append_queue _ (raised.queued x before)
    · rw [List.mem_singleton.mp last]
      exact s.store.mem_append_mark _

theorem State.foldl_raiseGap_gapsRaised {kind : LoadKind} (l : List LogEntry) {s : State}
    (loading : s.store.state = .loading kind) {found : List LogEntry} (raised : s.gapsRaised found) :
    (l.foldl State.raiseGap s).gapsRaised (found ++ l) := by
  induction l generalizing s found with
  | nil =>
    rw [List.append_nil]
    exact raised
  | cons e l ih =>
    obtain ⟨still, one⟩ := State.raiseGap_gapsRaised loading raised e
    rw [List.append_cons]
    exact ih still one

theorem State.gapsRaised_of_same {s t : State} {found : List LogEntry} (raised : s.gapsRaised found)
    (entry : t.alerts.entry (devicePair .powerGap) = s.alerts.entry (devicePair .powerGap))
    (queue : t.store.queue = s.store.queue) : t.gapsRaised found :=
  ⟨fun some_ => entry ▸ raised.entry some_, fun e m => queue ▸ raised.queued e m⟩

theorem State.handleOpen_gapsRaised {s : State} {kind : LoadKind} (loading : s.store.state = .loading kind) :
    s.handleOpen.gapsRaised (s.log.entries.filter fun e => e.seg.state == .opened) :=
  State.foldl_raiseGap_gapsRaised (found := []) _ (s := { s with
      log := { s.log with entries := gapEntries (Tracked.current s.accounts.accounts) s.log.entries } }) loading
    ⟨fun none_ => absurd rfl none_, fun _ m => absurd m List.not_mem_nil⟩

theorem State.evalNearFull_gapsRaised {s : State} {found : List LogEntry} (raised : s.gapsRaised found) :
    s.evalNearFull.gapsRaised found := by
  refine State.gapsRaised_of_same raised ?_ (congrArg Store.queue (s.evalNearFull_changesOnly .store (by decide)))
  unfold State.evalNearFull
  dsimp only
  split
  · rfl
  · exact State.entry_report_other _ _ _ (by simp [devicePair])

theorem State.reportTimebase_entry (s : State) (v : Bool) :
    (s.reportTimebase v).alerts.entry (devicePair .powerGap) = s.alerts.entry (devicePair .powerGap) := by
  unfold State.reportTimebase
  split
  · rfl
  · exact State.entry_report_other _ _ _ (by simp [devicePair])

theorem State.settleTimebase_gapsRaised {s : State} {found : List LogEntry} (raised : s.gapsRaised found) :
    s.settleTimebase.gapsRaised found := by
  refine State.gapsRaised_of_same raised ?_ s.settleTimebase_onlyMarks.queue
  unfold State.settleTimebase
  split
  · unfold State.timebaseBad
    rw [State.flagOpen_changesOnly _ _ .alerts (by decide), State.reportTimebase_entry]
  · exact s.reportTimebase_entry false
  all_goals rfl

/-- What is found OPEN in the loaded log is raised and queued when the state is formed. -/
theorem State.formAll_gapsRaised {s : State} {k : LoadKind} (loading : s.store.state = .loading k) :
    (s.formAll k).gapsRaised (s.store.loadLog.filter fun e => e.seg.state == .opened) := by
  have formed : (s.recordsFormed k).store.state = .loading k :=
    (congrArg Store.state (s.recordsFormed_store k)).trans loading
  have log : (s.recordsFormed k).store.formedLog = s.store.formedLog := Store.formedLog_congr (s.recordsFormed_array k)
  have settled : (s.recordsFormed k).countersSettled.store.state = .loading k := by
    unfold State.countersSettled
    rw [(State.settleCounters_loadStep _).state,
      State.changesOnly_foldl State.reportDamaged_changesOnly _ _ .store (by decide)]
    exact formed
  have handled := State.handleOpen_gapsRaised settled
  rw [State.countersSettled_log, log] at handled
  rw [State.formAll_eq, State.loadSegments_eq]
  exact State.settleTimebase_gapsRaised (State.evalNearFull_gapsRaised handled)

/-! ## POWER_GAP and the covered slot records through the start of the blocks -/

/-- From s to t the POWER_GAP entry stands, and slot records covered stay covered. -/
structure State.keepsGaps (s t : State) : Prop where
  entry : t.alerts.entry (devicePair .powerGap) = s.alerts.entry (devicePair .powerGap)
  covered : ∀ k, s.store.covered (.slot k) = true → t.store.covered (.slot k) = true

theorem State.keepsGaps_of_same {s t : State} (alerts : t.alerts = s.alerts) (store : t.store = s.store) :
    s.keepsGaps t :=
  ⟨by rw [alerts], fun k => by rw [store]; exact id⟩

theorem State.keepsGaps_refl (s : State) : s.keepsGaps s := State.keepsGaps_of_same rfl rfl

/-- Two operations in succession, the later one given first. -/
theorem State.keepsGaps_after {s t u : State} (k : t.keepsGaps u) (h : s.keepsGaps t) : s.keepsGaps u :=
  ⟨k.entry.trans h.entry, fun j c => k.covered j (h.covered j c)⟩

theorem State.keepsGaps_ite {s t u : State} {c : Prop} [Decidable c] (h : s.keepsGaps t) (k : s.keepsGaps u) :
    s.keepsGaps (if c then t else u) := by
  split
  · exact h
  · exact k

theorem State.changeAccount_keepsGaps (s : State) (i : AccountIx) (f : Account → Account) :
    s.keepsGaps (s.changeAccount i f) := by
  refine State.keepsGaps_ite s.keepsGaps_refl ⟨rfl, fun k covered => ?_⟩
  exact (s.store.covered_mark_other RecordId.noConfusion).trans covered

theorem State.evalThresholds_keepsGaps (s : State) (i : AccountIx) : s.keepsGaps (s.evalThresholds i) := by
  have due : s.keepsGaps (s.evalServiceDue i) :=
    State.keepsGaps_ite s.keepsGaps_refl
      ⟨State.entry_report_other _ _ _ (by simp [devicePair, accountPair]), fun _ => id⟩
  have life (x : State) : x.keepsGaps (x.evalLifeLimit i) :=
    State.keepsGaps_ite x.keepsGaps_refl
      ⟨State.entry_report_other _ _ _ (by simp [devicePair, accountPair]), fun _ => id⟩
  exact State.keepsGaps_after (life _) due

theorem State.credit_keepsGaps (s : State) (i : AccountIx) (n : Nat) : s.keepsGaps (s.credit i n) :=
  State.keepsGaps_after (State.keepsGaps_ite (State.keepsGaps_refl _) (State.evalThresholds_keepsGaps _ i))
    (s.changeAccount_keepsGaps i _)

theorem State.credits_keepsGaps (s : State) (i : AccountIx) (numerator n : Nat) :
    s.keepsGaps (s.credits i numerator n) := by
  induction n generalizing s with
  | zero => exact s.keepsGaps_refl
  | succ n ih => exact State.keepsGaps_after (ih _) (s.credit_keepsGaps i numerator)

theorem State.postStarter_keepsGaps (s : State) (cold : Bool) : s.keepsGaps (s.postStarter cold) :=
  State.keepsGaps_after (State.credits_keepsGaps _ 1 _ 1) (s.changeAccount_keepsGaps 1 _)

theorem State.crankTrigger_keepsGaps (s : State) : s.keepsGaps s.crankTrigger := by
  have set (x : State) (q : QualifierState) : x.keepsGaps (x.setQualifier q) := State.keepsGaps_of_same rfl rfl
  unfold State.crankTrigger
  split
  · exact State.keepsGaps_after (set _ _) (s.postStarter_keepsGaps _)
  · exact State.keepsGaps_after (set _ _) (s.postStarter_keepsGaps _)
  · exact State.keepsGaps_after (set _ _) (s.postStarter_keepsGaps _)
  · exact State.keepsGaps_after (State.changeAccount_keepsGaps _ 1 _) (s.postStarter_keepsGaps _)

theorem State.reformCrank_keepsGaps (s : State) : s.keepsGaps s.reformCrank := by
  have latched : s.keepsGaps s.reformLatch :=
    State.keepsGaps_of_same (s.reformLatch_changesOnly .alerts (by decide))
      (s.reformLatch_changesOnly .store (by decide))
  exact State.keepsGaps_ite (State.keepsGaps_after (State.crankTrigger_keepsGaps _) latched) latched

/-- A standing PFW waits for a write in flight (R161). -/
theorem State.startUp_keepsGaps {s : State} (writing : s.store.state = .writing) : s.keepsGaps s.startUp := by
  refine State.keepsGaps_ite ?_ (State.keepsGaps_of_same rfl rfl)
  unfold State.takePfw
  dsimp only
  rw [writing]
  exact ⟨rfl, fun _ => id⟩

/-- A READY store with something queued begins a write and covers all of it. -/
theorem State.startIfReady_queued {s : State} (ready : s.store.state = .ready) {r : RecordId}
    (queued : r ∈ s.store.queue) :
    s.startIfReady.store.state = .writing ∧
      ∀ q, q ∈ s.store.queue → s.startIfReady.store.covered q = true := by
  have begun : s.startIfReady = s.nextWrite := by
    unfold State.startIfReady
    rw [ready]
  rw [begun]
  refine ⟨?_, fun q => s.nextWrite_covers q⟩
  unfold State.nextWrite
  split
  · next empty =>
    rw [empty] at queued
    cases queued
  · rw [State.startWrite_state]

/-- After the load POWER_GAP stands for a segment found OPEN, and its record is covered. -/
theorem State.finishLoad_gap {s : State} {k : LoadKind} (loading : s.store.state = .loading k) {e : LogEntry}
    (found : e ∈ s.store.loadLog) (opened : e.seg.state = .opened) :
    ((s.finishLoad k).alerts.entry (devicePair .powerGap)).isSome = true ∧
      (s.finishLoad k).store.covered (.slot e.slot) = true := by
  have raised := State.formAll_gapsRaised loading
  have m : e ∈ s.store.loadLog.filter fun e => e.seg.state == .opened := List.mem_filter.mpr ⟨found, by simp [opened]⟩
  have stands := raised.entry (List.ne_nil_of_mem m)
  have queued := raised.queued e m
  rw [State.finishLoad_eq]
  generalize s.formAll k = f at stands queued ⊢
  have kept : f.readied.startIfReady.alerts = f.alerts := f.readied.startIfReady_changesOnly .alerts (by decide)
  obtain ⟨writing, covers⟩ := State.startIfReady_queued (s := f.readied) rfl (r := .slot e.slot) queued
  have covered := covers _ queued
  generalize f.readied.startIfReady = w at kept writing covered ⊢
  have started := State.keepsGaps_after
    (State.startUp_keepsGaps (w.reformCrank_onlyMarks.state.trans writing)) w.reformCrank_keepsGaps
  exact ⟨by rw [started.entry, kept]; exact stands, started.covered _ covered⟩

/-! ## The whole -/

/-- Settles O58: each entry of the loaded log as the handling leaves it. -/
theorem loadHandlesOpenSegments : Obligations.LoadHandlesOpenSegments := by
  intro s kind loading outside asLoaded current l newestOpen
  have values : s.store.loadedValues = current := rfl
  have run : exec .loadEnd s = .next (s.finishLoad kind) := by
    show execLoadEnd s = _
    unfold execLoadEnd
    rw [loading, outside]
  refine ⟨fun e => ?_, s.store.loadLog_ordered.1, s.finishLoad kind, run, ?_, fun n e f before after => ?_⟩
  · refine Store.mem_loadLog_judged.trans ?_
    cases (s.store.stored (.slot e.slot)).judgeSlot e.slot <;> exact Iff.rfl
  · have slots := congrArg List.length (gapEntries_slots s.store.loadedValues s.store.loadLog)
    rw [List.length_map, List.length_map] at slots
    rw [State.finishLoad_entries, List.length_map]
    exact slots
  · have handled : f = (e.afterGap current (l.drop (n + 1))).flagged s.time.degrades := by
      have at_ := s.finishLoad_getElem? kind n
      rw [after, show s.store.loadLog[n]? = some e from before, values] at at_
      exact Option.some.inj at_
    have newest : newestOpen n ↔ ¬((l.drop (n + 1)).any fun x => x.seg.state == .opened) = true := by
      rw [any_opened_drop, not_not]
    refine ⟨fun other => handled.trans (LogEntry.handled_other other),
      fun opened => State.finishLoad_gap loading (List.mem_of_getElem? before) opened, fun opened older => ?_,
      fun opened last => ?_⟩
    · rw [newest, not_not] at older
      rw [handled, LogEntry.handled_older opened older, List.head?_drop]
    · rw [newest] at last
      rw [LogEntry.handled_newest opened last] at handled
      subst handled
      exact ⟨rfl, rfl, rfl, rfl, fun i => e.seg.tracked.lowered_figures current i⟩

end Sys2Proof.Machine
end

section
/-! PROOFS. One alert entry per pair and no record queued twice (O9): one invariant, `distinct`, through the operations on
the Alert Unit and on the write queue, and through what is built on them. -/

namespace Sys2Proof.Machine

/-! ## The Alert Unit (R134 to R140) -/

/-- A change of entries that leaves each its pair leaves at most one per pair. -/
theorem AlertUnit.map_pairs_nodup (u : AlertUnit) {f : AlertEntry → AlertEntry} (same : ∀ e, (f e).pair = e.pair)
    (h : (u.entries.map AlertEntry.pair).Nodup) : ((u.entries.map f).map AlertEntry.pair).Nodup := by
  rw [List.map_map, show AlertEntry.pair ∘ f = AlertEntry.pair from funext same]
  exact h

theorem AlertUnit.recordSuspect_pairs_nodup (u : AlertUnit) (r : RecordId) (param : Byte) (now : Nat)
    (h : (u.entries.map AlertEntry.pair).Nodup) :
    ((u.recordSuspect r param now).1.entries.map AlertEntry.pair).Nodup := by
  unfold AlertUnit.recordSuspect
  split
  · exact h
  · split
    · exact AlertUnit.reportTrue_pairs_nodup _ _ _ _ h
    · exact AlertUnit.raise_pairs_nodup _ _ _ _ h

theorem AlertUnit.recordGood_pairs_nodup (u : AlertUnit) (r : RecordId) (h : (u.entries.map AlertEntry.pair).Nodup) :
    ((u.recordGood r).entries.map AlertEntry.pair).Nodup := by
  unfold AlertUnit.recordGood
  dsimp only
  split
  · split
    · exact AlertUnit.reportFalse_pairs_nodup _ _ h
    · exact h
  · exact h

/-- An acknowledgement changes the state of an entry or removes it (R140). -/
theorem AlertUnit.acknowledge_pairs_nodup (u : AlertUnit) (p : AlertPair) (e : AlertEntry)
    (h : (u.entries.map AlertEntry.pair).Nodup) : ((u.acknowledge p e).entries.map AlertEntry.pair).Nodup := by
  unfold AlertUnit.acknowledge
  split
  · exact h
  · split
    · refine u.map_pairs_nodup (fun e => ?_) h
      split <;> rfl
    · exact u.filter_pairs_nodup _ h

/-! ## The invariant -/

/-- One entry per pair wherever p, and no record queued twice wherever q (R134, R155). The two conditions let one walk
through the operations serve both facts, each without the other. -/
structure State.distinct (s : State) (p q : Prop) : Prop where
  pairs : p → s.pairsDistinct
  queue : q → s.queueDistinct

section

variable {s t : State} {p q : Prop}

theorem State.distinct.of_same (h : s.distinct p q) (entries : t.alerts.entries = s.alerts.entries)
    (queue : t.store.queue = s.store.queue) : t.distinct p q where
  pairs x := by
    rw [State.pairsDistinct, entries]
    exact h.pairs x
  queue x := by
    rw [State.queueDistinct, queue]
    exact h.queue x

/-- An operation on other parts than the Alert Unit and the store. -/
theorem State.distinct.frame {ps : List Part} (h : s.distinct p q) (c : s.changesOnly t ps)
    (alerts : Part.alerts ∉ ps := by decide) (store : Part.store ∉ ps := by decide) : t.distinct p q :=
  h.of_same (congrArg AlertUnit.entries (c .alerts alerts)) (congrArg Store.queue (c .store store))

/-- An operation on other parts than the Alert Unit that only marks. -/
theorem State.distinct.marks {ps : List Part} (h : s.distinct p q) (m : s.onlyMarks t) (c : s.changesOnly t ps)
    (alerts : Part.alerts ∉ ps := by decide) : t.distinct p q :=
  h.of_same (congrArg AlertUnit.entries (c .alerts alerts)) m.queue

/-- An operation on other parts than the Alert Unit that leaves no record queued twice. -/
theorem State.distinct.queued {ps : List Part} (h : s.distinct p q) (c : s.changesOnly t ps)
    (nodup : s.store.queue.Nodup → t.store.queue.Nodup) (alerts : Part.alerts ∉ ps := by decide) :
    t.distinct p q where
  pairs x := by
    rw [State.pairsDistinct, show t.alerts = s.alerts from c .alerts alerts]
    exact h.pairs x
  queue x := nodup (h.queue x)

/-- An operation that empties the queue and leaves the alert entries. -/
theorem State.distinct.emptied (h : s.distinct p q) (entries : t.alerts.entries = s.alerts.entries)
    (none_ : t.store.queue = []) : t.distinct p q where
  pairs x := by
    rw [State.pairsDistinct, entries]
    exact h.pairs x
  queue _ := by simp [State.queueDistinct, none_]

theorem State.distinct_ite {c : Prop} [Decidable c] (h : s.distinct p q) (k : t.distinct p q) :
    (if c then s else t).distinct p q := by
  split
  · exact h
  · exact k

theorem State.distinct.foldl {α : Type} {f : State → α → State} (h : s.distinct p q)
    (step : ∀ (x : State) (a : α), x.distinct p q → (f x a).distinct p q) (l : List α) :
    (l.foldl f s).distinct p q := by
  induction l generalizing s with
  | nil => exact h
  | cons a l ih => exact ih (step s a h)

/-! ## What is told to the Alert Unit -/

theorem State.distinct.withAlerts {r : AlertUnit × Option AlertEntry} (h : s.distinct p q)
    (told : (s.alerts.entries.map AlertEntry.pair).Nodup → (r.1.entries.map AlertEntry.pair).Nodup) :
    (s.withAlerts r).distinct p q :=
  ⟨fun x => told (h.pairs x), h.queue⟩

theorem State.distinct.report {pair : AlertPair} {v : Bool} {param : Option Byte} (h : s.distinct p q) :
    (s.report pair v param).distinct p q :=
  ⟨fun x => s.report_pairsDistinct pair v param (h.pairs x), h.queue⟩

theorem State.distinct.raiseEvent {pair : AlertPair} {param : Option Byte} (h : s.distinct p q) :
    (s.raiseEvent pair param).distinct p q :=
  h.withAlerts (AlertUnit.raise_pairs_nodup _ _ _ _)

theorem State.distinct.reportSuspect {r : RecordId} (h : s.distinct p q) : (s.reportSuspect r).distinct p q :=
  h.withAlerts (AlertUnit.recordSuspect_pairs_nodup _ _ _ _)

theorem State.distinct.reportGood {r : RecordId} (h : s.distinct p q) : (s.reportGood r).distinct p q :=
  h.withAlerts (AlertUnit.recordGood_pairs_nodup _ _)

/-! ## What joins the write queue (R155, R156) -/

theorem State.distinct.startWrite {r : RecordId} (h : s.distinct p q) : (s.startWrite r).distinct p q :=
  h.queued (s.startWrite_changesOnly r) fun nodup => s.startWrite_queue r ▸ nodup

theorem State.distinct.nextWrite (h : s.distinct p q) : s.nextWrite.distinct p q :=
  h.queued s.nextWrite_changesOnly fun nodup => s.nextWrite_queue ▸ nodup.tail

theorem State.distinct.startIfReady (h : s.distinct p q) : s.startIfReady.distinct p q :=
  h.queued s.startIfReady_changesOnly s.startIfReady_queue_nodup

theorem State.distinct.hand {r : RecordId} (h : s.distinct p q) : (s.hand r).distinct p q :=
  h.queued (s.hand_changesOnly r) (s.hand_queue_nodup r)

theorem State.distinct.bulkEnqueue {rs : List RecordId} (h : s.distinct p q) (once : rs.Nodup) :
    (s.bulkEnqueue rs).distinct p q :=
  h.queued (s.bulkEnqueue_changesOnly rs) fun nodup => s.bulkEnqueue_queue_nodup rs nodup once

/-- A bulk enqueue of every record. -/
theorem State.distinct.enqueueAll (h : s.distinct p q) : (s.bulkEnqueue allRecords).distinct p q :=
  h.bulkEnqueue allRecords_nodup

/-! ## Accounts and the OPEN segment -/

theorem State.distinct.changeAccount {i : AccountIx} {g : Account → Account} (h : s.distinct p q) :
    (s.changeAccount i g).distinct p q :=
  h.marks (s.changeAccount_onlyMarks i g) (s.changeAccount_changesOnly i g)

theorem State.distinct.setAccount {i : AccountIx} {a : Account} (h : s.distinct p q) :
    (s.setAccount i a).distinct p q :=
  h.frame (s.setAccount_changesOnly i a)

theorem State.distinct.evalThresholds {i : AccountIx} (h : s.distinct p q) : (s.evalThresholds i).distinct p q := by
  have due : (s.evalServiceDue i).distinct p q :=
    State.distinct_ite h (State.distinct.report (h.of_same rfl rfl))
  exact State.distinct_ite due (State.distinct.report (due.of_same rfl rfl))

theorem State.distinct.evalCarried {i : AccountIx} {k : Nat} (h : s.distinct p q) : (s.evalCarried i k).distinct p q :=
  State.distinct_ite h h.evalThresholds

theorem State.distinct.credit {i : AccountIx} {k : Nat} (h : s.distinct p q) : (s.credit i k).distinct p q :=
  h.changeAccount.evalCarried

theorem State.distinct.credits {i : AccountIx} {m k : Nat} (h : s.distinct p q) : (s.credits i m k).distinct p q := by
  induction k generalizing s with
  | zero => exact h
  | succ k ih => exact ih h.credit

theorem State.distinct.postEvents {i : AccountIx} {k m : Nat} (h : s.distinct p q) :
    (s.postEvents i k m).distinct p q :=
  h.changeAccount.credits

theorem State.distinct.evalNearFull (h : s.distinct p q) : s.evalNearFull.distinct p q :=
  State.distinct_ite h (State.distinct.report (h.of_same rfl rfl))

theorem State.distinct.flagOpen {g : SegmentFlags → SegmentFlags} (h : s.distinct p q) :
    (s.flagOpen g).distinct p q :=
  h.marks (s.flagOpen_onlyMarks g) (s.flagOpen_changesOnly g)

/-! ## The Start Qualifier (R93 to R109) -/

theorem State.distinct.setQualifier {x : QualifierState} (h : s.distinct p q) : (s.setQualifier x).distinct p q :=
  h.frame (s.setQualifier_changesOnly x)

theorem State.distinct.reformLatch (h : s.distinct p q) : s.reformLatch.distinct p q :=
  h.frame s.reformLatch_changesOnly

theorem State.distinct.crankTrigger (h : s.distinct p q) : s.crankTrigger.distinct p q := by
  have posted (cold : Bool) : (s.postStarter cold).distinct p q := h.postEvents
  unfold State.crankTrigger
  split
  · exact (posted _).setQualifier
  · exact (posted _).setQualifier
  · exact (posted _).setQualifier
  · exact (posted _).changeAccount

theorem State.distinct.reformCrank (h : s.distinct p q) : s.reformCrank.distinct p q :=
  State.distinct_ite h.reformLatch.crankTrigger h.reformLatch

theorem State.distinct.crankLine {asserted : Bool} (h : s.distinct p q) : (s.crankLine asserted).distinct p q := by
  have formed : (State.reformCrank { s with lines := { s.lines with crank := asserted } }).distinct p q :=
    State.distinct.reformCrank (h.of_same rfl rfl)
  exact State.distinct_ite formed.crankTrigger formed

/-- The end of an attempt may raise START_FAILURES (R104). -/
theorem State.distinct.endAttempt {a : Attempt} {o : AttemptOutcome} {x : QualifierState} (h : s.distinct p q) :
    (s.endAttempt a o x).distinct p q := by
  have entered : (s.attemptEntered a o x).distinct p q := h.of_same rfl rfl
  exact State.distinct_ite entered.raiseEvent entered

theorem State.distinct.speedUpdate (h : s.distinct p q) : s.speedUpdate.distinct p q := by
  unfold State.speedUpdate
  split
  · exact State.distinct_ite h.changeAccount.setQualifier h
  · exact h
  · exact State.distinct_ite h.setQualifier h
  · exact h
  · exact State.distinct_ite h.endAttempt h
  · exact h
  · exact State.distinct_ite h.setQualifier h.setQualifier
  · exact h.setQualifier

theorem State.distinct.speedLost (h : s.distinct p q) : s.speedLost.distinct p q := by
  unfold State.speedLost
  split
  · exact h.endAttempt
  · exact h.setQualifier
  all_goals exact h

theorem State.distinct.windowExpiry (h : s.distinct p q) : s.windowExpiry.distinct p q := by
  unfold State.windowExpiry
  split
  · exact h.endAttempt
  all_goals exact h

theorem State.distinct.confirmDone (h : s.distinct p q) : s.confirmDone.distinct p q := by
  have posted (a : Attempt) : (s.postQualified a).distinct p q :=
    State.distinct_ite h.postEvents.changeAccount h.postEvents
  unfold State.confirmDone
  split
  · exact State.distinct_ite (posted _).endAttempt h.endAttempt
  all_goals exact h

theorem State.distinct.stopDone (h : s.distinct p q) : s.stopDone.distinct p q := by
  unfold State.stopDone
  split
  · exact h.setQualifier
  all_goals exact h

theorem State.distinct.stopQualifier (h : s.distinct p q) : s.stopQualifier.distinct p q := by
  have ended : s.endForMode.distinct p q := by
    unfold State.endForMode
    split
    · exact h.endAttempt
    · exact h.endAttempt
    · exact h.setQualifier
    · exact h
  exact ended.of_same rfl rfl

theorem State.distinct.resumeQualifier (h : s.distinct p q) : s.resumeQualifier.distinct p q := by
  unfold State.resumeQualifier
  dsimp only
  split
  · exact h.reformCrank.setQualifier
  all_goals exact h.reformCrank

/-! ## Signal Intake -/

theorem State.distinct.setIntake {x : Intake} (h : s.distinct p q) : { s with intake := x }.distinct p q :=
  h.frame (s.setIntake_changesOnly x)

theorem State.distinct.passHeld {m : SignalName} (h : s.distinct p q) : (s.passHeld m).distinct p q := by
  unfold State.passHeld
  split
  · exact h.setIntake
  all_goals exact h

theorem State.distinct.passUnknown {m : SignalName} {age : Nat} (h : s.distinct p q) :
    (s.passUnknown m age).distinct p q := by
  have handed {x : State} (hx : x.distinct p q) : (x.handUnknown m).distinct p q := by
    cases m
    case engineSpeed => exact hx.speedLost
    case starterStatus => exact hx.reformCrank
    all_goals exact hx.of_same rfl rfl
  unfold State.passUnknown
  split
  · exact h
  all_goals exact handed h.setIntake

theorem State.distinct.reclassifyAll (h : s.distinct p q) : s.reclassifyAll.distinct p q :=
  h.foldl (f := State.reclassify)
    (fun _ _ hx => State.distinct_ite hx.passUnknown (State.distinct_ite hx.setIntake hx)) _

theorem State.distinct.intakeParked (h : s.distinct p q) : s.intakeParked.distinct p q := by
  have passed : (signalNames.foldl (fun x m => x.passUnknown m (x.intake.ageing m).age) s).distinct p q :=
    h.foldl (fun _ _ hx => hx.passUnknown) _
  exact State.distinct.setIntake passed

theorem State.distinct.postCounted {i : AccountIx} {k : Nat} (h : s.distinct p q) : (s.postCounted i k).distinct p q :=
  State.distinct_ite h h.postEvents

theorem State.distinct.decode {fmt : ObsFormat} {data : List Byte} (h : s.distinct p q) :
    (s.decode fmt data).distinct p q := by
  cases fmt with
  | engineState =>
    show (s.decodeEngine data).distinct p q
    unfold State.decodeEngine
    split
    · exact State.distinct_ite h.setIntake.reformCrank.speedUpdate h.setIntake
    · exact h
  | drivelineState =>
    show (s.decodeDriveline data).distinct p q
    unfold State.decodeDriveline
    split
    · exact h.setIntake
    · exact h
  | drivelineEvent =>
    show (s.decodeEvent data).distinct p q
    unfold State.decodeEvent
    split
    · exact h.setIntake.postCounted.postCounted
    · exact h

/-! ## The metering pass -/

theorem State.distinct.setMeter {m : Meter} (h : s.distinct p q) : { s with meter := m }.distinct p q :=
  h.of_same rfl rfl

theorem State.distinct.activateStaged (h : s.distinct p q) : s.activateStaged.distinct p q :=
  h.foldl (f := State.activateBand) (fun _ _ hx => State.distinct_ite (State.distinct.hand (hx.of_same rfl rfl)) hx) _

theorem State.distinct.clearUnobserved {i : AccountIx} (h : s.distinct p q) : (s.clearUnobserved i).distinct p q :=
  State.distinct_ite (State.distinct.report (h.of_same rfl rfl)) h

theorem State.distinct.noteWinner {i : AccountIx} {w : Option (Fin 16)} (h : s.distinct p q) :
    (s.noteWinner i w).distinct p q := by
  cases w with
  | none => exact h.setMeter
  | some k => exact State.distinct_ite h.setMeter.raiseEvent h.setMeter

theorem State.distinct.meterAccount {i : AccountIx} (h : s.distinct p q) : (s.meterAccount i).distinct p q := by
  have noted {x : State} (hx : x.distinct p q) : (x.noteUnobserved i).distinct p q :=
    State.distinct_ite hx (State.distinct.report (hx.of_same rfl rfl))
  have unobserved : (s.unobservedPeriod i).distinct p q := (noted h.changeAccount).flagOpen.evalCarried
  have active : (s.activePeriod i).distinct p q := h.clearUnobserved.noteWinner.changeAccount.credit
  unfold State.meterAccount
  split
  · exact active
  · exact h.clearUnobserved
  · exact State.distinct_ite unobserved h

theorem State.distinct.meteringPass (h : s.distinct p q) : s.meteringPass.distinct p q :=
  h.activateStaged.meterAccount.meterAccount.meterAccount.meterAccount.meterAccount.marks
    (State.revolutions_onlyMarks _) (State.revolutions_changesOnly _)

theorem State.distinct.reportObserved (h : s.distinct p q) : s.reportObserved.distinct p q :=
  h.foldl (fun _ _ hx => hx.report) _

theorem State.distinct.meterParked (h : s.distinct p q) : s.meterParked.distinct p q := by
  have cleared : ((List.finRange 5).foldl State.clearUnobserved s).distinct p q :=
    h.foldl (fun _ _ hx => hx.clearUnobserved) _
  exact State.distinct.setMeter cleared

/-! ## Modes and the time base -/

theorem State.distinct.restartLinger (h : s.distinct p q) : s.restartLinger.distinct p q :=
  h.frame s.restartLinger_changesOnly

theorem State.distinct.dropRequests (h : s.distinct p q) : s.dropRequests.distinct p q :=
  h.frame s.dropRequests_changesOnly

theorem State.distinct.enterParked (h : s.distinct p q) : s.enterParked.distinct p q := by
  have parked : { s with time := { s.time with mode := .parked } }.distinct p q := h.of_same rfl rfl
  exact parked.intakeParked.meterParked.stopQualifier.dropRequests

theorem State.distinct.enterDormant (h : s.distinct p q) : s.enterDormant.distinct p q :=
  State.distinct.stopQualifier (h.of_same rfl rfl)

theorem State.distinct.parkCheck (h : s.distinct p q) : s.parkCheck.distinct p q :=
  State.distinct_ite (State.distinct_ite h.enqueueAll h.enterParked) h

theorem State.distinct.wake (h : s.distinct p q) : s.wake.distinct p q :=
  State.distinct.reformCrank (h.of_same rfl rfl)

theorem State.distinct.hearFrame {take : State → State} (h : s.distinct p q) (taken : (take s).distinct p q) :
    (s.hearFrame take).distinct p q :=
  State.distinct_ite (State.distinct_ite h.restartLinger.wake taken) h

theorem State.distinct.reportTimebase {v : Bool} (h : s.distinct p q) : (s.reportTimebase v).distinct p q :=
  State.distinct_ite h (State.distinct.report (h.of_same rfl rfl))

theorem State.distinct.timebaseBad (h : s.distinct p q) : s.timebaseBad.distinct p q :=
  h.reportTimebase.flagOpen

theorem State.distinct.settleTimebase (h : s.distinct p q) : s.settleTimebase.distinct p q := by
  unfold State.settleTimebase
  split
  · exact h.timebaseBad
  · exact h.reportTimebase
  all_goals exact h

theorem State.distinct.windowEnd {cycles : Nat} (h : s.distinct p q) : (s.windowEnd cycles).distinct p q := by
  have selected (v : Selection) (good : Nat) : (s.setSelection v good).distinct p q := h.of_same rfl rfl
  unfold State.windowEnd
  split
  · exact h
  · exact State.distinct_ite (selected _ _) (selected _ _).timebaseBad
  · exact State.distinct_ite (selected _ _) (selected _ _).reportTimebase
  · exact selected _ _

/-! ## The store and the supply -/

/-- The queue is lost at the beginning of a reset (R163). -/
theorem State.distinct.beginReset {kind : ResetKind} {spoiled : Bool} (h : s.distinct p q) :
    (s.beginReset kind spoiled).distinct p q :=
  h.emptied rfl rfl

theorem State.distinct.recover (h : s.distinct p q) : s.recover.distinct p q := by
  have enqueued :
      (State.bulkEnqueue { s with store := { s.store with state := .ready, pfwReleased := false } }
        allRecords).distinct p q :=
    State.distinct.enqueueAll (h.of_same rfl rfl)
  exact State.distinct_ite enqueued.wake enqueued

theorem State.distinct.flushNext (h : s.distinct p q) : s.flushNext.distinct p q := by
  unfold State.flushNext
  split
  · exact State.distinct.startWrite (h.of_same rfl rfl)
  · exact State.distinct_ite h.recover h.enterDormant

/-- The queue is discarded at the beginning of a flush (R161). -/
theorem State.distinct.startFlush (h : s.distinct p q) : s.startFlush.distinct p q :=
  State.distinct.flushNext (h.emptied rfl rfl)

theorem State.distinct.takePfw (h : s.distinct p q) : s.takePfw.distinct p q := by
  unfold State.takePfw
  split
  · exact h.startFlush
  · exact h.of_same rfl rfl
  · exact h.enterDormant
  all_goals exact h

theorem State.distinct.dropPfw (h : s.distinct p q) : s.dropPfw.distinct p q := by
  unfold State.dropPfw
  split <;> exact h.of_same rfl rfl

theorem State.distinct.clearSuspect {r : RecordId} (h : s.distinct p q) : (s.clearSuspect r).distinct p q := by
  cases r with
  | band k => exact State.distinct_ite (State.distinct.reportGood (h.of_same rfl rfl)) h
  | settings => exact State.distinct_ite (State.distinct.reportGood (h.of_same rfl rfl)) h
  | account i => exact h
  | slot k => exact h

theorem State.distinct.completeGood {w : Write} (h : s.distinct p q) : (s.completeGood w).distinct p q := by
  have stored : ((s.imageStored w).mapWaits (doneWaits w.record)).distinct p q := h.of_same rfl rfl
  have answered : (s.writeAnswered w).distinct p q := stored.frame (State.releaseSatisfied_changesOnly _)
  rw [State.completeGood_eq]
  exact answered.clearSuspect

/-- A first fault appends its record unless it is covered (R159). -/
theorem State.distinct.firstFault {r : RecordId} (h : s.distinct p q) : (s.firstFault r).distinct p q := by
  have raised : (s.raiseEvent (devicePair .storeFault) (some (byteOf r.number))).distinct p q := h.raiseEvent
  exact State.distinct_ite raised ⟨raised.pairs, fun x => Store.append_queue_nodup _ _ (raised.queue x)⟩

/-- A second fault discards the queue (R160). -/
theorem State.distinct.goOffline {r : RecordId} (h : s.distinct p q) : (s.goOffline r).distinct p q := by
  have reported : ((s.raiseEvent (devicePair .storeFault) (some (byteOf r.number))).report (devicePair .storeOffline)
      true none).distinct p q :=
    h.raiseEvent.report
  unfold State.goOffline
  dsimp only
  refine State.distinct.frame ?_ (State.releaseVolatile_changesOnly _)
  exact reported.emptied rfl rfl

theorem State.distinct.completeFault {w : Write} (h : s.distinct p q) : (s.completeFault w).distinct p q := by
  have lost : (s.imageLost w).distinct p q := h.of_same rfl rfl
  unfold State.completeFault
  dsimp only
  split
  · exact lost.firstFault
  · exact lost.goOffline

theorem State.distinct.afterWrite {before : Store} (h : s.distinct p q) : (s.afterWrite before).distinct p q := by
  unfold State.afterWrite
  refine State.distinct_ite h.beginReset ?_
  split
  · exact State.distinct_ite (State.distinct_ite h h.enterDormant) (State.distinct_ite h.enterDormant h.parkCheck)
  · exact h.flushNext
  all_goals exact State.distinct_ite h.startFlush h.nextWrite.parkCheck

theorem State.distinct.writeDone {w : Write} {faulted : Bool} (h : s.distinct p q) :
    (s.writeDone w faulted).distinct p q :=
  State.distinct.afterWrite (State.distinct_ite h.completeFault h.completeGood)

end

end Sys2Proof.Machine
end

section
/-! PROOFS. One alert entry per pair and no record queued twice (O9), continued: the ends of loads and resets, the requests,
the commands, and the statement. -/

namespace Sys2Proof.Machine

section

variable {s t : State} {p q : Prop}

/-! ## The end of a load and of a reset -/

theorem State.distinct.loadAccounts (h : s.distinct p q) : s.loadAccounts.distinct p q := by
  have formed : s.tableFormed.distinct p q := h.of_same rfl rfl
  have reported : ((List.finRange 5).foldl State.reportLoaded s.tableFormed).distinct p q :=
    formed.foldl (fun _ _ hx => State.distinct_ite hx hx.report) _
  rw [State.loadAccounts_eq]
  exact reported.foldl (fun _ _ hx => hx.evalThresholds) _

theorem State.distinct.loadSettings {k : LoadKind} (h : s.distinct p q) : (s.loadSettings k).distinct p q := by
  have reported {x : State} (hx : x.distinct p q) :
      (if x.store.settingsSuspect then x.reportSuspect .settings else x).distinct p q :=
    State.distinct_ite hx.reportSuspect hx
  refine reported ?_
  split <;> exact h.of_same rfl rfl

theorem State.distinct.loadBand {kind : LoadKind} {k : Fin 16} (h : s.distinct p q) :
    (s.loadBand kind k).distinct p q := by
  have reported {x : State} (hx : x.distinct p q) :
      (if x.bands.suspect[k] then x.reportSuspect (.band k) else x).distinct p q :=
    State.distinct_ite hx.reportSuspect hx
  refine reported ?_
  cases kind with
  | cold =>
    show (s.formBand k).distinct p q
    rw [State.formBand_eq]
    exact h.of_same rfl rfl
  | failedCheck => exact h

theorem State.distinct.reportDamaged {k : Fin 24} (h : s.distinct p q) : (s.reportDamaged k).distinct p q := by
  unfold State.reportDamaged
  split
  · exact State.distinct_ite h.reportSuspect h
  · exact h

theorem State.distinct.setLog {l : SegmentLog} (h : s.distinct p q) : { s with log := l }.distinct p q :=
  h.of_same rfl rfl

theorem State.distinct.settleCounters (h : s.distinct p q) : s.settleCounters.distinct p q := by
  unfold State.settleCounters
  split
  · exact State.distinct_ite (h.of_same rfl rfl) h
  · exact h

theorem State.distinct.handleOpen (h : s.distinct p q) : s.handleOpen.distinct p q :=
  State.distinct.foldl (f := State.raiseGap) h.setLog (fun _ _ hx => hx.raiseEvent.hand) _

theorem State.distinct.loadSegments (h : s.distinct p q) : s.loadSegments.distinct p q := by
  have judged : ((List.finRange 24).foldl State.reportDamaged
      { s with log := { entries := s.store.loadLog, nearFull := false } }).distinct p q :=
    State.distinct.foldl h.setLog (fun _ _ hx => hx.reportDamaged) _
  exact judged.settleCounters.handleOpen.evalNearFull

/-- A load starts from an empty queue. -/
theorem State.distinct.formAll {k : LoadKind} (h : s.distinct p q) : (s.formAll k).distinct p q := by
  have started : (s.startLoad k).distinct p q := h.emptied rfl rfl
  have banded :
      ((List.finRange 16).foldl (State.loadBand k) ((s.startLoad k).loadAccounts.loadSettings k)).distinct p q :=
    started.loadAccounts.loadSettings.foldl (fun _ _ hx => hx.loadBand) _
  exact banded.loadSegments.settleTimebase

theorem State.distinct.startUp (h : s.distinct p q) : s.startUp.distinct p q :=
  State.distinct_ite (State.distinct.takePfw h.setMeter) h.setMeter

theorem State.distinct.finishLoad {k : LoadKind} (h : s.distinct p q) : (s.finishLoad k).distinct p q := by
  have readied {x : State} (hx : x.distinct p q) : x.readied.distinct p q := hx.of_same rfl rfl
  rw [State.finishLoad_eq]
  exact (readied h.formAll).startIfReady.reformCrank.startUp

theorem State.rewriteList_nodup (s : State) : s.rewriteList.Nodup := allRecords_nodup.filter _

/-- The rewrite queues each of its records once, whatever was queued before (R163). -/
theorem State.distinct.rewriteAll (h : s.distinct p q) : s.rewriteAll.distinct p q :=
  State.distinct.startIfReady ⟨h.pairs, fun _ => s.rewriteList_nodup⟩

theorem State.distinct.resumeRetained (h : s.distinct p q) : s.resumeRetained.distinct p q :=
  h.settleTimebase.report.reportObserved.resumeQualifier.flagOpen.rewriteAll.startUp

/-- The Alert Unit in its initial state and an empty queue hold nothing twice. -/
theorem State.distinct_of_initial (alerts : s.alerts = AlertUnit.initial) (queue : s.store.queue = []) :
    s.distinct p q where
  pairs _ := by simp [State.pairsDistinct, alerts, AlertUnit.initial]
  queue _ := by simp [State.queueDistinct, queue]

theorem State.distinct.finishReset {r : ResetInProgress} {retentionGood recordGood : Bool} {cycles : Nat}
    {straps : Straps} (h : s.distinct p q) :
    (s.finishReset r retentionGood recordGood cycles straps).distinct p q := by
  have recorded (kind : ResetKind) (lost : Bool) (time : Nat) :
      ((s.leaveReset cycles straps).recordReset kind lost recordGood time).distinct p q := h.of_same rfl rfl
  have reloaded (x : State) (k : LoadKind) : (x.reload k).distinct p q := State.distinct_of_initial rfl rfl
  unfold State.finishReset
  dsimp only
  split
  · exact reloaded _ _
  all_goals exact State.distinct_ite (recorded _ _ _).resumeRetained (reloaded _ _)

/-! ## Requests -/

theorem Answer.conclude_distinct {slot : SlotIx} {kind : Byte} {ops : List Byte} {a : Answer}
    (h : a.state.distinct p q) : (a.conclude slot kind ops).distinct p q := by
  cases a with
  | atOnce s o payload => exact State.distinct.frame h (State.offer_changesOnly _ _ _ _ _)
  | deferred s waits payload => exact State.distinct.frame h (State.setInFlight_changesOnly _ _ _)
  | resetting s => exact State.distinct.frame h (State.offer_changesOnly _ _ _ _ _)

theorem Answer.durable_distinct {records : List RecordId} {payload : List Byte} (h : s.distinct p q) :
    (Answer.durable s records payload).state.distinct p q := by
  rwa [Answer.state_durable]

theorem State.distinct.handleRead {slot : SlotIx} {r : Region} {n : Nat} (h : s.distinct p q) :
    (s.handleRead slot r n).state.distinct p q := by
  unfold State.handleRead
  split <;> exact h.of_same rfl rfl

theorem State.distinct.handleNext {slot : SlotIx} (h : s.distinct p q) : (s.handleNext slot).state.distinct p q := by
  unfold State.handleNext
  split
  · exact h
  · split <;> exact h.of_same rfl rfl

theorem State.distinct.openIn {slot : Fin 24} {renter : List Byte} {tariff : Byte} (h : s.distinct p q) :
    (s.openIn slot renter tariff).state.distinct p q :=
  Answer.durable_distinct (State.distinct.hand (State.distinct.hand (h.of_same rfl rfl)))

theorem State.distinct.handleOpenRental {renter : List Byte} {tariff : Byte} (h : s.distinct p q) :
    (s.handleOpenRental renter tariff).state.distinct p q := by
  have reclaimed (e : LogEntry) : (s.reclaim e).distinct p q :=
    State.distinct_ite (State.distinct.reportGood h.setLog) h.setLog
  unfold State.handleOpenRental
  split
  · exact h
  · split
    · exact h.openIn
    · split
      · exact (reclaimed _).openIn
      · exact h

theorem State.distinct.modifySegment {slot : Fin 24} {g : Segment → Segment} (h : s.distinct p q) :
    (s.modifySegment slot g).distinct p q :=
  h.setLog

theorem State.distinct.handleCloseRental (h : s.distinct p q) : s.handleCloseRental.state.distinct p q := by
  unfold State.handleCloseRental
  split
  · exact h
  · exact Answer.durable_distinct h.modifySegment.evalNearFull.hand

theorem State.distinct.handleMarkExported {number : Nat} (h : s.distinct p q) :
    (s.handleMarkExported number).state.distinct p q := by
  unfold State.handleMarkExported
  split
  · exact h
  · split
    case h_4 => exact Answer.durable_distinct h.modifySegment.evalNearFull.hand
    all_goals exact h

theorem State.distinct.handleAckAlert {source cause : Nat} (h : s.distinct p q) :
    (s.handleAckAlert source cause).state.distinct p q := by
  unfold State.handleAckAlert
  split
  · dsimp only
    split
    · split
      · exact h
      · exact ⟨fun x => AlertUnit.acknowledge_pairs_nodup _ _ _ (h.pairs x), h.queue⟩
    · exact h
  · exact h

theorem State.distinct.handleServiceReset {account : Nat} (h : s.distinct p q) :
    (s.handleServiceReset account).state.distinct p q := by
  unfold State.handleServiceReset
  split
  · exact h
  · split
    · exact Answer.durable_distinct h.setAccount.evalThresholds.flagOpen.hand
    · exact h

theorem State.distinct.setRestore {b : Option RestoreBuffer} (h : s.distinct p q) : (s.setRestore b).distinct p q :=
  h.frame (s.setRestore_changesOnly b)

theorem State.distinct.handleRestoreField {account field value : Nat} (h : s.distinct p q) :
    (s.handleRestoreField account field value).state.distinct p q := by
  unfold State.handleRestoreField
  split
  · exact h
  · split
    · split
      · exact h
      · rw [Answer.state_atOnce]
        exact h.setRestore.changeAccount
    · exact h

theorem State.distinct.raiseSnapshot {increase : Tracked} (h : s.distinct p q) :
    (s.raiseSnapshot increase).distinct p q :=
  h.marks (s.raiseSnapshot_onlyMarks increase) (s.raiseSnapshot_changesOnly increase)

theorem State.distinct.handleRestoreDone {account : Nat} (h : s.distinct p q) :
    (s.handleRestoreDone account).state.distinct p q := by
  unfold State.handleRestoreDone
  split
  · exact h
  · split
    · exact h
    · exact Answer.durable_distinct h.setAccount.report.evalThresholds.raiseSnapshot.setRestore.hand

theorem State.distinct.putBand {k : Fin 16} {e : BandEntry} (h : s.distinct p q) :
    (s.putBand k e).state.distinct p q :=
  Answer.durable_distinct (h.frame (s.setBand_changesOnly k e)).hand

theorem State.distinct.editBand {k : Fin 16} {apply stage : BandEntry → BandEntry} (h : s.distinct p q) :
    (s.editBand k apply stage).state.distinct p q := by
  unfold State.editBand
  dsimp only
  split
  · exact h
  · exact h.putBand

theorem State.distinct.handleBandPrimary {entry metric : Nat} {low high : Int} (h : s.distinct p q) :
    (s.handleBandPrimary entry metric low high).state.distinct p q := by
  unfold State.handleBandPrimary
  split
  · exact h.editBand
  · exact h

theorem State.distinct.handleBandSecondary {entry metric : Nat} {low high : Int} (h : s.distinct p q) :
    (s.handleBandSecondary entry metric low high).state.distinct p q := by
  unfold State.handleBandSecondary
  split
  · exact h.editBand
  · exact h

theorem State.distinct.handleBandWeight {entry account cls bin weight enabled : Nat} (h : s.distinct p q) :
    (s.handleBandWeight entry account cls bin weight enabled).state.distinct p q := by
  unfold State.handleBandWeight
  split
  · exact h.editBand
  · exact h

theorem State.distinct.handleBandLock {entry : Nat} (h : s.distinct p q) :
    (s.handleBandLock entry).state.distinct p q := by
  unfold State.handleBandLock
  split
  · exact h
  · dsimp only
    split
    · exact h
    · split
      · exact h.putBand
      · exact h

theorem State.distinct.applySetting {id : Nat} (h : s.distinct p q) : (s.applySetting id).distinct p q :=
  State.distinct_ite h.reclassifyAll (State.distinct_ite h.reformLatch (State.distinct_ite (h.of_same rfl rfl) h))

theorem State.distinct.handleWriteSetting {id account raw : Nat} (h : s.distinct p q) :
    (s.handleWriteSetting id account raw).state.distinct p q := by
  unfold State.handleWriteSetting
  split
  · split
    · exact h
    · unfold State.writeAccount
      split
      · exact h
      · exact Answer.durable_distinct
          (State.distinct.hand (State.distinct_ite h.setAccount.evalThresholds h.setAccount))
  · unfold State.writeDevice
    split
    · exact h
    · exact Answer.durable_distinct (State.distinct.hand (State.distinct.applySetting (h.of_same rfl rfl)))

theorem State.distinct.handleCheckpoint (h : s.distinct p q) : s.handleCheckpoint.state.distinct p q := by
  unfold State.handleCheckpoint
  split
  · exact h
  · split <;> exact h
  all_goals
    split
    · exact h
    · exact h.enqueueAll

theorem State.distinct.handleResetDevice (h : s.distinct p q) : s.handleResetDevice.state.distinct p q := by
  unfold State.handleResetDevice
  split <;> exact h.of_same rfl rfl

theorem State.distinct.handle {slot : SlotIx} {r : Request} (h : s.distinct p q) :
    (s.handle slot r).state.distinct p q := by
  cases r with
  | status => exact h
  | read => exact h.handleRead
  | next => exact h.handleNext
  | openRental => exact h.handleOpenRental
  | closeRental => exact h.handleCloseRental
  | markExported => exact h.handleMarkExported
  | ackAlert => exact h.handleAckAlert
  | serviceReset => exact h.handleServiceReset
  | restoreField => exact h.handleRestoreField
  | restoreDone => exact h.handleRestoreDone
  | bandPrimary => exact h.handleBandPrimary
  | bandSecondary => exact h.handleBandSecondary
  | bandWeight => exact h.handleBandWeight
  | bandLock => exact h.handleBandLock
  | writeSetting => exact h.handleWriteSetting
  | checkpoint => exact h.handleCheckpoint
  | resetDevice => exact h.handleResetDevice

theorem State.distinct.decideRequest {slot : SlotIx} {kind : Byte} {ops : List Byte} (h : s.distinct p q) :
    (s.decideRequest slot kind ops).state.distinct p q := by
  unfold State.decideRequest
  split
  · exact h
  · split
    · exact h
    · split
      · exact h
      · exact h.handle

theorem State.distinct.takeRequest {slot : SlotIx} {kind : Byte} {ops : List Byte} (h : s.distinct p q) :
    (s.takeRequest slot kind ops).distinct p q := by
  unfold State.takeRequest
  split
  · exact State.distinct_ite (h.of_same rfl rfl) h.restartLinger
  · exact Answer.conclude_distinct h.restartLinger.decideRequest

theorem State.distinct.takeRequestData {slot : SlotIx} {data : List Byte} (h : s.distinct p q) :
    (s.takeRequestData slot data).distinct p q := by
  cases data with
  | nil => exact h.takeRequest
  | cons kind ops => exact h.takeRequest

theorem State.distinct.observationFrame {id : CanId} {data : List Byte} (h : s.distinct p q) :
    (s.observationFrame id data).distinct p q := by
  refine h.hearFrame ?_
  unfold State.routeFrame
  split
  · exact h.takeRequestData
  · exact h.restartLinger.decode
  · exact h

/-! ## Commands and time -/

theorem State.distinct.checkpointEnqueue {rs : List RecordId} (h : s.distinct p q) (once : rs.Nodup) :
    (s.checkpointEnqueue rs).distinct p q := by
  unfold State.checkpointEnqueue
  split
  · exact h.bulkEnqueue once
  · exact h.bulkEnqueue once
  all_goals exact h

theorem accountRecords_nodup : accountRecords.Nodup := by decide

theorem State.distinct.givePlace (h : s.distinct p q) : s.givePlace.distinct p q := by
  unfold State.givePlace
  split
  · split <;> exact h.of_same rfl rfl
  · exact h

theorem State.distinct.sendFrame {f : Frame} {rest : List Frame} (h : s.distinct p q) :
    (s.sendFrame f rest).distinct p q := by
  have placed : (State.givePlace { s with port := { s.port with tx := rest } }).distinct p q :=
    State.distinct.givePlace (h.of_same rfl rfl)
  have commanded {x : State} (hx : x.distinct p q) : x.commandReset.distinct p q := by
    unfold State.commandReset
    split
    · exact hx.beginReset
    · exact hx.of_same rfl rfl
  exact State.distinct_ite (commanded placed) placed

theorem State.distinct.tick (h : s.distinct p q) : s.tick.distinct p q :=
  State.distinct_ite h
    (State.distinct_ite (h.of_same rfl rfl) (State.distinct_ite (h.of_same rfl rfl) (h.of_same rfl rfl)))

theorem exec_frame_distinct {c : Instr} (frame : isFrame c = true) (h : s.distinct p q) (run : exec c s = .next t) :
    t.distinct p q := by
  cases request : requestOf c with
  | some r =>
    obtain ⟨slot, kind, ops⟩ := r
    rw [exec_request request] at run
    cases run
    exact h.hearFrame h.takeRequest
  | none =>
    cases c
    case unknownRequest slot data => cases run; exact h.hearFrame h.takeRequestData
    case engineState id data => cases run; exact h.observationFrame
    case drivelineState id data => cases run; exact h.observationFrame
    case drivelineEvent id data => cases run; exact h.observationFrame
    case wakeFrame => cases run; exact h.hearFrame h
    all_goals simp [isFrame, requestOf] at frame request

theorem exec_distinct {c : Instr} (h : s.distinct p q) (run : exec c s = .next t) : t.distinct p q := by
  by_cases frame : isFrame c = true
  · exact exec_frame_distinct frame h run
  cases c
  case signalHeld n => cases run; exact State.distinct_ite h.passHeld h
  case signalUnknown n => cases run; exact State.distinct_ite h.passUnknown h
  case meteringExpiry => cases run; exact State.distinct_ite (State.distinct.meteringPass h.setMeter) h
  case crankChange asserted =>
    cases run
    exact State.distinct_ite h (State.distinct_ite h.crankLine (h.of_same rfl rfl))
  case crankWindowExpiry => cases run; exact State.distinct_ite h.windowExpiry h
  case confirmExpiry => cases run; exact State.distinct_ite h.confirmDone h
  case stopTimerExpiry => cases run; exact State.distinct_ite h.stopDone h
  case ignAsserted =>
    cases run
    exact State.distinct_ite h
      (State.distinct_ite (State.distinct.wake (h.of_same rfl rfl)) (h.of_same rfl rfl))
  case keyOff =>
    cases run
    have released : { s with lines := { s.lines with ign := false } }.distinct p q := h.of_same rfl rfl
    exact State.distinct_ite
      (State.distinct_ite (released.checkpointEnqueue allRecords_nodup).restartLinger released) h
  case periodicCheckpoint =>
    cases run
    exact State.distinct_ite (State.distinct.checkpointEnqueue (h.of_same rfl rfl) accountRecords_nodup) h
  case lingerExpiry =>
    cases run
    split
    · exact State.distinct.parkCheck (h.of_same rfl rfl)
    · exact h
  case writeCompletion faulted =>
    cases run
    split
    · exact h.writeDone
    · exact h
  case pfwAsserted =>
    cases run
    exact State.distinct_ite h
      (State.distinct_ite (State.distinct.takePfw (h.of_same rfl rfl)) (h.of_same rfl rfl))
  case pfwReleased =>
    cases run
    have released : { s with lines := { s.lines with pfw := false } }.distinct p q := h.of_same rfl rfl
    exact State.distinct_ite
      (State.distinct_ite released (State.distinct_ite released.beginReset released.dropPfw)) h
  case monitorWindow cycles => cases run; exact State.distinct_ite h.windowEnd h
  case deviceTimeSecond => cases run; exact State.distinct_ite (h.of_same rfl rfl) h
  case coldReset straps cycles => cases run; exact State.distinct_of_initial rfl rfl
  case warmReset dip => cases run; exact h.beginReset
  case resetEnd retentionGood recordGood cycles straps =>
    cases run
    split
    · exact h.finishReset
    · exact h
  case loadEnd =>
    cases run
    split
    · exact h.finishLoad
    · exact h
  case transmissionComplete =>
    cases run
    refine State.distinct_ite ?_ h
    split
    · exact h.sendFrame
    · exact h
  case busOff =>
    cases run
    have off : { s.dropRequests with port := { tx := [], state := .busOff } }.distinct p q := h.of_same rfl rfl
    exact State.distinct_ite (State.distinct_ite (State.distinct.parkCheck (off.of_same rfl rfl)) off) h
  case busOffRecovery => cases run; exact State.distinct_ite (h.of_same rfl rfl) h
  all_goals exact absurd rfl frame

theorem step_distinct (h : s.distinct p q) (run : step s = .next t) : t.distinct p q := by
  obtain ⟨c, rest, -, done⟩ | ⟨-, rfl⟩ := Laws.step_cases run
  · exact exec_distinct (s := { s with pending := rest }) (h.of_same rfl rfl) done
  · exact h.tick

end

/-- Settles O9: a step keeps the invariant, of which each fact is a case. -/
theorem pairsAndQueueStayDistinct : Obligations.PairsAndQueueStayDistinct :=
  ⟨fun s _ once run =>
      (step_distinct (s := s) (p := True) (q := False) ⟨fun _ => once, False.elim⟩ run).pairs trivial,
    fun s _ once run =>
      (step_distinct (s := s) (p := False) (q := True) ⟨False.elim, fun _ => once⟩ run).queue trivial⟩

end Sys2Proof.Machine
end

section
/-! PROOFS. The Alert Unit by its rules: ALRT (O18), the reports of a condition (O19), ACK ALERT (O26). -/

namespace Sys2Proof.Machine

/-! ## ALRT (R144) -/

/-- Settles O18: ALRT tells whether the count of critical PENDING entries is above 0, so whether there is one. -/
theorem alrtFollowsPendingCritical : Obligations.AlrtFollowsPendingCritical := by
  intro s
  have counted : s.alrt = true ↔ 0 < s.alerts.pendingCritical := by
    simp [State.alrt, Nat.pos_iff_ne_zero]
  rw [counted, AlertUnit.pendingCritical, List.countP_pos_iff]
  simp

/-! ## The entry of a pair -/

theorem AlertUnit.pair_of_entry {u : AlertUnit} {p : AlertPair} {e : AlertEntry} (found : u.entry p = some e) :
    e.pair = p := by
  simpa using List.find?_some found

/-- With one entry per pair, the entry of a pair is the one that stands for it (R134). -/
theorem AlertUnit.entry_eq_some_iff {u : AlertUnit} {p : AlertPair} {e : AlertEntry}
    (once : (u.entries.map AlertEntry.pair).Nodup) : u.entry p = some e ↔ e ∈ u.entries ∧ e.pair = p := by
  constructor
  · intro found
    exact ⟨List.mem_of_find?_eq_some found, AlertUnit.pair_of_entry found⟩
  · rintro ⟨mem, pair⟩
    cases found : u.entry p with
    | none => exact absurd pair (by simpa using List.find?_eq_none.mp found e mem)
    | some x =>
      have same : x.pair = e.pair := (AlertUnit.pair_of_entry found).trans pair.symm
      rw [List.inj_on_of_nodup_map once (List.mem_of_find?_eq_some found) mem same]

/-- A raise of a pair with no entry creates one, for which a notice is offered (R136, R139). -/
theorem AlertUnit.raise_created {u : AlertUnit} {p : AlertPair} (none_ : u.entry p = none) (param : Option Byte)
    (now : Nat) :
    u.raise p param now =
      ({ u with entries := u.entries ++ [AlertEntry.created p param now] }, some (AlertEntry.created p param now)) := by
  unfold AlertUnit.raise
  rw [none_]

/-- The entry a creation leaves is the one created. -/
theorem AlertUnit.entry_raise_created {u : AlertUnit} {p : AlertPair} (none_ : u.entry p = none)
    (param : Option Byte) (now : Nat) :
    (u.raise p param now).1.entry p = some (AlertEntry.created p param now) := by
  rw [AlertUnit.raise_created none_]
  unfold AlertUnit.entry at none_ ⊢
  simp [List.find?_append, none_, AlertEntry.created]

/-- A raise of a pair that has an entry offers no notice and repeats the entry (R136, R139). -/
theorem AlertUnit.raise_repeated {u : AlertUnit} {p : AlertPair} {e : AlertEntry} (found : u.entry p = some e)
    (param : Option Byte) (now : Nat) :
    (u.raise p param now).2 = none ∧ (u.raise p param now).1.entry p = some (e.repeated param now) := by
  unfold AlertUnit.raise
  rw [found]
  refine ⟨rfl, ?_⟩
  unfold AlertUnit.entry at found ⊢
  dsimp only
  rw [AlertEntry.find?_repeated, found]
  simp [AlertUnit.pair_of_entry found]

/-- A report of false leaves a PENDING entry and removes an ACKNOWLEDGED one (R137). -/
theorem AlertUnit.entry_reportFalse_same {u : AlertUnit} {p : AlertPair}
    (once : (u.entries.map AlertEntry.pair).Nodup) (held : u.holds p = true) :
    (u.reportFalse p).entry p = (u.entry p).filter fun e => e.state != .acknowledged := by
  have entries : (u.reportFalse p).entries = u.entries.filter fun e => !(e.pair == p && e.state == .acknowledged) := by
    simp [AlertUnit.reportFalse, held]
  refine Option.ext fun e => ?_
  rw [AlertUnit.entry_eq_some_iff (u.reportFalse_pairs_nodup p once), entries, List.mem_filter,
    Option.filter_eq_some_iff, AlertUnit.entry_eq_some_iff once]
  constructor
  · rintro ⟨⟨mem, stays⟩, rfl⟩
    exact ⟨⟨mem, rfl⟩, by simpa [bne] using stays⟩
  · rintro ⟨⟨mem, rfl⟩, pending⟩
    exact ⟨⟨mem, by simpa [bne] using pending⟩, rfl⟩

/-! ## The notice of a creation (R145, R146) -/

theorem noticeFrame_length (straps : Straps) (critical : Nat) (e : AlertEntry) :
    (noticeFrame straps critical e).data.length = 8 := by
  simp [noticeFrame, bytes32, bytes24, bytes16]

/-- A notice that is taken is one frame more, with the identifier of notices and eight bytes. -/
theorem State.withAlerts_taken {s : State} (takes : s.takesNotice = true) (u : AlertUnit) (e : AlertEntry) :
    ∃ f, (s.withAlerts (u, some e)).port.tx = s.port.tx ++ [f] ∧ f.id = noticeId s.time.straps ∧
      f.data.length = 8 := by
  refine ⟨noticeFrame s.time.straps u.pendingCritical e, ?_, rfl, noticeFrame_length _ _ _⟩
  simp [State.withAlerts, takes, Port.push]

/-- A notice that is not taken is dropped. -/
theorem State.withAlerts_dropped {s : State} (drops : s.takesNotice = false) (r : AlertUnit × Option AlertEntry) :
    (s.withAlerts r).port = s.port := by
  unfold State.withAlerts
  dsimp only
  split
  · simp [drops]
  · rfl

/-- With no entry created nothing is offered to the port. -/
theorem State.withAlerts_silent {s : State} {r : AlertUnit × Option AlertEntry} (silent : r.2 = none) :
    (s.withAlerts r).port = s.port := by
  unfold State.withAlerts
  dsimp only
  rw [silent]

theorem State.takesNotice_iff (s : State) :
    s.takesNotice = true ↔ s.port.tx.length < 8 ∧ s.port.state = .running ∧ s.time.mode = .active := by
  simp [State.takesNotice, Port.hasRoom, txPlaces, and_assoc]

theorem State.takesNotice_eq_false {s : State}
    (h : 8 ≤ s.port.tx.length ∨ s.port.state = .busOff ∨ s.time.mode ≠ .active) : s.takesNotice = false := by
  rw [← Bool.not_eq_true, State.takesNotice_iff]
  rintro ⟨room, running, active⟩
  rcases h with full | off | other
  · omega
  · rw [running] at off
    cases off
  · exact other active

/-! ## The reports of a condition (O19) -/

/-- A true report of a condition held false is a raise, with the condition held (R136). -/
theorem State.report_true_raises {s : State} {p : AlertPair} (param : Option Byte) (unheld : s.alerts.holds p = false) :
    s.report p true param =
      s.withAlerts
        ({ s.alerts with heldTrue := s.alerts.heldTrue ++ [p] }.raise p param s.time.deviceTime) := by
  simp [State.report, AlertUnit.reportTrue, unheld]

/-- Settles O19: a true report is a raise, a false one a removal of the ACKNOWLEDGED entry. -/
theorem conditionReportsActOnAlerts : Obligations.ConditionReportsActOnAlerts := by
  refine ⟨fun s p param unheld => ⟨State.holds_report_same _ _ _ _, ?_⟩, fun s p param once held =>
    ⟨State.holds_report_same _ _ _ _, rfl, ?_⟩⟩
  · rw [State.report_true_raises param unheld]
    cases found : s.alerts.entry p with
    | none =>
      have created := AlertUnit.raise_created (u := { s.alerts with heldTrue := s.alerts.heldTrue ++ [p] }) found param
        s.time.deviceTime
      refine ⟨AlertUnit.entry_raise_created
        (u := { s.alerts with heldTrue := s.alerts.heldTrue ++ [p] }) found param _, ?_, ?_⟩
      · intro room running active
        rw [created]
        exact State.withAlerts_taken (s.takesNotice_iff.mpr ⟨room, running, active⟩) _ _
      · intro full
        exact State.withAlerts_dropped (State.takesNotice_eq_false full) _
    | some e =>
      obtain ⟨silent, repeated⟩ := AlertUnit.raise_repeated
        (u := { s.alerts with heldTrue := s.alerts.heldTrue ++ [p] }) found param s.time.deviceTime
      exact ⟨repeated, State.withAlerts_silent silent⟩
  · refine (AlertUnit.entry_reportFalse_same once held).trans ?_
    cases s.alerts.entry p with
    | none => rfl
    | some e => cases state : e.state <;> simp [state]

/-! ## ACK ALERT (O26) -/

theorem toNat_byteOf {n : Nat} (small : n < 256) : (byteOf n).toNat = n := Nat.mod_eq_of_lt small

theorem sourceOfCode_code (x : Source) : sourceOfCode x.code = some x := by
  cases x with
  | account i => exact dif_pos i.isLt
  | device => rfl

theorem code_of_sourceOfCode {n : Nat} {x : Source} (h : sourceOfCode n = some x) : n = x.code := by
  unfold sourceOfCode at h
  split at h
  · cases h
    rfl
  · split at h <;> cases h
    assumption

theorem Source.code_lt (x : Source) : x.code < 256 := by
  cases x with
  | account i => exact i.isLt.trans (by decide)
  | device => decide

theorem causeOfCode_code (c : Cause) : causeOfCode c.code = some c := by cases c <;> rfl

theorem code_of_causeOfCode {n : Nat} {c : Cause} (h : causeOfCode n = some c) : n = c.code := by
  have coded : (c.code == n) = true := List.find?_some (p := fun x : Cause => x.code == n) h
  exact (beq_iff_eq.mp coded).symm

theorem Cause.code_lt (c : Cause) : c.code < 256 := by cases c <;> decide

/-- The codes of a valid pair name it: EMPTY without an entry, else the entry acknowledged (R140). -/
theorem State.handleAckAlert_valid {s : State} {p : AlertPair} (valid : p.valid = true) :
    s.handleAckAlert p.source.code p.cause.code =
      (s.alerts.entry p).elim (.refusal s .empty)
        fun e => .atOnce { s with alerts := s.alerts.acknowledge p e } .ok [] := by
  unfold State.handleAckAlert
  rw [sourceOfCode_code, causeOfCode_code]
  dsimp only
  rw [if_pos valid]
  cases s.alerts.entry p <;> rfl

/-- Codes that name no valid pair are refused (R140). -/
theorem State.handleAckAlert_invalid (s : State) {source cause : Nat}
    (invalid : ∀ p : AlertPair, p.valid = true → ¬(source = p.source.code ∧ cause = p.cause.code)) :
    s.handleAckAlert source cause = .refusal s .badRequest := by
  unfold State.handleAckAlert
  split
  · next x c source_ cause_ =>
    exact if_neg fun valid =>
      invalid ⟨x, c⟩ valid ⟨code_of_sourceOfCode source_, code_of_causeOfCode cause_⟩
  · rfl

theorem AlertUnit.acknowledge_acknowledged (u : AlertUnit) (p : AlertPair) {e : AlertEntry}
    (state : e.state = .acknowledged) : u.acknowledge p e = u := by
  simp [AlertUnit.acknowledge, state]

theorem AlertUnit.acknowledge_pending (u : AlertUnit) (p : AlertPair) {e : AlertEntry} (state : e.state = .pending) :
    u.acknowledge p e =
      if p.cause.isCondition = true ∧ u.holds p = true then u.setAcknowledged p else u.remove p := by
  simp [AlertUnit.acknowledge, state]

/-- The bytes of a pair's codes spell the request that names it. -/
theorem parseRequest_ackAlert (p : AlertPair) (rest : List Byte) :
    parseRequest (0x18#8 : Byte).toNat (byteOf p.source.code :: byteOf p.cause.code :: rest) =
      some (.ackAlert p.source.code p.cause.code) := by
  simp [parseRequest, parseAckAlert, toNat_byteOf p.source.code_lt, toNat_byteOf p.cause.code_lt]

/-- ACK ALERT of a pair that has an entry: OK, the entry acknowledged. -/
theorem exec_ackAlert_entry {s : State} {slot : SlotIx} {p : AlertPair} {e : AlertEntry} (rest : List Byte)
    (valid : p.valid = true) (permitted : (Request.ackAlert p.source.code p.cause.code).permitted slot = true)
    (hears : s.hears slot) (room : s.port.hasRoom = true) (found : s.alerts.entry p = some e) :
    exec (.ackAlert slot (byteOf p.source.code :: byteOf p.cause.code :: rest)) s =
      .next { s.responded slot 0x18#8 .ok [] with alerts := s.alerts.acknowledge p e } := by
  have entry : s.restartLinger.alerts.entry p = some e := found
  have handled := State.handleAckAlert_valid (s := s.restartLinger) valid
  rw [entry] at handled
  rw [exec_permitted rfl (parseRequest_ackAlert p rest) hears permitted rfl]
  obtain ⟨-, -, idle⟩ := hears
  refine congrArg Host.Outcome.next ((congrArg _ handled).trans ?_)
  exact Answer.conclude_atOnce { s.restartLinger with alerts := s.alerts.acknowledge p e } slot _ _ .ok [] idle room

/-- Settles O26: by the entry of the pair and its state; codes of no valid pair are refused. -/
theorem ackAlertActs : Obligations.AckAlertActs := by
  refine ⟨fun s slot p rest valid permitted hears room => ?_, fun s slot a b rest permitted hears room invalid => ?_⟩
  · cases found : s.alerts.entry p with
    | none =>
      refine exec_permitted_refused rfl (parseRequest_ackAlert p rest) hears permitted rfl room ?_
      have entry : s.restartLinger.alerts.entry p = none := found
      exact (State.handleAckAlert_valid valid).trans (by rw [entry]; rfl)
    | some e =>
      rw [exec_ackAlert_entry rest valid permitted hears room found]
      cases state : e.state with
      | acknowledged =>
        rw [AlertUnit.acknowledge_acknowledged _ _ state]
        simp [state, State.responded]
      | pending =>
        rw [AlertUnit.acknowledge_pending _ _ state]
        simp only [state, reduceCtorEq, if_false]
        split <;> rfl
  · exact exec_permitted_refused (q := .ackAlert a.toNat b.toNat) rfl rfl hears permitted rfl room
      (State.handleAckAlert_invalid _ invalid)

end Sys2Proof.Machine
end

section
/-! PROOFS. What the beginning of a reset clears and keeps (O55). -/

namespace Sys2Proof.Machine

/-- The selection a reset ends with (R182, R183). -/
theorem windowSelection_eq (cycles : Nat) :
    windowSelection cycles = if 72000 ≤ cycles ∧ cycles ≤ 88000 then .crystal else .internalRc := by
  simp [windowSelection, windowGood]

/-- A reset that begins leaves the working state of every block that keeps one through a reset (R189). -/
theorem State.beginReset_changesOnly (s : State) (kind : ResetKind) (spoiled : Bool) :
    s.changesOnly (s.beginReset kind spoiled) [.port, .intake, .meter, .store, .engine, .time] := by
  intro p hp
  cases p <;> first | rfl | simp at hp

/-- The retained area is spoiled by this reset, or by one that it interrupts (R189). -/
theorem State.beginReset_inReset (s : State) (kind : ResetKind) (spoiled : Bool) :
    ∃ r, (s.beginReset kind spoiled).time.inReset = some r ∧ r.kind = kind ∧
      (r.spoiled = true ↔ spoiled = true ∨ ∃ before, s.time.inReset = some before ∧ before.spoiled = true) := by
  refine ⟨_, rfl, rfl, ?_⟩
  cases s.time.inReset <;> simp

theorem dipSpoils_iff (dip : Dip) : dipSpoils dip = true ↔ dip = .belowRetention := by cases dip <;> decide

/-- Settles O55: a cold reset leaves `State.coldStart`, a warm one what `State.beginReset` leaves. -/
theorem resetsClearAndKeep : Obligations.ResetsClearAndKeep := by
  intro s straps cycles dip array
  have abandoned : s.store.abandoned = array := rfl
  refine ⟨⟨State.coldStart s.pending s.lines s.store.abandoned straps (windowSelection cycles), rfl, rfl, rfl, abandoned,
    rfl, rfl, rfl, rfl, rfl, rfl, rfl, rfl, rfl, rfl, rfl, rfl, windowSelection_eq cycles, rfl, rfl, rfl⟩, ?_⟩
  obtain ⟨r, begun, kind, spoiled⟩ := s.beginReset_inReset .warm (dipSpoils dip)
  rw [dipSpoils_iff] at spoiled
  exact ⟨s.beginReset .warm (dipSpoils dip), rfl, abandoned, rfl, rfl, rfl, rfl, rfl, rfl, rfl, rfl, rfl, rfl, rfl, rfl,
    ⟨r, begun, kind, spoiled⟩, s.beginReset_changesOnly .warm _⟩

end Sys2Proof.Machine
end

section
/-! PROOFS. The end of a warm or commanded reset (O56): what the blocks take up and what the store rewrites after a good
check, and the reload after a bad one. -/

namespace Sys2Proof.Machine

/-! ## What the Alert Unit holds of DEVICE through the Start Qualifier -/

section
variable {c : Cause}

theorem State.holds_evalThresholds_device (s : State) (i : AccountIx) :
    (s.evalThresholds i).alerts.holds (devicePair c) = s.alerts.holds (devicePair c) :=
  s.holds_evalThresholds_other i (by simp [devicePair, accountPair]) (by simp [devicePair, accountPair])

theorem State.holds_credit_device (s : State) (i : AccountIx) (n : Nat) :
    (s.credit i n).alerts.holds (devicePair c) = s.alerts.holds (devicePair c) := by
  have changed : (s.changeAccount i fun a => a.addCredit n).alerts = s.alerts :=
    s.changeAccount_changesOnly i _ .alerts (by decide)
  unfold State.credit State.evalCarried
  split
  · rw [changed]
  · rw [State.holds_evalThresholds_device, changed]

theorem State.holds_credits_device (s : State) (i : AccountIx) (numerator n : Nat) :
    (s.credits i numerator n).alerts.holds (devicePair c) = s.alerts.holds (devicePair c) := by
  induction n generalizing s with
  | zero => rfl
  | succ n ih => exact (ih _).trans (s.holds_credit_device i numerator)

theorem State.holds_postStarter_device (s : State) (cold : Bool) :
    (s.postStarter cold).alerts.holds (devicePair c) = s.alerts.holds (devicePair c) := by
  unfold State.postStarter State.postEvents
  rw [State.holds_credits_device, s.changeAccount_changesOnly 1 _ .alerts (by decide)]

theorem State.holds_crankTrigger_device (s : State) :
    s.crankTrigger.alerts.holds (devicePair c) = s.alerts.holds (devicePair c) := by
  unfold State.crankTrigger
  split
  · exact s.holds_postStarter_device _
  · exact s.holds_postStarter_device _
  · exact s.holds_postStarter_device _
  · unfold State.crankWhileRunning
    rw [State.changeAccount_changesOnly _ 1 _ .alerts (by decide), State.holds_postStarter_device]

/-- The Qualifier reports thresholds of accounts and nothing of DEVICE. -/
theorem State.holds_resumeQualifier_device (s : State) :
    s.resumeQualifier.alerts.holds (devicePair c) = s.alerts.holds (devicePair c) := by
  have formed : s.reformCrank.alerts.holds (devicePair c) = s.alerts.holds (devicePair c) := by
    have latched : s.reformLatch.alerts = s.alerts := s.reformLatch_changesOnly .alerts (by decide)
    unfold State.reformCrank
    dsimp only
    split
    · rw [State.holds_crankTrigger_device, latched]
    · rw [latched]
  unfold State.resumeQualifier
  dsimp only
  split
  · rw [State.startStop_changesOnly _ _ .alerts (by decide)]
    exact formed
  all_goals exact formed

theorem State.holds_reportObserved_device (s : State) :
    s.reportObserved.alerts.holds (devicePair c) = s.alerts.holds (devicePair c) := by
  have each (l : List AccountIx) (x : State) :
      (l.foldl (fun x i => x.report (accountPair i .unobserved) false none) x).alerts.holds (devicePair c) =
        x.alerts.holds (devicePair c) := by
    induction l generalizing x with
    | nil => rfl
    | cons i l ih => exact (ih _).trans (x.holds_report_other _ _ (by simp [devicePair, accountPair]))
  exact each _ s

end

/-! ## What the blocks take up (R190) -/

/-- Of the Time Base only the TIMEBASE value held is settled (R183). -/
theorem State.settleTimebase_time (s : State) :
    ∃ held, s.settleTimebase.time = { s.time with timebaseHeld := held } := by
  have reported (v : Bool) : (s.reportTimebase v).time = { s.time with timebaseHeld := v } := by
    unfold State.reportTimebase
    split
    · next same => rw [← same]
    · rfl
  unfold State.settleTimebase
  split
  · exact ⟨true, (State.flagOpen_changesOnly _ _ .time (by decide)).trans (reported true)⟩
  · exact ⟨false, reported false⟩
  all_goals exact ⟨_, rfl⟩

theorem State.resumeQualifier_changesOnly (s : State) : s.changesOnly s.resumeQualifier qualifierParts := by
  unfold State.resumeQualifier
  dsimp only
  split
  · exact State.changesOnly_then s.reformCrank_changesOnly (State.startStop_changesOnly _ _) (by decide) (by decide)
  all_goals exact s.reformCrank_changesOnly

/-- What the blocks take up after the Time Base is settled. -/
theorem State.resumed_after_settle (s : State) :
    s.settleTimebase.changesOnly s.resumed (Part.log :: qualifierParts) := by
  refine State.changesOnly_then (State.changesOnly_then (rs := qualifierParts) (State.changesOnly_trans
    (s.settleTimebase.report_changesOnly _ false none) (State.reportObserved_changesOnly _))
    (State.resumeQualifier_changesOnly _) (by decide) (by decide)) (State.flagOpen_changesOnly _ _) (by decide)
    (by decide)

theorem State.resumed_changesOnly (s : State) :
    s.changesOnly s.resumed ([.time, .log] ++ qualifierParts) :=
  State.changesOnly_then s.settleTimebase_changesOnly s.resumed_after_settle (by decide) (by decide)

theorem State.resumed_time (s : State) : ∃ held, s.resumed.time = { s.time with timebaseHeld := held } := by
  obtain ⟨held, settled⟩ := s.settleTimebase_time
  exact ⟨held, (s.resumed_after_settle .time (by decide)).trans settled⟩

theorem State.resumed_holds (s : State) : s.resumed.alerts.holds (devicePair .storeOffline) = false := by
  unfold State.resumed
  rw [State.flagOpen_changesOnly _ _ .alerts (by decide), State.holds_resumeQualifier_device,
    State.holds_reportObserved_device, State.holds_report_same]

theorem State.resumed_places (s : State) : s.resumed.log.places = s.log.places := by
  unfold State.resumed
  rw [State.flagOpen_places, State.resumeQualifier_log, State.reportObserved_log, State.report_log,
    State.settleTimebase_places]

/-- Logs with the same places hold segments in the same slots. -/
theorem SegmentLog.inSlot_isSome_of_places {l m : SegmentLog} (h : m.places = l.places) (k : Fin 24) :
    (m.inSlot k).isSome = (l.inSlot k).isSome := by
  have placed (x : SegmentLog) : (x.inSlot k).isSome = true ↔ ∃ p ∈ x.places, p.1 = k := by
    simp [SegmentLog.inSlot, SegmentLog.places]
  rw [Bool.eq_iff_iff, placed, placed, h]

/-! ## The records rewritten (R163) -/

/-- A record of the list is marked, and no other. -/
theorem Store.isChanged_foldl_set (l : List RecordId) (marks : Vector Bool 46) (r : RecordId)
    (h : r ∈ l ∨ marks[r.index] = true) : (l.foldl (fun v r => v.set r.index true) marks)[r.index] = true := by
  induction l generalizing marks with
  | nil => exact h.resolve_left List.not_mem_nil
  | cons q l ih =>
    refine ih _ ?_
    by_cases same : q = r
    · subst same
      exact .inr (by simp)
    · refine h.imp (fun m => (List.mem_cons.mp m).resolve_left (Ne.symm same)) fun marked => ?_
      have other : q.index.val ≠ r.index.val := fun e => same (RecordId.index_injective (Fin.ext e))
      simpa [other] using marked

theorem State.mem_rewriteList {s : State} {r : RecordId}
    (h : ∀ k, r = .slot k → (s.log.inSlot k).isSome = true) : r ∈ s.rewriteList := by
  refine List.mem_filter.mpr ⟨mem_allRecords r, ?_⟩
  cases r with
  | slot k => exact h k rfl
  | account _ | settings | band _ => rfl

/-- The records of the list marked and queued in a READY store (R163). -/
def State.rewriteQueued (s : State) : State :=
  { s with
    store :=
      { s.store with
        state := .ready
        changed := s.rewriteList.foldl (fun v r => v.set r.index true) s.store.changed
        queue := s.rewriteList } }

theorem State.rewriteAll_eq (s : State) : s.rewriteAll = s.rewriteQueued.startIfReady := rfl

theorem State.rewriteQueued_changesOnly (s : State) : s.changesOnly s.rewriteQueued [.store] := by
  intro p hp
  cases p <;> first | rfl | simp at hp

theorem State.rewriteQueued_marks {s : State} {r : RecordId} (listed : r ∈ s.rewriteList) :
    s.rewriteQueued.store.isChanged r = true := by
  unfold Store.isChanged State.rewriteQueued
  dsimp only
  exact Store.isChanged_foldl_set s.rewriteList s.store.changed r (.inl listed)

/-- Every record of the list is marked and covered, and a write begun. -/
theorem State.rewriteAll_store (s : State) :
    s.rewriteAll.store.state = .writing ∧
      ∀ r ∈ s.rewriteList, s.rewriteAll.store.isChanged r = true ∧ s.rewriteAll.store.covered r = true := by
  have listed : RecordId.settings ∈ s.rewriteList := State.mem_rewriteList fun _ => RecordId.noConfusion
  have marks (r : RecordId) (m : r ∈ s.rewriteList) := State.rewriteQueued_marks m
  have ready : s.rewriteQueued.store.state = .ready := rfl
  have queue : s.rewriteQueued.store.queue = s.rewriteList := rfl
  rw [State.rewriteAll_eq]
  generalize s.rewriteQueued = x at *
  obtain ⟨writing, covers⟩ := State.startIfReady_queued ready (queue ▸ listed)
  refine ⟨writing, fun r m => ⟨?_, covers r (queue ▸ m)⟩⟩
  unfold Store.isChanged
  rw [State.startIfReady_changed]
  exact marks r m

theorem State.rewriteAll_changesOnly (s : State) : s.changesOnly s.rewriteAll [.accounts, .store, .engine] :=
  State.changesOnly_then s.rewriteQueued_changesOnly (State.startIfReady_changesOnly _) (by decide) (by decide)

theorem State.takePfw_writing {s : State} (writing : s.store.state = .writing) :
    s.takePfw = { s with store := { s.store with pfwTaken := true } } := by
  simp only [State.takePfw, writing]

/-- With a write in flight a standing PFW only waits (R161). -/
theorem State.startUp_writing {s : State} (writing : s.store.state = .writing) :
    s.startUp =
      { s with
        meter := { s.meter with timer := some periodMs }
        store := { s.store with pfwTaken := s.lines.pfw || s.store.pfwTaken } } := by
  unfold State.startUp
  dsimp only
  rw [State.takePfw_writing (s := { s with meter := { s.meter with timer := some periodMs } }) writing]
  cases s.lines.pfw <;> rfl

/-! ## The end of the reset (R163, R183, R190, R191) -/

/-- The part out of the reset, with the reset record of a check that lost nothing or lost the retained area. -/
def State.resetLeft (s : State) (kind : ResetKind) (lost recordGood : Bool) (at_ cycles : Nat) (straps : Straps) :
    State :=
  (s.leaveReset cycles straps).recordReset kind lost recordGood at_

theorem State.resetLeft_time (s : State) (kind : ResetKind) (lost recordGood : Bool) (at_ cycles : Nat)
    (straps : Straps) :
    (s.resetLeft kind lost recordGood at_ cycles straps).time =
      { s.time with
        inReset := none
        selection := if 72000 ≤ cycles ∧ cycles ≤ 88000 then .crystal else .internalRc
        goodWindows := 0
        subSecondMs := 0
        linger := some 30000
        straps := straps
        resetRecord :=
          { kind := kind
            retentionLost := lost
            warmCount := countAfter kind recordGood s.time.resetRecord.warmCount
            deviceTime := at_ } } := by
  rw [← windowSelection_eq]
  rfl

theorem State.finishReset_resumes {s : State} (kind : ResetKind) (recordGood : Bool) (cycles : Nat) (straps : Straps)
    (loaded : s.store.isLoading = false) :
    s.finishReset { kind := kind, spoiled := false } true recordGood cycles straps =
      (s.resetLeft kind false recordGood s.time.deviceTime cycles straps).resumeRetained := by
  unfold Store.isLoading at loaded
  unfold State.finishReset
  cases state : s.store.state with
  | loading kind =>
    rw [state] at loaded
    cases loaded
  | ready | writing | flushing | offline => rfl

/-- The load a reset goes on into: the one it interrupted, or that of a failed check (R190). -/
def StoreState.loadAfter : StoreState → LoadKind
  | .loading kind => kind
  | .ready | .writing | .flushing | .offline => .failedCheck

theorem State.finishReset_reloads {s : State} {r : ResetInProgress} {good : Bool} (recordGood : Bool) (cycles : Nat)
    (straps : Straps) (h : good = false ∨ r.spoiled = true ∨ s.store.isLoading = true) :
    s.finishReset r good recordGood cycles straps =
      (s.resetLeft r.kind true recordGood s.time.resetRecord.deviceTime cycles straps).reload
        s.store.state.loadAfter := by
  unfold Store.isLoading at h
  unfold State.finishReset
  cases state : s.store.state with
  | loading kind => rfl
  | ready | writing | flushing | offline =>
    have bad : (good && !r.spoiled) = false := by
      rw [state] at h
      rcases h with h | h | h
      · rw [h, Bool.false_and]
      · rw [h, Bool.not_true, Bool.and_false]
      · cases h
    dsimp only
    rw [bad]
    rfl

theorem exec_resetEnd {s : State} {r : ResetInProgress} (good recordGood : Bool) (cycles : Nat) (straps : Straps)
    (resetting : s.time.inReset = some r) :
    exec (.resetEnd good recordGood cycles straps) s =
      .next (s.finishReset r good recordGood cycles straps) := by
  show execResetEnd good recordGood cycles straps s = _
  unfold execResetEnd
  rw [resetting]

/-- After a good check the blocks resume and the store rewrites what the log still holds. -/
theorem State.resumeRetained_effect (s : State) :
    (∃ held, s.resumeRetained.time = { s.time with timebaseHeld := held }) ∧
      s.resumeRetained.meter.timer = some 100 ∧ s.resumeRetained.store.state = .writing ∧
      s.resumeRetained.bands = s.bands ∧ s.resumeRetained.settings = s.settings ∧
      (∀ r, (∀ k, r = .slot k → (s.log.inSlot k).isSome = true) →
        s.resumeRetained.store.isChanged r = true ∧ s.resumeRetained.store.covered r = true) ∧
      (∀ e, s.resumeRetained.log.openEntry = some e → e.seg.flags.warmReset = true) ∧
      s.resumeRetained.alerts.holds (devicePair .storeOffline) = false := by
  have taken := s.resumed_changesOnly
  have flagged (e : LogEntry) (found : s.resumed.log.openEntry = some e) : e.seg.flags.warmReset = true :=
    State.flagOpen_sets _ (P := fun f => f.warmReset = true) (fun _ => rfl) e found
  have time := s.resumed_time
  have holds := s.resumed_holds
  have places := s.resumed_places
  rw [State.resumeRetained_eq]
  generalize s.resumed = x at *
  obtain ⟨writing, rewritten⟩ := x.rewriteAll_store
  have rest := x.rewriteAll_changesOnly
  generalize x.rewriteAll = y at *
  have sameTime : y.time = x.time := rest .time (by decide)
  have sameLog : y.log = x.log := rest .log (by decide)
  have sameAlerts : y.alerts = x.alerts := rest .alerts (by decide)
  rw [State.startUp_writing writing]
  refine ⟨sameTime ▸ time, rfl, writing, ?_, ?_, fun r held => ?_, fun e found => flagged e (sameLog ▸ found),
    sameAlerts ▸ holds⟩
  · exact (rest .bands (by decide)).trans (taken .bands (by decide))
  · exact (rest .settings (by decide)).trans (taken .settings (by decide))
  · refine rewritten r (State.mem_rewriteList fun k same => ?_)
    rw [SegmentLog.inSlot_isSome_of_places places]
    exact held k same

/-- Settles O56: by the check, the blocks resume on what was retained, or the store loads its records anew. -/
theorem resetEndFollowsCheck : Obligations.ResetEndFollowsCheck := by
  refine ⟨fun s kind recordGood cycles straps resetting warm loaded idle => ?_,
    fun s r good recordGood cycles straps resetting bad => ?_⟩
  · have run := exec_resetEnd true recordGood cycles straps resetting
    rw [State.finishReset_resumes kind recordGood cycles straps loaded] at run
    obtain ⟨⟨held, time⟩, timer, state, bands, settings, rewritten, flagged, online⟩ :=
      (s.resetLeft kind false recordGood s.time.deviceTime cycles straps).resumeRetained_effect
    rw [State.resetLeft_time] at time
    refine ⟨_, run, ?_⟩
    rw [time]
    refine ⟨rfl, rfl, rfl, rfl, rfl, rfl, rfl, timer, ?_, state, bands, settings, rewritten, flagged, online⟩
    cases kind with
    | cold => exact absurd rfl warm
    | warm | commanded => rfl
  · have run := exec_resetEnd good recordGood cycles straps resetting
    rw [State.finishReset_reloads recordGood cycles straps bad] at run
    refine ⟨_, run, ?_, rfl, rfl, ?_, ?_⟩
    · show Store.mk .. = _
      unfold StoreState.loadAfter
      cases s.store.state <;> rfl
    · have left := s.resetLeft_time r.kind true recordGood s.time.resetRecord.deviceTime cycles straps
      show { State.time _ with timebaseHeld := false } = _
      rw [left]
      obtain ⟨kind, spoiled⟩ := r
      cases kind <;> rfl
    · intro p hp
      cases p <;> first | rfl | simp at hp

end Sys2Proof.Machine
end

section
/-! PROOFS. The three checkpoints (O37): CHECKPOINT, the key-off and the checkpoint timer each cover what has changed. -/

namespace Sys2Proof.Machine

/-! ## A bulk enqueue where the store can write (R155) -/

theorem State.bulkEnqueue_covers {s : State} (d : s.defers) {rs : List RecordId} {r : RecordId} (named : r ∈ rs)
    (changed : s.store.isChanged r = true) : (s.bulkEnqueue rs).store.covered r = true := by
  rcases d with ⟨ready, -, idle⟩ | ⟨writing, -⟩
  · exact s.bulkEnqueue_covers_ready rs r ready idle named changed
  · exact s.bulkEnqueue_covers_writing rs r writing named changed

/-- A bulk enqueue changes no mark. -/
theorem State.bulkEnqueue_isChanged (s : State) (rs : List RecordId) (r : RecordId) :
    (s.bulkEnqueue rs).store.isChanged r = s.store.isChanged r := by
  unfold Store.isChanged State.bulkEnqueue
  rw [State.startIfReady_changed]

theorem State.nextWrite_checkpointMs (s : State) : s.nextWrite.store.checkpointMs = s.store.checkpointMs := by
  unfold State.nextWrite
  split
  · rfl
  · exact State.startWrite_checkpointMs _ _

theorem State.bulkEnqueue_checkpointMs (s : State) (rs : List RecordId) :
    (s.bulkEnqueue rs).store.checkpointMs = s.store.checkpointMs := by
  unfold State.bulkEnqueue State.startIfReady
  split
  · exact State.nextWrite_checkpointMs _
  all_goals rfl

theorem State.checkpointEnqueue_defers {s : State} (d : s.defers) (rs : List RecordId) :
    s.checkpointEnqueue rs = s.bulkEnqueue rs := by
  unfold State.checkpointEnqueue
  rcases d with ⟨state, -⟩ | ⟨state, -⟩ <;> rw [state]

/-! ## CHECKPOINT (R158) -/

/-- Where the store can write, CHECKPOINT is answered at once or waits for what its enqueue leaves to write. -/
theorem State.handleCheckpoint_defers {s : State} (d : s.defers) :
    s.handleCheckpoint =
      if s.store.changedRecords = [] then .refusal s .ok
      else .deferred (s.bulkEnqueue allRecords) (s.bulkEnqueue allRecords).store.checkpointWaits [] := by
  unfold State.handleCheckpoint
  rcases d with ⟨state, -⟩ | ⟨state, -⟩ <;> rw [state] <;> simp only [List.isEmpty_iff]

/-- CHECKPOINT of a slot that has the right becomes its owning block's answer. -/
theorem exec_checkpoint {s : State} {slot : SlotIx} (ops : List Byte) (office : isOffice slot = true)
    (hears : s.hears slot) :
    exec (.checkpoint slot ops) s = .next (s.restartLinger.handleCheckpoint.conclude slot 0x50#8 ops) :=
  exec_permitted (q := .checkpoint) rfl rfl hears office rfl

theorem exec_checkpoint_refused {s : State} {slot : SlotIx} {o : ReqOutcome} (ops : List Byte)
    (office : isOffice slot = true) (hears : s.hears slot) (room : s.port.hasRoom = true)
    (refused : s.restartLinger.handleCheckpoint = .refusal s.restartLinger o) :
    exec (.checkpoint slot ops) s = .next (s.responded slot 0x50#8 o []) :=
  exec_permitted_refused (q := .checkpoint) rfl rfl hears office rfl room refused

/-! ## The key-off and the checkpoint timer (R158, R185) -/

/-- IGN released. -/
def State.keyedOff (s : State) : State := { s with lines := { s.lines with ign := false } }

theorem State.keyedOff_changesOnly (s : State) : s.changesOnly s.keyedOff [.lines] := by
  intro p hp
  cases p <;> first | rfl | simp at hp

theorem exec_keyOff {s : State} (active : s.isActive = true) (d : s.defers) (ign : s.lines.ign = true) :
    exec .keyOff s = .next (s.keyedOff.bulkEnqueue allRecords).restartLinger := by
  rw [← State.checkpointEnqueue_defers (s := s.keyedOff) d]
  show execKeyOff s = _
  unfold execKeyOff
  dsimp only
  rw [if_pos ign, if_pos active]
  rfl

/-- The checkpoint timer started again from zero. -/
def State.checkpointTimed (s : State) : State := { s with store := { s.store with checkpointMs := 0 } }

theorem State.checkpointTimed_changesOnly (s : State) : s.changesOnly s.checkpointTimed [.store] := by
  intro p hp
  cases p <;> first | rfl | simp at hp

theorem exec_periodicCheckpoint {s : State} (active : s.isActive = true) (d : s.defers) :
    exec .periodicCheckpoint s = .next (s.checkpointTimed.bulkEnqueue accountRecords) := by
  rw [← State.checkpointEnqueue_defers (s := s.checkpointTimed) d]
  show execPeriodicCheckpoint s = _
  unfold execPeriodicCheckpoint
  rw [if_pos active]
  rfl

/-- Settles O37: each of the three is a bulk enqueue, which covers every changed record it names. -/
theorem checkpointsCoverEveryChange : Obligations.CheckpointsCoverEveryChange := by
  refine ⟨fun s slot ops office hears d room => ?_, fun s active d => ⟨fun ign => ?_, ?_⟩⟩
  · have handled := State.handleCheckpoint_defers (s := s.restartLinger) d
    by_cases none_ : s.store.changedRecords = []
    · exact ⟨_, exec_checkpoint_refused ops office hears room (handled.trans (if_pos none_)), by rw [if_pos none_]⟩
    · have run := exec_checkpoint ops office hears
      rw [handled.trans (if_neg none_)] at run
      refine ⟨_, run, ?_⟩
      rw [if_neg none_]
      refine ⟨fun r changed => ⟨?_, ?_⟩, State.inFlight_setInFlight_same _ slot _, ?_⟩
      · exact (s.restartLinger.bulkEnqueue_isChanged allRecords r).trans changed
      · exact State.bulkEnqueue_covers (s := s.restartLinger) d (mem_allRecords r) changed
      · exact State.changesOnly_then s.restartLinger_changesOnly
          (State.changesOnly_then (rs := [.accounts, .store, .engine]) (State.bulkEnqueue_changesOnly _ allRecords)
            (State.setInFlight_changesOnly _ slot _) (by decide) (by decide)) (by decide) (by decide)
  · have enqueued := s.keyedOff.bulkEnqueue_changesOnly allRecords
    refine ⟨_, exec_keyOff active d ign, enqueued .lines (by decide), ?_, fun r changed => ?_, ?_⟩
    · exact congrArg (fun time : TimeBase => { time with linger := some lingerMs }) (enqueued .time (by decide))
    · exact State.bulkEnqueue_covers (s := s.keyedOff) d (mem_allRecords r) changed
    · exact State.changesOnly_then (State.changesOnly_then (rs := [.lines, .accounts, .store, .engine])
        s.keyedOff_changesOnly enqueued (by decide) (by decide)) (State.restartLinger_changesOnly _) (by decide)
        (by decide)
  · refine ⟨_, exec_periodicCheckpoint active d, State.bulkEnqueue_checkpointMs _ _, fun i changed => ?_,
      State.changesOnly_then s.checkpointTimed_changesOnly (State.bulkEnqueue_changesOnly _ accountRecords) (by decide)
        (by decide)⟩
    exact State.bulkEnqueue_covers (s := s.checkpointTimed) d (List.mem_map_of_mem (List.mem_finRange i)) changed

end Sys2Proof.Machine
end

section
/-! PROOFS. A write that fails (O53): the first fault queues its record again, a second takes the store OFFLINE. -/

namespace Sys2Proof.Machine

/-! ## Responses released VOLATILE (R160) -/

/-- A slot's response waits for record writes. -/
def ClientSlot.isWaiting (c : ClientSlot) : Prop :=
  ∃ q waits payload, c.inFlight = some q ∧ q.phase = .waiting waits payload

theorem State.offer_slot_same (s : State) (k : SlotIx) (kind : Byte) (ops : List Byte) (f : Frame) :
    ¬(s.offer k kind ops f).engine.slots[k].isWaiting := by
  rintro ⟨q, waits, payload, flying, phase⟩
  unfold State.offer at flying
  split at flying
  · rw [State.inFlight_setInFlight_same] at flying
    cases flying
  · rw [State.inFlight_setInFlight_same] at flying
    cases flying
    cases phase

theorem State.offer_slot_other (s : State) {j k : SlotIx} (kind : Byte) (ops : List Byte) (f : Frame) (h : j ≠ k) :
    (s.offer j kind ops f).engine.slots[k] = s.engine.slots[k] := by
  unfold State.offer
  split <;> exact State.slot_setInFlight_other _ _ h

/-- A released slot waits for nothing. -/
theorem State.releaseSlot_same (s : State) (k : SlotIx) (o : ReqOutcome) :
    ¬(s.releaseSlot k o).engine.slots[k].isWaiting := by
  unfold State.releaseSlot
  cases flying : s.engine.slots[k].inFlight with
  | none =>
    rintro ⟨q, waits, payload, waiting, -⟩
    rw [flying] at waiting
    cases waiting
  | some q =>
    dsimp only
    cases phase : q.phase with
    | waiting waits payload => exact s.offer_slot_same k _ _ _
    | held f =>
      rintro ⟨p, waits, payload, waiting, other⟩
      rw [flying] at waiting
      cases waiting
      rw [phase] at other
      cases other

theorem State.releaseSlot_other (s : State) {j k : SlotIx} (o : ReqOutcome) (h : j ≠ k) :
    (s.releaseSlot j o).engine.slots[k] = s.engine.slots[k] := by
  unfold State.releaseSlot
  split
  · split
    · exact s.offer_slot_other _ _ _ h
    · rfl
  · rfl

theorem State.releaseVolatile_slot (s : State) (k : SlotIx) : ¬s.releaseVolatile.engine.slots[k].isWaiting := by
  have each (l : List SlotIx) (x : State) (h : k ∈ l ∨ ¬x.engine.slots[k].isWaiting) :
      ¬(l.foldl (fun x i => x.releaseSlot i .volatileDone) x).engine.slots[k].isWaiting := by
    induction l generalizing x with
    | nil => exact h.resolve_left List.not_mem_nil
    | cons j l ih =>
      refine ih _ ?_
      by_cases same : j = k
      · subst same
        exact .inr (x.releaseSlot_same j _)
      · rw [x.releaseSlot_other _ same]
        exact h.imp_left fun m => (List.mem_cons.mp m).resolve_left (Ne.symm same)
  exact each _ s (.inl (mem_allSlots k))

theorem State.releaseVolatile_resetDue (s : State) : s.releaseVolatile.engine.resetDue = s.engine.resetDue := by
  have each (l : List SlotIx) (x : State) :
      (l.foldl (fun x i => x.releaseSlot i .volatileDone) x).engine.resetDue = x.engine.resetDue := by
    induction l generalizing x with
    | nil => rfl
    | cons k l ih => exact (ih _).trans (x.releaseSlot_resetDue k _)
  exact each _ s

/-! ## The first fault (R159) -/

theorem State.imageLost_changesOnly (s : State) (w : Write) : s.changesOnly (s.imageLost w) [.store, .engine] := by
  intro p hp
  cases p <;> first | rfl | simp at hp

/-- The record BAD, and STORE_FAULT raised for it. -/
def State.faultRaised (s : State) (w : Write) : State :=
  (s.imageLost w).raiseEvent (devicePair .storeFault) (some (byteOf w.record.number))

theorem State.faultRaised_changesOnly (s : State) (w : Write) :
    s.changesOnly (s.faultRaised w) [.port, .alerts, .store, .engine] :=
  State.changesOnly_then (s.imageLost_changesOnly w) (State.raiseEvent_changesOnly _ _ _) (by decide) (by decide)

theorem State.faultRaised_entry (s : State) (w : Write) :
    ∃ e, (s.faultRaised w).alerts.entry (devicePair .storeFault) = some e ∧
      e.parameter = some (byteOf w.record.number) := by
  obtain ⟨e, stands, parameter, -⟩ :=
    (s.imageLost w).alerts.entry_raise_same (devicePair .storeFault) (some (byteOf w.record.number)) s.time.deviceTime
  exact ⟨e, stands, parameter⟩

/-- A completion with a fault by the STORE_FAULT entry that stands (R159). -/
theorem State.completeFault_eq (s : State) (w : Write) :
    s.completeFault w =
      match s.alerts.entry (devicePair .storeFault) with
      | none => (s.imageLost w).firstFault w.record
      | some _ => (s.imageLost w).goOffline w.record := rfl

/-- STORE_FAULT raised, and the record queued again. -/
def State.requeued (s : State) (w : Write) : State :=
  { s.faultRaised w with store := (s.imageLost w).store.append w.record }

/-- A first fault queues the record again, unless a flush is under way or waits. -/
theorem State.completeFault_first {s : State} {w : Write} (none_ : s.alerts.entry (devicePair .storeFault) = none) :
    s.completeFault w = if s.store.pfwTaken || s.store.state == .flushing then s.faultRaised w else s.requeued w := by
  rw [State.completeFault_eq, none_]
  rfl

theorem State.requeued_changesOnly (s : State) (w : Write) :
    s.changesOnly (s.requeued w) [.port, .alerts, .store, .engine] := by
  refine State.changesOnly_then (s.faultRaised_changesOnly w) (qs := [.store]) ?_ (by decide) (by decide)
  intro p hp
  cases p <;> first | rfl | simp at hp

/-- A record appended with nothing in flight is queued. -/
theorem Store.mem_append_idle {st : Store} (r : RecordId) (idle : st.inFlight = none) : r ∈ (st.append r).queue := by
  have covered := st.append_covers r
  unfold Store.covered Store.inFlightCovers at covered
  rw [(st.append_stands r).2, idle, Bool.or_false] at covered
  exact List.contains_iff_mem.mp covered

/-- What requeueing leaves of the store. -/
theorem State.requeued_store (s : State) (w : Write) :
    (s.requeued w).store.state = s.store.state ∧ w.record ∈ (s.requeued w).store.queue ∧
      (s.requeued w).store.array = s.store.array.set w.record.index .bad ∧
      (s.requeued w).store.changed = s.store.changed :=
  ⟨((s.imageLost w).store.append_stands w.record).1, Store.mem_append_idle w.record rfl, Store.append_array _ _,
    Store.append_changed _ _⟩

/-! ## The second fault (R160) -/

theorem State.completeFault_second {s : State} {w : Write} {e : AlertEntry}
    (stands : s.alerts.entry (devicePair .storeFault) = some e) :
    s.completeFault w = (s.imageLost w).goOffline w.record := by
  rw [State.completeFault_eq, stands]

/-- From s to t a second fault took the store OFFLINE. -/
structure State.offlineFrom (s t : State) (w : Write) : Prop where
  store : t.store =
    { s.store with
      state := .offline
      array := s.store.array.set w.record.index .bad
      queue := []
      inFlight := none
      flushList := [] }
  entry : ∃ e, t.alerts.entry (devicePair .storeFault) = some e ∧ e.parameter = some (byteOf w.record.number)
  holds : t.alerts.holds (devicePair .storeOffline) = true
  released : ∀ k : SlotIx, ¬t.engine.slots[k].isWaiting
  resetDue : t.engine.resetDue = s.engine.resetDue
  changes : s.changesOnly t [.port, .alerts, .store, .engine]

theorem State.completeFault_offline {s : State} (w : Write)
    (stands : (s.alerts.entry (devicePair .storeFault)).isSome = true) : s.offlineFrom (s.completeFault w) w := by
  obtain ⟨e, stands⟩ := Option.isSome_iff_exists.mp stands
  have told := (s.faultRaised w).report_changesOnly (devicePair .storeOffline) true none
  have entry := (s.faultRaised w).entry_report_other (p := devicePair .storeOffline) (q := devicePair .storeFault) true
    none (by decide)
  have holds := (s.faultRaised w).holds_report_same (devicePair .storeOffline) true none
  have gone : s.completeFault w =
      State.releaseVolatile
        { (s.faultRaised w).report (devicePair .storeOffline) true none with
          store := { (s.imageLost w).store with state := .offline, queue := [], flushList := [] } } :=
    State.completeFault_second stands
  have changed : s.changesOnly ((s.faultRaised w).report (devicePair .storeOffline) true none)
      [.port, .alerts, .store, .engine] :=
    State.changesOnly_then (s.faultRaised_changesOnly w) told (by decide) (by decide)
  have due : ((s.faultRaised w).report (devicePair .storeOffline) true none).engine.resetDue = s.engine.resetDue := rfl
  rw [gone]
  generalize (s.faultRaised w).report (devicePair .storeOffline) true none = x at *
  have emptied : x.changesOnly
      { x with store := { (s.imageLost w).store with state := .offline, queue := [], flushList := [] } } [.store] := by
    intro p hp
    cases p <;> first | rfl | simp at hp
  have volatile_ := State.releaseVolatile_changesOnly
    { x with store := { (s.imageLost w).store with state := .offline, queue := [], flushList := [] } }
  obtain ⟨raised, stands, parameter⟩ := s.faultRaised_entry w
  refine ⟨volatile_ .store (by decide), ⟨raised, ?_, parameter⟩, ?_, State.releaseVolatile_slot _,
    (State.releaseVolatile_resetDue _).trans due, ?_⟩
  · rw [volatile_ .alerts (by decide)]
    exact entry.trans stands
  · rw [volatile_ .alerts (by decide)]
    exact holds
  · exact State.changesOnly_then (State.changesOnly_then (rs := [.port, .alerts, .store, .engine]) changed emptied
      (by decide) (by decide)) volatile_ (by decide) (by decide)

/-! ## The completion (R159, R160) -/

theorem exec_writeCompletion {s : State} {w : Write} (faulted : Bool) (flying : s.store.inFlight = some w) :
    exec (.writeCompletion faulted) s = .next (s.writeDone w faulted) := by
  show execWriteCompletion faulted s = _
  unfold execWriteCompletion
  rw [flying]

theorem State.writeDone_faulted (s : State) (w : Write) :
    s.writeDone w true = (s.completeFault w).afterWrite s.store := rfl

/-- With IGN asserted a store that went OFFLINE while WRITING leaves the part as it is. -/
theorem State.afterWrite_offline_keyed {s : State} {before : Store} (due : s.engine.resetDue = false)
    (offline : s.store.state = .offline) (writing : before.state = .writing) (taken : before.pfwTaken = false)
    (ign : s.lines.ign = true) : s.afterWrite before = s := by
  unfold State.afterWrite
  rw [if_neg (by rw [due]; decide), offline]
  dsimp only
  rw [if_neg (by rw [writing]; decide), if_neg (by rw [taken]; decide), State.parkCheck_keyed ign]

theorem State.nextWrite_writing {s : State} {r : RecordId} (queued : r ∈ s.store.queue) :
    s.nextWrite.store.state = .writing := by
  cases queue : s.store.queue with
  | nil =>
    rw [queue] at queued
    cases queued
  | cons q rest =>
    rw [State.nextWrite_cons queue]
    exact State.startWrite_state _ q

/-- Settles O53: by the STORE_FAULT entry, the write is queued anew and the next one begun, or the store given up. -/
theorem writeFaultRequeuesOrGoesOffline : Obligations.WriteFaultRequeuesOrGoesOffline := by
  intro s w flying writing taken due ign
  have run := exec_writeCompletion true flying
  cases stands : s.alerts.entry (devicePair .storeFault) with
  | none =>
    have queued : s.completeFault w = s.requeued w :=
      (State.completeFault_first stands).trans (if_neg (by rw [taken, writing]; decide))
    have changed := s.requeued_changesOnly w
    have next := (s.requeued w).nextWrite_changesOnly
    obtain ⟨state, listed, array, marks⟩ := s.requeued_store w
    obtain ⟨e, raised, parameter⟩ := s.faultRaised_entry w
    rw [State.writeDone_faulted, queued, State.afterWrite_writing (s := s.requeued w) due (state.trans writing) taken
      ((congrArg Lines.ign (changed .lines (by decide))).trans ign)] at run
    exact ⟨_, e, run, (State.nextWrite_array _).trans array, (State.nextWrite_changed _).trans marks,
      (congrArg (AlertUnit.entry · _) (next .alerts (by decide))).trans raised, parameter,
      State.changesOnly_then changed next (by decide) (by decide), State.nextWrite_writing listed,
      State.nextWrite_covers _ _ listed⟩
  | some before =>
    have gone := State.completeFault_offline w (by rw [stands]; rfl)
    rw [State.writeDone_faulted, State.afterWrite_offline_keyed (gone.resetDue.trans due) (by rw [gone.store]) writing taken
      ((congrArg Lines.ign (gone.changes .lines (by decide))).trans ign)] at run
    obtain ⟨e, raised, parameter⟩ := gone.entry
    refine ⟨_, e, run, by rw [gone.store], by rw [gone.store], raised, parameter,
      State.changesOnly_mono gone.changes (by decide), by rw [gone.store], by rw [gone.store], by rw [gone.store],
      gone.holds, fun k q waiting waits payload phase => gone.released k ⟨q, waits, payload, waiting, phase⟩⟩

end Sys2Proof.Machine
end

section
/-! PROOFS. The power-fail flush (O54), first part: PFW asserted and released. -/

namespace Sys2Proof.Machine

/-! ## DORMANT (R188) -/

/-- From s to t the part entered DORMANT: its timers stopped, a pending reset abandoned, its store as it was. -/
structure State.sleeps (s t : State) : Prop where
  mode : t.time.mode = .dormant
  linger : t.time.linger = none
  timer : t.meter.timer = none
  pendingReset : t.engine.resetPending = false
  store : t.store = s.store
  changes : s.changesOnly t [.time, .meter, .engine, .qualifier, .alerts, .port]

theorem State.enterDormant_sleeps (s : State) : s.sleeps s.enterDormant := by
  have stopped := State.stopQualifier_changesOnly
    { s with
      time := { s.time with mode := .dormant, linger := none }
      meter := { s.meter with timer := none }
      engine := { s.engine with resetPending := false } }
  exact
    { mode := congrArg TimeBase.mode (stopped .time (by decide))
      linger := congrArg TimeBase.linger (stopped .time (by decide))
      timer := congrArg Meter.timer (stopped .meter (by decide))
      pendingReset := congrArg RequestEngine.resetPending (stopped .engine (by decide))
      store := stopped .store (by decide)
      changes := s.enterDormant_changesOnly }

/-- In DORMANT with nothing in flight and nothing left to write, no timer runs and no request pends. -/
theorem State.sleeps.dormant {s t : State} (asleep : s.sleeps t) (idle : s.store.inFlight = none)
    (queue : s.store.queue = []) (list : s.store.flushList = []) :
    t.store.inFlight = none ∧ t.store.queue = [] ∧ t.store.flushList = [] ∧ t.time.mode = .dormant ∧
      t.time.linger = none ∧ t.meter.timer = none ∧ t.engine.resetPending = false := by
  rw [asleep.store]
  exact ⟨idle, queue, list, asleep.mode, asleep.linger, asleep.timer, asleep.pendingReset⟩

/-! ## The writes of the flush (R161) -/

@[simp] theorem State.startWrite_flushList (s : State) (r : RecordId) :
    (s.startWrite r).store.flushList = s.store.flushList := by
  cases r <;> rfl

@[simp] theorem State.startWrite_pfwReleased (s : State) (r : RecordId) :
    (s.startWrite r).store.pfwReleased = s.store.pfwReleased := by
  cases r <;> rfl

/-- From s to t the flush began the write of account i, with the rest of its list to come. -/
structure State.flushes (s t : State) (i : AccountIx) (rest : List AccountIx) : Prop where
  state : t.store.state = .flushing
  queue : t.store.queue = []
  list : t.store.flushList = rest
  write : ∃ x, t.store.inFlight = some x ∧ x.record = .account i ∧ x.dirty = false
  array : t.store.array = s.store.array
  changed : t.store.changed = s.store.changed
  changes : s.changesOnly t [.accounts, .store, .engine]

theorem State.flushNext_flushes {s : State} {i : AccountIx} {rest : List AccountIx}
    (flushing : s.store.state = .flushing) (queue : s.store.queue = []) (list : s.store.flushList = i :: rest) :
    s.flushes s.flushNext i rest ∧ s.flushNext.store.pfwReleased = s.store.pfwReleased := by
  have shortened : s.changesOnly { s with store := { s.store with flushList := rest } } [.store] := by
    intro p hp
    cases p <;> first | rfl | simp at hp
  rw [s.flushNext_next list]
  exact
    ⟨{ state := (State.startWrite_state _ _).trans flushing
       queue := (State.startWrite_queue _ _).trans queue
       list := State.startWrite_flushList _ _
       write := ⟨_, State.startWrite_inFlight _ _, rfl, rfl⟩
       array := State.startWrite_array _ _
       changed := State.startWrite_changed _ _
       changes := State.changesOnly_then shortened (State.startWrite_changesOnly _ _) (by decide) (by decide) },
      State.startWrite_pfwReleased _ _⟩

/-- The queue discarded and the flush list fixed (R161). -/
def State.flushFixed (s : State) : State :=
  { s with
    store :=
      { s.store with
        state := .flushing
        queue := []
        flushList := s.store.changedAccounts
        pfwTaken := false
        pfwReleased := false } }

theorem State.startFlush_eq (s : State) : s.startFlush = s.flushFixed.flushNext := rfl

theorem State.flushFixed_changesOnly (s : State) : s.changesOnly s.flushFixed [.store] := by
  intro p hp
  cases p <;> first | rfl | simp at hp

/-- A flush that has something to write begins its first write. -/
theorem State.startFlush_flushes {s : State} {i : AccountIx} {rest : List AccountIx}
    (list : s.store.changedAccounts = i :: rest) : s.flushes s.startFlush i rest := by
  obtain ⟨begun, -⟩ := State.flushNext_flushes (s := s.flushFixed) rfl rfl list
  exact
    { begun with
      changes := State.changesOnly_then s.flushFixed_changesOnly begun.changes (by decide) (by decide) }

/-- A flush with nothing to write ends at once. -/
theorem State.startFlush_sleeps {s : State} (list : s.store.changedAccounts = []) :
    s.flushFixed.sleeps s.startFlush := by
  rw [State.startFlush_eq, State.flushNext_done _ list rfl]
  exact State.enterDormant_sleeps _

/-! ## PFW asserted (R161) -/

/-- The level of PFW changed. -/
def State.pfwAt (s : State) (level : Bool) : State := { s with lines := { s.lines with pfw := level } }

theorem State.pfwAt_changesOnly (s : State) (level : Bool) : s.changesOnly (s.pfwAt level) [.lines] := by
  intro p hp
  cases p <;> first | rfl | simp at hp

theorem exec_pfwAsserted {s : State} (low : s.lines.pfw = false) :
    exec .pfwAsserted s =
      .next (if s.time.inReset = none ∧ s.time.mode ≠ .dormant then (s.pfwAt true).takePfw else s.pfwAt true) := by
  show execPfwAsserted s = _
  simp [execPfwAsserted, low, State.pfwAt]

/-- An assertion taken by the store outside a reset and DORMANT. -/
theorem exec_pfwAsserted_taken {s : State} (low : s.lines.pfw = false) (outside : s.time.inReset = none)
    (awake : s.time.mode ≠ .dormant) : exec .pfwAsserted s = .next (s.pfwAt true).takePfw := by
  rw [exec_pfwAsserted low, if_pos ⟨outside, awake⟩]

theorem State.takePfw_ready {s : State} (ready : s.store.state = .ready) : s.takePfw = s.startFlush := by
  simp only [State.takePfw, ready]

theorem State.takePfw_offline {s : State} (offline : s.store.state = .offline) : s.takePfw = s.enterDormant := by
  simp only [State.takePfw, offline]

theorem State.takePfw_flushing {s : State} (flushing : s.store.state = .flushing) : s.takePfw = s := by
  simp only [State.takePfw, flushing]

theorem State.takePfw_loading {s : State} {kind : LoadKind} (loading : s.store.state = .loading kind) :
    s.takePfw = s := by
  simp only [State.takePfw, loading]

/-! ## PFW released (R161, R162, R188) -/

theorem exec_pfwReleased {s : State} (high : s.lines.pfw = true) :
    exec .pfwReleased s =
      .next
        (if s.time.inReset.isSome then s.pfwAt false
        else if s.time.mode = .dormant then (s.pfwAt false).beginReset .warm false
        else (s.pfwAt false).dropPfw) := by
  show execPfwReleased s = _
  simp [execPfwReleased, high, State.pfwAt]

theorem State.dropPfw_store (s : State) :
    s.dropPfw =
      { s with
        store :=
          match s.store.state with
          | .flushing => { s.store with pfwReleased := true }
          | .writing => { s.store with pfwTaken := false }
          | .loading _ | .ready | .offline => s.store } := by
  unfold State.dropPfw
  cases s.store.state <;> rfl

theorem State.beginReset_inReset_none {s : State} (kind : ResetKind) (spoiled : Bool)
    (outside : s.time.inReset = none) :
    (s.beginReset kind spoiled).time.inReset = some { kind := kind, spoiled := spoiled } := by
  show some (ResetInProgress.mk kind (spoiled || (s.time.inReset.map ResetInProgress.spoiled).getD false)) = _
  rw [outside]
  exact congrArg (fun x => some (ResetInProgress.mk kind x)) (Bool.or_false spoiled)

end Sys2Proof.Machine
end

section
/-! PROOFS. The power-fail flush (O54), second part: the completion of a write around a flush, and the statement. -/

namespace Sys2Proof.Machine

/-! ## The completion before a flush, and in one (R156, R159, R161) -/

/-- The mark a completion leaves of record r. -/
def Store.leftChanged (st : Store) (w : Write) (faulted : Bool) (r : RecordId) : Bool :=
  st.isChanged r && (faulted || w.dirty || w.record != r)

/-- The state as the completion leaves it, before the store goes on. -/
def State.completed (s : State) (w : Write) (faulted : Bool) : State :=
  if faulted then s.completeFault w else s.completeGood w

theorem State.writeDone_completed (s : State) (w : Write) (faulted : Bool) :
    s.writeDone w faulted = (s.completed w faulted).afterWrite s.store := rfl

/-- From s to t a write completed without taking the store OFFLINE, and nothing was queued for it. -/
structure State.landsWith (s t : State) (w : Write) (faulted : Bool) : Prop where
  state : t.store.state = s.store.state
  queue : t.store.queue = s.store.queue
  flushList : t.store.flushList = s.store.flushList
  pfwReleased : t.store.pfwReleased = s.store.pfwReleased
  idle : t.store.inFlight = none
  array : t.store.array = s.store.array.set w.record.index (if faulted then .bad else .whole w.image)
  changed : ∀ r, t.store.isChanged r = s.store.leftChanged w faulted r
  resetDue : t.engine.resetDue = s.engine.resetDue
  changes : s.changesOnly t [.port, .bands, .alerts, .store, .engine]

theorem Store.leftChanged_faulted (st : Store) (w : Write) (r : RecordId) :
    st.leftChanged w true r = st.isChanged r := by
  simp [Store.leftChanged]

theorem State.completeGood_landsWith (s : State) (w : Write) : s.landsWith (s.completeGood w) w false := by
  have written := s.completeGood_written w
  refine ⟨?_, ?_, ?_, ?_, ?_, ?_, fun r => ?_, written.resetDue, State.changesOnly_mono written.changes (by decide)⟩
  case refine_7 =>
    have marks : (s.completeGood w).store.isChanged r = (s.imageStored w).store.isChanged r := by
      rw [written.store]
      rfl
    rw [marks, State.imageStored_isChanged, Store.leftChanged]
    by_cases same : r = w.record
    · subst same
      simp [Bool.and_comm]
    · simp [same, Ne.symm same]
  all_goals
    rw [written.store]
    rfl

theorem State.faultRaised_landsWith (s : State) (w : Write) : s.landsWith (s.faultRaised w) w true where
  state := rfl
  queue := rfl
  flushList := rfl
  pfwReleased := rfl
  idle := rfl
  array := rfl
  changed r := (s.store.leftChanged_faulted w r).symm
  resetDue := rfl
  changes := State.changesOnly_mono (s.faultRaised_changesOnly w) (by decide)

/-- A good completion, or a first fault with a flush waiting or under way. -/
theorem State.completed_landsWith {s : State} {w : Write} {faulted : Bool}
    (first : faulted = true → s.alerts.entry (devicePair .storeFault) = none)
    (flush : s.store.pfwTaken = true ∨ s.store.state = .flushing) : s.landsWith (s.completed w faulted) w faulted := by
  cases faulted with
  | false => exact s.completeGood_landsWith w
  | true =>
    have raised : s.completed w true = s.faultRaised w :=
      (State.completeFault_first (first rfl)).trans (if_pos (by rcases flush with h | h <;> simp [h]))
    rw [raised]
    exact s.faultRaised_landsWith w

namespace State.landsWith
variable {s t : State} {w : Write} {faulted : Bool}

/-- The accounts a flush begun now would write. -/
theorem changedAccounts (landed : s.landsWith t w faulted) :
    t.store.changedAccounts = (List.finRange 5).filter fun i => s.store.leftChanged w faulted (.account i) :=
  List.filter_congr fun i _ => landed.changed (.account i)

/-- The marks of the completion stand for as long as nothing writes or marks. -/
theorem marks (landed : s.landsWith t w faulted) {u : State} (array : u.store.array = t.store.array)
    (changed : u.store.changed = t.store.changed) :
    u.store.array = s.store.array.set w.record.index (if faulted then .bad else .whole w.image) ∧
      ∀ r, u.store.isChanged r = s.store.leftChanged w faulted r :=
  ⟨array.trans landed.array, fun r => (congrArg (·[r.index]) changed).trans (landed.changed r)⟩

/-- The completion, then the begin of a write of the flush. -/
theorem flushes_changesOnly (landed : s.landsWith t w faulted) {u : State} {i : AccountIx} {rest : List AccountIx}
    (begun : t.flushes u i rest) : s.changesOnly u [.port, .bands, .accounts, .alerts, .store, .engine] :=
  State.changesOnly_then landed.changes begun.changes (by decide) (by decide)

end State.landsWith

/-- After a completion with PFW taken the flush starts (R161). -/
theorem State.afterWrite_taken {s : State} {before : Store} (due : s.engine.resetDue = false)
    (state : s.store.state = .writing) (taken : before.pfwTaken = true) : s.afterWrite before = s.startFlush := by
  unfold State.afterWrite
  rw [if_neg (by rw [due]; decide), state]
  exact if_pos taken

/-- After a second fault with no release noted the part enters DORMANT (R161, step 5). -/
theorem State.afterWrite_offline_dormant {s : State} {before : Store} (due : s.engine.resetDue = false)
    (offline : s.store.state = .offline)
    (flush : (before.state = .writing ∧ before.pfwTaken = true) ∨
      (before.state = .flushing ∧ before.pfwReleased = false)) :
    s.afterWrite before = s.enterDormant := by
  unfold State.afterWrite
  rw [if_neg (by rw [due]; decide), offline]
  rcases flush with ⟨state, taken⟩ | ⟨state, released⟩
  · simp [state, taken]
  · simp [state, released]

/-! ## What entry to DORMANT keeps held -/

theorem State.raiseFailures_holds (s : State) (o : AttemptOutcome) (p : AlertPair) :
    (s.raiseFailures o).alerts.holds p = s.alerts.holds p := by
  unfold State.raiseFailures
  split
  · exact s.alerts.holds_raise _ p _ _
  · rfl

theorem State.endAttempt_holds (s : State) (a : Attempt) (o : AttemptOutcome) (q : QualifierState) (p : AlertPair) :
    (s.endAttempt a o q).alerts.holds p = s.alerts.holds p := by
  rw [State.endAttempt_eq]
  exact State.raiseFailures_holds _ o p

theorem State.enterDormant_holds (s : State) (p : AlertPair) : s.enterDormant.alerts.holds p = s.alerts.holds p := by
  have ended (x : State) : x.endForMode.alerts.holds p = x.alerts.holds p := by
    unfold State.endForMode
    split
    · exact x.endAttempt_holds _ _ _ p
    · exact x.endAttempt_holds _ _ _ p
    · rfl
    · rfl
  exact ended _

/-! ## The recovery enqueue (R162) -/

/-- Every record but account i that s covers, t covers. -/
def State.keepsCover (s t : State) (i : AccountIx) : Prop :=
  ∀ r, r ≠ .account i → s.store.covered r = true → t.store.covered r = true

theorem State.keepsCover_of_same {s t : State} (i : AccountIx) (store : t.store = s.store) : s.keepsCover t i := by
  intro r _ covered
  rw [store]
  exact covered

/-- Two operations in succession, the later one given first. -/
theorem State.keepsCover_after {s t u : State} {i : AccountIx} (k : t.keepsCover u i) (h : s.keepsCover t i) :
    s.keepsCover u i :=
  fun r other covered => k r other (h r other covered)

theorem State.changeAccount_keepsCover (s : State) (i : AccountIx) (f : Account → Account) :
    s.keepsCover (s.changeAccount i f) i := by
  unfold State.changeAccount
  split
  · exact State.keepsCover_of_same i rfl
  · exact fun r other covered => (s.store.covered_mark_other other).trans covered

theorem State.credits_keepsCover (s : State) (i : AccountIx) (numerator n : Nat) :
    s.keepsCover (s.credits i numerator n) i := by
  induction n generalizing s with
  | zero => exact State.keepsCover_of_same i rfl
  | succ n ih =>
    have evaluated (x : State) : x.keepsCover (x.evalCarried i ((s.account i).increment numerator)) i :=
      State.keepsCover_of_same i (x.evalCarried_changesOnly i _ .store (by decide))
    exact State.keepsCover_after (ih _) (State.keepsCover_after (evaluated _) (s.changeAccount_keepsCover i _))

theorem State.postStarter_keepsCover (s : State) (cold : Bool) : s.keepsCover (s.postStarter cold) 1 :=
  State.keepsCover_after (State.credits_keepsCover _ 1 _ 1) (s.changeAccount_keepsCover 1 _)

theorem State.crankTrigger_keepsCover (s : State) : s.keepsCover s.crankTrigger 1 := by
  unfold State.crankTrigger
  split
  · exact s.postStarter_keepsCover _
  · exact s.postStarter_keepsCover _
  · exact s.postStarter_keepsCover _
  · exact State.keepsCover_after (State.changeAccount_keepsCover _ 1 _) (s.postStarter_keepsCover _)

/-- Crank active re-formed changes no account but the starter's. -/
theorem State.reformCrank_keepsCover (s : State) : s.keepsCover s.reformCrank 1 := by
  have latched : s.keepsCover s.reformLatch 1 :=
    State.keepsCover_of_same 1 (s.reformLatch_changesOnly .store (by decide))
  unfold State.reformCrank
  dsimp only
  split
  · exact State.keepsCover_after (State.crankTrigger_keepsCover _) latched
  · exact latched

/-- The store READY with the release taken. -/
def State.readyAgain (s : State) : State := { s with store := { s.store with state := .ready, pfwReleased := false } }

/-- The recovery's queue, before a PARKED part wakes. -/
def State.recovering (s : State) : State := s.readyAgain.bulkEnqueue allRecords

theorem State.recover_eq (s : State) :
    s.recover =
      if s.recovering.time.mode == .parked && s.recovering.store.writePending then s.recovering.wake
      else s.recovering := rfl

theorem State.recovering_changesOnly (s : State) : s.changesOnly s.recovering [.accounts, .store, .engine] := by
  have again : s.changesOnly s.readyAgain [.store] := by
    intro p hp
    cases p <;> first | rfl | simp at hp
  exact State.changesOnly_then again (State.bulkEnqueue_changesOnly _ _) (by decide) (by decide)

theorem State.recovering_array (s : State) : s.recovering.store.array = s.store.array :=
  State.startIfReady_array _

theorem State.recovering_changed (s : State) : s.recovering.store.changed = s.store.changed :=
  State.startIfReady_changed _

theorem State.startIfReady_pfwReleased (s : State) : s.startIfReady.store.pfwReleased = s.store.pfwReleased := by
  unfold State.startIfReady
  split
  · unfold State.nextWrite
    split
    · rfl
    · exact State.startWrite_pfwReleased _ _
  all_goals rfl

theorem State.recovering_pfwReleased (s : State) : s.recovering.store.pfwReleased = false :=
  State.startIfReady_pfwReleased _

section Recovery
variable {s : State}

theorem State.recovering_covers (idle : s.store.inFlight = none) {r : RecordId} (changed : s.store.isChanged r = true) :
    s.recovering.store.covered r = true :=
  s.readyAgain.bulkEnqueue_covers_ready allRecords r rfl idle (mem_allRecords r) changed

theorem Store.covered_empty {st : Store} (queue : st.queue = []) (idle : st.inFlight = none) (r : RecordId) :
    st.covered r = false := by
  simp [Store.covered, Store.inFlightCovers, queue, idle]

/-- With a record changed the recovery begins a write. -/
theorem State.recovering_writing (queue : s.store.queue = []) (idle : s.store.inFlight = none) {r : RecordId}
    (changed : s.store.isChanged r = true) : s.recovering.store.state = .writing := by
  have open_ : s.readyAgain.store.covered r = false := Store.covered_empty queue idle r
  have marked : s.readyAgain.store.isChanged r = true := changed
  have queued : r ∈ s.readyAgain.store.queue ++ s.readyAgain.store.uncovered allRecords :=
    List.mem_append_right _ (List.mem_filter.mpr ⟨mem_allRecords r, by rw [open_, marked]; rfl⟩)
  exact (State.startIfReady_queued (s := { s.readyAgain with store := { s.readyAgain.store with
    queue := s.readyAgain.store.queue ++ s.readyAgain.store.uncovered allRecords } }) rfl queued).1

/-- With none changed the recovery queues nothing. -/
theorem State.recovering_clean (queue : s.store.queue = []) (clean : ∀ r, s.store.isChanged r = false) :
    s.recovering = s.readyAgain := by
  have none_ : s.readyAgain.store.uncovered allRecords = [] :=
    List.filter_eq_nil_iff.mpr fun r _ => by
      rw [show s.readyAgain.store.isChanged r = false from clean r]
      exact Bool.false_ne_true
  have same : s.recovering = State.startIfReady s.readyAgain := by
    unfold State.recovering State.bulkEnqueue
    rw [none_, List.append_nil]
  rw [same]
  exact State.nextWrite_nil (s := s.readyAgain) queue

/-- A recovery that queued a record wakes a PARKED part. -/
theorem State.recover_writing (writing : s.recovering.store.state = .writing) :
    s.recover = if s.time.mode = .parked then s.recovering.wake else s.recovering := by
  have pending : s.recovering.store.writePending = true := by
    unfold Store.writePending
    rw [writing]
  rw [State.recover_eq, pending, s.recovering_changesOnly .time (by decide)]
  simp

/-- A recovery that queued nothing leaves the part in its mode. -/
theorem State.recover_clean (queue : s.store.queue = []) (clean : ∀ r, s.store.isChanged r = false) :
    s.recover = s.readyAgain := by
  have idle : s.readyAgain.store.writePending = false := by
    show (!s.store.queue.isEmpty) = false
    rw [queue]
    rfl
  rw [State.recover_eq, State.recovering_clean queue clean, idle, Bool.and_false]
  exact if_neg Bool.false_ne_true

end Recovery

theorem State.wake_onlyMarks (s : State) : s.onlyMarks s.wake :=
  State.onlyMarks_after (State.reformCrank_onlyMarks _) rfl

theorem State.wake_keepsCover (s : State) : s.keepsCover s.wake 1 :=
  State.keepsCover_after (State.reformCrank_keepsCover _) (State.keepsCover_of_same 1 rfl)

/-- The recovery takes no mark away, and its release is taken. -/
theorem State.recover_marks (s : State) :
    s.recover.store.pfwReleased = false ∧ ∀ r, s.store.isChanged r = true → s.recover.store.isChanged r = true := by
  have before (r : RecordId) (marked : s.store.isChanged r = true) : s.recovering.store.isChanged r = true := by
    unfold Store.isChanged
    rw [s.recovering_changed]
    exact marked
  rw [State.recover_eq]
  split
  · have woken := s.recovering.wake_onlyMarks
    exact ⟨woken.pfwReleased.trans s.recovering_pfwReleased, fun r marked => woken.changed r (before r marked)⟩
  · exact ⟨s.recovering_pfwReleased, before⟩

/-! ## What a completion goes on with (R161) -/

section Completion
variable {s : State} {w : Write} {faulted : Bool}

theorem exec_completed (flying : s.store.inFlight = some w) :
    exec (.writeCompletion faulted) s = .next ((s.completed w faulted).afterWrite s.store) :=
  exec_writeCompletion faulted flying

/-- A completion with PFW taken starts the flush. -/
theorem exec_flushStarts (flying : s.store.inFlight = some w) (due : s.engine.resetDue = false)
    (landed : s.landsWith (s.completed w faulted) w faulted) (state : s.store.state = .writing)
    (taken : s.store.pfwTaken = true) :
    exec (.writeCompletion faulted) s = .next (s.completed w faulted).startFlush := by
  rw [exec_completed flying, State.afterWrite_taken (landed.resetDue.trans due) (landed.state.trans state) taken]

/-- A completion in FLUSHING goes on with the flush. -/
theorem exec_flushGoesOn (flying : s.store.inFlight = some w) (due : s.engine.resetDue = false)
    (landed : s.landsWith (s.completed w faulted) w faulted) (state : s.store.state = .flushing) :
    exec (.writeCompletion faulted) s = .next (s.completed w faulted).flushNext := by
  rw [exec_completed flying, State.afterWrite_flushing _ _ (landed.resetDue.trans due) (landed.state.trans state)]

end Completion

/-- The recovery after a completion, with a record still changed: a write is begun, and a PARKED part wakes (R162). -/
theorem State.recover_dirty {t : State} (queue : t.store.queue = []) (idle : t.store.inFlight = none) {q : RecordId}
    (changed : t.store.isChanged q = true) :
    t.recover.store.state = .writing ∧
      (∀ r, t.store.isChanged r = true → t.time.mode ≠ .parked ∨ r ≠ .account 1 → t.recover.store.covered r = true) ∧
      (t.time.mode = .active → t.recover = t.recovering) ∧
      (t.time.mode = .parked →
        t.recover.time = { t.time with mode := .active } ∧ t.recover.meter = { t.meter with timer := some 100 }) := by
  have writing := State.recovering_writing queue idle changed
  have covers (r : RecordId) (marked : t.store.isChanged r = true) : t.recovering.store.covered r = true :=
    State.recovering_covers idle marked
  have kept := t.recovering_changesOnly
  rw [State.recover_writing writing]
  by_cases parked : t.time.mode = .parked
  · rw [if_pos parked]
    refine ⟨t.recovering.wake_onlyMarks.state.trans writing, fun r marked apart => ?_,
      fun active => absurd (parked.symm.trans active) (by decide), fun _ => ⟨?_, ?_⟩⟩
    · exact t.recovering.wake_keepsCover r (apart.resolve_left (absurd parked)) (covers r marked)
    · rw [State.wake_time, kept .time (by decide)]
    · rw [State.wake_meter, kept .meter (by decide)]
  · rw [if_neg parked]
    exact ⟨writing, fun r marked _ => covers r marked, fun _ => rfl, fun asleep => absurd asleep parked⟩

/-- Settles O54: PFW by the state of the store; a completion by what the flush then has left to write. -/
theorem powerFailFollowsLine : Obligations.PowerFailFollowsLine := by
  refine ⟨fun s low => ?_, fun s high => ?_, fun s w faulted flying due => ⟨fun first => ⟨fun state taken => ?_,
    fun state queue => ?_⟩, fun bad stands flush => ?_⟩⟩
  · have level := s.pfwAt_changesOnly true
    by_cases taken : s.time.inReset = none ∧ s.time.mode ≠ .dormant
    · obtain ⟨outside, awake⟩ := taken
      have run := exec_pfwAsserted_taken low outside awake
      have running : ¬(s.time.inReset.isSome = true ∨ s.time.mode = .dormant) := by simp [outside, awake]
      cases state : s.store.state with
      | ready =>
        rw [State.takePfw_ready (s := s.pfwAt true) state] at run
        cases list : s.store.changedAccounts with
        | nil =>
          have asleep := State.startFlush_sleeps (s := s.pfwAt true) list
          exact ⟨_, run, asleep.changes .lines (by decide), (congrArg Store.changed asleep.store).trans rfl,
            fun stopped => absurd stopped running,
            fun _ _ => ⟨(congrArg Store.state asleep.store).trans rfl, asleep.mode, asleep.timer⟩⟩
        | cons i rest =>
          have begun := State.startFlush_flushes (s := s.pfwAt true) list
          exact ⟨_, run, begun.changes .lines (by decide), begun.changed, fun stopped => absurd stopped running,
            fun _ _ => ⟨begun.state, begun.queue, begun.list, begun.changes .time (by decide), begun.write⟩⟩
      | writing =>
        rw [State.takePfw_writing (s := s.pfwAt true) state] at run
        refine ⟨_, run, rfl, rfl, fun stopped => absurd stopped running, fun _ _ => ⟨rfl, ?_⟩⟩
        intro p hp
        cases p <;> first | rfl | simp at hp
      | offline =>
        rw [State.takePfw_offline (s := s.pfwAt true) state] at run
        have asleep := (s.pfwAt true).enterDormant_sleeps
        exact ⟨_, run, asleep.changes .lines (by decide), congrArg Store.changed asleep.store,
          fun stopped => absurd stopped running, fun _ _ => ⟨asleep.mode, asleep.timer, asleep.store⟩⟩
      | flushing =>
        rw [State.takePfw_flushing (s := s.pfwAt true) state] at run
        exact ⟨_, run, rfl, rfl, fun _ => level, fun _ _ => level⟩
      | loading kind =>
        rw [State.takePfw_loading (s := s.pfwAt true) state] at run
        exact ⟨_, run, rfl, rfl, fun _ => level, fun _ _ => level⟩
    · have run := exec_pfwAsserted low
      rw [if_neg taken] at run
      exact ⟨_, run, rfl, rfl, fun _ => level, fun outside awake => absurd ⟨outside, awake⟩ taken⟩
  · have run := exec_pfwReleased high
    cases resetting : s.time.inReset with
    | some r =>
      rw [resetting, if_pos Option.isSome_some] at run
      exact ⟨_, run, rfl, fun _ => s.pfwAt_changesOnly false, nofun, nofun⟩
    | none =>
      rw [resetting, Option.isSome_none, if_neg Bool.false_ne_true] at run
      by_cases dormant : s.time.mode = .dormant
      · rw [if_pos dormant] at run
        have resets := State.beginReset_inReset_none (s := s.pfwAt false) .warm false resetting
        exact ⟨_, run, rfl, nofun, fun _ _ => ⟨rfl, resets, rfl, rfl, rfl, rfl⟩, fun _ awake => absurd dormant awake⟩
      · rw [if_neg dormant, State.dropPfw_store] at run
        refine ⟨_, run, rfl, nofun, fun _ asleep => absurd asleep dormant, fun _ _ => ⟨?_, rfl⟩⟩
        intro p hp
        cases p <;> first | rfl | simp at hp
  · have landed := State.completed_landsWith (w := w) first (.inl taken)
    refine ⟨_, exec_flushStarts flying due landed state taken, ?_⟩
    have accounts := landed.changedAccounts
    generalize s.completed w faulted = t at landed accounts
    generalize list : List.filter _ _ = toWrite
    cases toWrite with
    | cons i rest =>
      have begun := State.startFlush_flushes (accounts.trans list)
      exact ⟨landed.marks begun.array begun.changed, begun.state, begun.queue, begun.list, begun.write,
        landed.flushes_changesOnly begun⟩
    | nil =>
      have empty := accounts.trans list
      have asleep := State.startFlush_sleeps empty
      refine ⟨landed.marks (by rw [asleep.store]; rfl) (by rw [asleep.store]; rfl), by rw [asleep.store]; rfl, ?_⟩
      exact asleep.dormant landed.idle rfl empty
  · have landed := State.completed_landsWith (w := w) first (.inr state)
    refine ⟨_, exec_flushGoesOn flying due landed state, ?_⟩
    have flushing := landed.state.trans state
    have emptied := landed.queue.trans queue
    generalize s.completed w faulted = t at landed flushing emptied
    split
    · next i rest list =>
      obtain ⟨begun, kept⟩ := State.flushNext_flushes flushing emptied (landed.flushList.trans list)
      exact ⟨landed.marks begun.array begun.changed, ⟨begun.state, begun.queue, begun.list, begun.write,
        landed.flushes_changesOnly begun⟩, kept.trans landed.pfwReleased⟩
    · next list released =>
      rw [State.flushNext_done _ (landed.flushList.trans list) (landed.pfwReleased.trans released)]
      have asleep := t.enterDormant_sleeps
      refine ⟨landed.marks (by rw [asleep.store]) (by rw [asleep.store]), by rw [asleep.store]; exact flushing, ?_⟩
      exact asleep.dormant landed.idle emptied (landed.flushList.trans list)
    · next list released =>
      rw [State.flushNext_released _ (landed.flushList.trans list) (landed.pfwReleased.trans released)]
      obtain ⟨dropped, kept⟩ := t.recover_marks
      refine ⟨dropped, fun r marked => kept r ((landed.changed r).trans marked), ?_⟩
      split
      · next some_ =>
        obtain ⟨q, -, changed⟩ := List.any_eq_true.mp some_
        obtain ⟨writing, covers, active, parked⟩ :=
          State.recover_dirty emptied landed.idle ((landed.changed q).trans changed)
        have time := landed.changes .time (by decide)
        have meter := landed.changes .meter (by decide)
        have same := t.recovering_changesOnly
        rw [time] at covers active
        rw [time, meter] at parked
        refine ⟨writing, fun r marked => covers r ((landed.changed r).trans marked), fun up => ?_, parked⟩
        rw [active up]
        exact ⟨landed.marks t.recovering_array t.recovering_changed, (same .time (by decide)).trans time,
          (same .meter (by decide)).trans meter⟩
      · next none_ =>
        have clean (r : RecordId) : t.store.isChanged r = false := by
          refine (landed.changed r).trans (Bool.eq_false_iff.mpr fun changed => none_ ?_)
          exact List.any_eq_true.mpr ⟨r, mem_allRecords r, changed⟩
        rw [State.recover_clean emptied clean]
        exact ⟨landed.marks rfl rfl, rfl, landed.idle, emptied, landed.changes .time (by decide),
          landed.changes .meter (by decide)⟩
  · subst bad
    have gone := State.completeFault_offline w stands
    have due' := gone.resetDue.trans due
    have offline : (s.completeFault w).store.state = .offline := by rw [gone.store]
    have run := exec_writeCompletion true flying
    rw [State.writeDone_faulted] at run
    obtain ⟨array, marks⟩ : (s.completeFault w).store.array = s.store.array.set w.record.index .bad ∧
        ∀ r, (s.completeFault w).store.isChanged r = s.store.leftChanged w true r := by
      rw [gone.store]
      exact ⟨rfl, fun r => (s.store.leftChanged_faulted w r).symm⟩
    by_cases released : s.store.state = .flushing ∧ s.store.pfwReleased = true
    · rw [State.afterWrite_offline_released _ _ due' offline released.1 released.2] at run
      refine ⟨_, run, ⟨array, marks⟩, offline, gone.holds, ?_⟩
      rw [if_pos released]
      exact ⟨by rw [gone.store], by rw [gone.store], gone.changes⟩
    · rw [State.afterWrite_offline_dormant due' offline (flush.imp_right fun flushing =>
        ⟨flushing, Bool.eq_false_iff.mpr fun h => released ⟨flushing, h⟩⟩)] at run
      have asleep := (s.completeFault w).enterDormant_sleeps
      refine ⟨_, run, ⟨(congrArg Store.array asleep.store).trans array, fun r =>
        (congrArg (Store.isChanged · r) asleep.store).trans (marks r)⟩, by rw [asleep.store]; exact offline,
        (State.enterDormant_holds _ _).trans gone.holds, ?_⟩
      rw [if_neg released]
      exact asleep.dormant (by rw [gone.store]) (by rw [gone.store]) (by rw [gone.store])

end Sys2Proof.Machine
end

section
/-! PROOFS. Requests while the store is OFFLINE or FLUSHING (O38), first part: how many notices a change can offer. -/

namespace Sys2Proof.Machine

/-! ## The notices of a change (R145) -/

/-- From s to t at most n frames joined the transmit queue. -/
def State.offersAtMost (s t : State) (n : Nat) : Prop := t.port.tx.length ≤ s.port.tx.length + n

theorem State.offersAtMost_of_port {s t : State} (n : Nat) (port : t.port = s.port) : s.offersAtMost t n := by
  unfold State.offersAtMost
  rw [port]
  exact Nat.le_add_right _ n

theorem State.offersAtMost_of_changesOnly {s t : State} {ps : List Part} (n : Nat) (h : s.changesOnly t ps)
    (out : Part.port ∉ ps) : s.offersAtMost t n :=
  State.offersAtMost_of_port n (h .port out)

theorem State.offersAtMost_mono {s t : State} {m n : Nat} (h : s.offersAtMost t m) (le : m ≤ n) : s.offersAtMost t n :=
  h.trans (Nat.add_le_add_left le _)

/-- Two operations in succession, the later one given first. -/
theorem State.offersAtMost_after {s t u : State} {m n : Nat} (k : t.offersAtMost u n) (h : s.offersAtMost t m) :
    s.offersAtMost u (m + n) := by
  unfold State.offersAtMost at h k ⊢
  omega

theorem State.offersAtMost_ite {s t u : State} {c : Prop} [Decidable c] {n : Nat} (h : s.offersAtMost t n)
    (k : s.offersAtMost u n) : s.offersAtMost (if c then t else u) n := by
  split
  · exact h
  · exact k

theorem State.withAlerts_offers (s : State) (r : AlertUnit × Option AlertEntry) :
    s.offersAtMost (s.withAlerts r) 1 := by
  unfold State.withAlerts State.offersAtMost
  dsimp only
  split
  · split
    · simp [Port.push]
    · exact Nat.le_succ _
  · exact Nat.le_succ _

theorem State.report_offers (s : State) (p : AlertPair) (v : Bool) (param : Option Byte) :
    s.offersAtMost (s.report p v param) 1 :=
  s.withAlerts_offers _

/-- A report of a condition as false offers no notice. -/
theorem State.report_false_offers (s : State) (p : AlertPair) (param : Option Byte) :
    s.offersAtMost (s.report p false param) 0 :=
  State.offersAtMost_of_port 0 rfl

theorem State.evalThresholds_offers (s : State) (i : AccountIx) : s.offersAtMost (s.evalThresholds i) 2 := by
  have due : s.offersAtMost (s.evalServiceDue i) 1 :=
    State.offersAtMost_ite (State.offersAtMost_of_port 1 rfl) (State.report_offers _ _ _ _)
  have life (x : State) : x.offersAtMost (x.evalLifeLimit i) 1 :=
    State.offersAtMost_ite (State.offersAtMost_of_port 1 rfl) (State.report_offers _ _ _ _)
  exact State.offersAtMost_after (life _) due

theorem State.evalNearFull_offers (s : State) : s.offersAtMost s.evalNearFull 1 :=
  State.offersAtMost_ite (State.offersAtMost_of_port 1 rfl) (State.report_offers _ _ _ _)

/-! ## The notices of a signal lost (R32, R89, R97) -/

theorem State.changeAccount_offers (s : State) (i : AccountIx) (f : Account → Account) :
    s.offersAtMost (s.changeAccount i f) 0 :=
  State.offersAtMost_ite (State.offersAtMost_of_port 0 rfl) (State.offersAtMost_of_port 0 rfl)

/-- One STARTER event is one credit, after which the thresholds may be evaluated. -/
theorem State.postStarter_offers (s : State) (cold : Bool) : s.offersAtMost (s.postStarter cold) 2 := by
  have carried (x : State) (n : Nat) : x.offersAtMost (x.evalCarried 1 n) 2 :=
    State.offersAtMost_ite (State.offersAtMost_of_port 2 rfl) (x.evalThresholds_offers 1)
  exact State.offersAtMost_after (State.offersAtMost_after (carried _ _) (State.changeAccount_offers _ 1 _))
    (s.changeAccount_offers 1 _)

theorem State.crankTrigger_offers (s : State) : s.offersAtMost s.crankTrigger 2 := by
  unfold State.crankTrigger
  split
  · exact s.postStarter_offers _
  · exact s.postStarter_offers _
  · exact s.postStarter_offers _
  · exact State.offersAtMost_after (State.changeAccount_offers _ 1 _) (s.postStarter_offers _)

theorem State.reformCrank_offers (s : State) : s.offersAtMost s.reformCrank 2 := by
  have latched : s.offersAtMost s.reformLatch 0 :=
    State.offersAtMost_of_changesOnly 0 s.reformLatch_changesOnly (by decide)
  exact State.offersAtMost_ite (State.offersAtMost_after (State.crankTrigger_offers _) latched)
    (State.offersAtMost_mono latched (by decide))

theorem State.speedLost_offers (s : State) : s.offersAtMost s.speedLost 1 := by
  have ended (a : Attempt) : s.offersAtMost (s.endAttempt a .unverified .idle) 1 :=
    State.offersAtMost_ite (State.withAlerts_offers _ _) (State.offersAtMost_of_port 1 rfl)
  unfold State.speedLost
  split
  · exact ended _
  all_goals exact State.offersAtMost_of_port 1 rfl

/-- The notices a signal's passing to UNKNOWN can offer. -/
def lossNotices : SignalName → Nat
  | .engineSpeed => 1
  | .starterStatus => 2
  | .engineTorque | .engineOil | .gear | .clutchState | .slipSpeed | .outputSpeed | .transmissionOil
  | .drivelineEvent => 0

theorem State.handUnknown_offers (s : State) (n : SignalName) : s.offersAtMost (s.handUnknown n) (lossNotices n) := by
  cases n with
  | engineSpeed => exact s.speedLost_offers
  | starterStatus => exact s.reformCrank_offers
  | _ => exact State.offersAtMost_of_port 0 rfl

theorem State.reclassify_offers (s : State) (n : SignalName) : s.offersAtMost (s.reclassify n) (lossNotices n) := by
  have same (x : State) (port : x.port = s.port) : s.offersAtMost x (lossNotices n) := State.offersAtMost_of_port _ port
  have passed (age : Nat) : s.offersAtMost (s.passUnknown n age) (lossNotices n) := by
    unfold State.passUnknown
    split
    · exact same s rfl
    all_goals exact State.handUnknown_offers (s.setAgeing n { cls := .unknown, age := age }) n
  exact State.offersAtMost_ite (passed _) (State.offersAtMost_ite (same _ rfl) (same _ rfl))

theorem State.foldl_reclassify_offers (s : State) (l : List SignalName) :
    s.offersAtMost (l.foldl State.reclassify s) (l.map lossNotices).sum := by
  induction l generalizing s with
  | nil => exact State.offersAtMost_of_port _ rfl
  | cons n l ih =>
    rw [List.map_cons, List.sum_cons]
    exact State.offersAtMost_after (ih _) (s.reclassify_offers n)

/-- A written device setting offers at most three notices: one for engine speed lost, two for crank active re-formed. -/
theorem State.applySetting_offers (s : State) (id : Nat) : s.offersAtMost (s.applySetting id) 3 := by
  rcases s.applySetting_cases id with ⟨-, e⟩ | ⟨-, e⟩ | ⟨-, -, -, e⟩ <;> rw [e]
  · exact s.foldl_reclassify_offers signalNames
  · exact State.offersAtMost_of_changesOnly 3 s.reformLatch_changesOnly (by decide)
  · exact State.offersAtMost_of_port 3 rfl

end Sys2Proof.Machine
end

section
/-! PROOFS. Requests while the store is OFFLINE or FLUSHING (O38), second part: what a change is answered. -/

namespace Sys2Proof.Machine

/-! ## A change made while nothing is written (R155, R157, R160) -/

/-- While the store is OFFLINE or FLUSHING a record handed is marked only. -/
theorem State.hand_closed {s : State} (closed : s.store.state = .offline ∨ s.store.state = .flushing) (r : RecordId) :
    s.hand r = s.markRecord r := by
  have marked : (s.markRecord r).store.state = s.store.state := rfl
  unfold State.hand
  rcases closed with h | h <;> simp only [marked, h]

/-- From s to u nothing was queued or written, and the slot is IDLE with a place for its response. -/
structure State.prepares (s u : State) (slot : SlotIx) : Prop where
  state : u.store.state = s.store.state
  queue : u.store.queue = s.store.queue
  array : u.store.array = s.store.array
  flushList : u.store.flushList = s.store.flushList
  room : u.port.hasRoom = true
  straps : u.time.straps = s.time.straps
  idle : u.engine.slots[slot].inFlight = none

theorem State.prepares.mark {s u : State} {slot : SlotIx} (h : s.prepares u slot) (r : RecordId) :
    s.prepares (u.markRecord r) slot :=
  ⟨h.state, h.queue, h.array, h.flushList, h.room, h.straps, h.idle⟩

theorem State.prepares.hand {s u : State} {slot : SlotIx} (h : s.prepares u slot)
    (closed : s.store.state = .offline ∨ s.store.state = .flushing) (r : RecordId) : u.hand r = u.markRecord r :=
  State.hand_closed (by rw [h.state]; exact closed) r

/-- With four frames queued, three notices leave the response its place. -/
theorem State.hasRoom_of_offers {s u : State} (few : s.port.tx.length ≤ 4) (offers : s.offersAtMost u 3) :
    u.port.hasRoom = true := by
  unfold State.offersAtMost at offers
  simp only [Port.hasRoom, txPlaces, decide_eq_true_eq]
  omega

/-- A request of the slot is taken at rest while nothing is written, with at most four frames queued. -/
structure State.takesClosed (s : State) (slot : SlotIx) : Prop where
  closed : s.store.state = .offline ∨ s.store.state = .flushing
  hears : s.hears slot
  resting : s.atRest = true
  few : s.port.tx.length ≤ 4

theorem State.takesClosed.room {s : State} {slot : SlotIx} (takes : s.takesClosed slot) : s.port.hasRoom = true :=
  State.hasRoom_of_offers takes.few (State.offersAtMost_of_port 3 rfl)

/-- A change that only marks, and offers at most three notices. -/
theorem State.takesClosed.prepares {s u : State} {slot : SlotIx} (takes : s.takesClosed slot)
    (marks : s.restartLinger.onlyMarks u) (offers : s.restartLinger.offersAtMost u 3)
    (time : u.time = s.restartLinger.time) (slots : u.engine.slots = s.engine.slots) : s.prepares u slot where
  state := marks.state
  queue := marks.queue
  array := marks.array
  flushList := marks.flushList
  room := State.hasRoom_of_offers takes.few offers
  straps := by rw [time]; rfl
  idle := by
    obtain ⟨-, -, idle⟩ := takes.hears
    rw [slots]
    exact idle

/-- From s to t a change marked its records with nothing queued or written, and is answered as the state of the store
decides, as O38 states it. -/
def State.answers (s t : State) (slot : SlotIx) (kind : Byte) (payload : List Byte) (records : List RecordId) : Prop :=
  t.store.state = s.store.state ∧ t.store.queue = s.store.queue ∧ t.store.array = s.store.array ∧
    t.store.flushList = s.store.flushList ∧ (∀ r ∈ records, t.store.isChanged r = true) ∧
    (s.store.state = .offline →
      t.port.tx.getLast? = some (responseFrame s.time.straps slot kind .volatileDone payload false) ∧
        t.engine.slots[slot].inFlight = none) ∧
    (s.store.state = .flushing → t.waitsWith slot kind payload records)

/-- The answer of a change ready to be answered: VOLATILE at once, or a response that waits (R157, R160). -/
theorem State.prepares.conclude {s u : State} {slot : SlotIx} (h : s.prepares u slot)
    (closed : s.store.state = .offline ∨ s.store.state = .flushing) (kind : Byte) (ops payload : List Byte)
    {records : List RecordId} (marked : ∀ r ∈ records, u.store.isChanged r = true) :
    s.answers ((Answer.durable u records payload).conclude slot kind ops) slot kind payload records ∧
      u.changesOnly ((Answer.durable u records payload).conclude slot kind ops) [.port, .engine] ∧
      ((Answer.durable u records payload).conclude slot kind ops).engine.restore = u.engine.restore := by
  rcases closed with offline | flushing
  · have answer : Answer.durable u records payload = .atOnce u .volatileDone payload := by
      unfold Answer.durable
      rw [h.state, offline]
    rw [answer, Answer.conclude_atOnce u slot kind ops .volatileDone payload h.idle h.room, h.straps]
    refine ⟨⟨h.state, h.queue, h.array, h.flushList, marked, fun _ => ⟨List.getLast?_concat, h.idle⟩,
      fun flushing => absurd (offline.symm.trans flushing) (by decide)⟩, ?_, rfl⟩
    intro p hp
    cases p <;> first | rfl | simp at hp
  · have answer : Answer.durable u records payload = .deferred u (records.map u.waitOn) payload := by
      unfold Answer.durable
      rw [h.state, flushing]
    rw [answer]
    exact ⟨⟨h.state, h.queue, h.array, h.flushList, marked,
      fun offline => absurd (flushing.symm.trans offline) (by decide),
      fun _ => Answer.conclude_deferred_waits u slot kind ops records payload⟩,
      State.changesOnly_mono (u.setInFlight_changesOnly slot _) (by decide), rfl⟩

/-- From x to t the records were marked and their request answered: the working state is that of x. -/
structure State.settles (s x t : State) (slot : SlotIx) (kind : Byte) (payload : List Byte) (records : List RecordId) :
    Prop where
  answers : s.answers t slot kind payload records
  changes : x.changesOnly t [.port, .store, .engine]
  restore : t.engine.restore = x.engine.restore

/-- A permitted request that its owning block answers with its records marked, after a change x. -/
theorem exec_closed {c : Instr} {s x u : State} {slot : SlotIx} {kind : Byte} {ops payload : List Byte} {q : Request}
    {records : List RecordId} (request : requestOf c = some (slot, kind, ops))
    (parsed : parseRequest kind.toNat ops = some q) (permitted : q.permitted slot = true) (takes : s.takesClosed slot)
    (h : s.prepares u slot) (marks : x.changesOnly u [.store]) (marked : ∀ r ∈ records, u.store.isChanged r = true)
    (handled : s.restartLinger.handle slot q = .durable u records payload) :
    ∃ t, exec c s = .next t ∧ s.settles x t slot kind payload records := by
  have rest : (q.needsRest && !s.atRest) = false := by rw [takes.resting]; exact Bool.and_false _
  obtain ⟨answers, changes, restore⟩ := h.conclude takes.closed kind ops payload marked
  have run := exec_permitted request parsed takes.hears permitted rest
  rw [handled] at run
  exact ⟨_, run, answers, State.changesOnly_then marks changes (by decide) (by decide),
    restore.trans (congrArg RequestEngine.restore (marks .engine (by decide)))⟩

/-- One that its owning block answers by handing one record. -/
theorem exec_closed_one {c : Instr} {s x : State} {slot : SlotIx} {kind : Byte} {ops payload : List Byte} {q : Request}
    {r : RecordId} (request : requestOf c = some (slot, kind, ops)) (parsed : parseRequest kind.toNat ops = some q)
    (permitted : q.permitted slot = true) (takes : s.takesClosed slot) (h : s.prepares x slot)
    (handled : s.restartLinger.handle slot q = .durable (x.hand r) [r] payload) :
    ∃ t, exec c s = .next t ∧ s.settles x t slot kind payload [r] := by
  rw [h.hand takes.closed] at handled
  refine exec_closed request parsed permitted takes (h.mark r) (x.markRecord_changesOnly r) (fun q named => ?_) handled
  rw [List.mem_singleton.mp named]
  exact Store.isChanged_mark_same _ r

/-- The answered change from the state before the request. -/
theorem State.settles.changesOnly {s x t : State} {slot : SlotIx} {kind : Byte} {payload : List Byte}
    {records : List RecordId} {ps rs : List Part} (h : s.settles x t slot kind payload records)
    (changed : s.restartLinger.changesOnly x ps) (inside : ps ⊆ rs) (base : [Part.time, .port, .store, .engine] ⊆ rs) : s.changesOnly t rs :=
  State.changesOnly_then (State.changesOnly_mono s.restartLinger_changesOnly (by decide))
    (State.changesOnly_then changed h.changes inside (List.Subset.trans (by decide) base)) base (List.Subset.refl rs)

/-! ## CHECKPOINT (R158) -/

theorem State.handleCheckpoint_offline {s : State} (offline : s.store.state = .offline) :
    s.handleCheckpoint = .refusal s .volatileDone := by
  unfold State.handleCheckpoint
  rw [offline]

theorem State.handleCheckpoint_flushing {s : State} (flushing : s.store.state = .flushing) :
    s.handleCheckpoint =
      if s.store.changedRecords = [] then .refusal s .ok
      else .deferred s (s.store.changedRecords.map s.waitOn) [] := by
  unfold State.handleCheckpoint
  rw [flushing]
  simp only [List.isEmpty_iff]

/-! ## The changes of one segment (R122, R124) -/

/-- A permitted request that its owning block answers by a change of one segment. -/
theorem exec_closedSegment {c : Instr} {s : State} {slot : SlotIx} {kind : Byte} {ops payload : List Byte} {q : Request}
    {e : LogEntry} {f : Segment → Segment} (request : requestOf c = some (slot, kind, ops))
    (parsed : parseRequest kind.toNat ops = some q) (permitted : q.permitted slot = true)
    (takes : s.takesClosed slot) (own : s.slotsDistinct) (m : e ∈ s.log.entries)
    (handled : s.restartLinger.handle slot q =
      .durable ((s.restartLinger.modifySegment e.slot f).evalNearFull.hand (.slot e.slot)) [.slot e.slot] payload) :
    ∃ t, exec c s = .next t ∧ t.log.inSlot e.slot = some (f e.seg) ∧
      (∀ k, k ≠ e.slot → t.log.inSlot k = s.log.inSlot k) ∧ s.answers t slot kind payload [.slot e.slot] ∧
      s.changesOnly t [.time, .port, .log, .alerts, .store, .engine] := by
  have changed := s.restartLinger.modifySegment_changesOnly e.slot f
  have entries : (s.restartLinger.modifySegment e.slot f).evalNearFull.log.entries = (s.log.modify e.slot f).entries :=
    State.evalNearFull_entries _
  have evaluated := State.changesOnly_then (rs := [.log, .alerts, .port]) changed
    (State.evalNearFull_changesOnly _) (by decide) (by decide)
  have offers := State.offersAtMost_after (State.evalNearFull_offers _)
    (State.offersAtMost_of_changesOnly 0 changed (by decide))
  generalize (s.restartLinger.modifySegment e.slot f).evalNearFull = x at *
  obtain ⟨t, run, settled⟩ := exec_closed_one request parsed permitted takes
    (takes.prepares (State.onlyMarks_of_changesOnly evaluated (by decide)) (State.offersAtMost_mono offers (by decide))
      (evaluated .time (by decide)) (congrArg RequestEngine.slots (evaluated .engine (by decide)))) handled
  have segments : t.log.entries = (s.log.modify e.slot f).entries := by
    rw [settled.changes .log (by decide), entries]
  refine ⟨t, run, ?_, fun k other => ?_, settled.answers, settled.changesOnly evaluated (by decide) (by decide)⟩
  · rw [SegmentLog.inSlot_congr segments, SegmentLog.inSlot_modify, if_pos rfl, SegmentLog.inSlot_of_mem own m]
    rfl
  · rw [SegmentLog.inSlot_congr segments, SegmentLog.inSlot_modify, if_neg other]

/-! ## The changes of one account (R17, R21, R177) -/

/-- A request of the depot terminal that its owning block answers by handing an account as a change x left it. -/
theorem exec_closedAccount {c : Instr} {s x : State} {kind : Byte} {ops : List Byte} {q : Request} {i : AccountIx}
    {a : Account} (request : requestOf c = some (3, kind, ops)) (parsed : parseRequest kind.toNat ops = some q)
    (takes : s.takesClosed 3) (prepared : s.prepares x 3)
    (handled : s.restartLinger.handle 3 q = .durable (x.hand (.account i)) [.account i] [])
    (own : x.account i = a) (others : ∀ {j : AccountIx}, i ≠ j → x.account j = s.account j) :
    ∃ t, exec c s = .next t ∧ t.account i = a ∧ s.keepsOtherAccounts t i ∧
      s.settles x t 3 kind [] [.account i] := by
  obtain ⟨t, run, settled⟩ := exec_closed_one request parsed q.permitted_terminal takes prepared handled
  have accounts := State.account_of_changesOnly settled.changes (by decide)
  exact ⟨t, run, (accounts i).trans own, fun j other => (accounts j).trans (others (Ne.symm other)), settled⟩

/-- RESTORE DONE offers the notices of the two thresholds at most. -/
theorem State.restoreClosed_offers (s : State) (i : AccountIx) (fields : List (Nat × Nat)) :
    s.offersAtMost (s.restoreClosed i fields) 2 := by
  have reported : s.offersAtMost (s.restoreReported i fields) 0 := State.offersAtMost_of_port 0 rfl
  have raised (x : State) (increase : Tracked) : x.offersAtMost ((x.raiseSnapshot increase).setRestore none) 0 :=
    State.offersAtMost_of_port 0 ((x.raiseSnapshot_changesOnly increase) .port (by decide))
  rw [State.restoreClosed_eq]
  exact State.offersAtMost_after (raised _ _) (State.offersAtMost_after (State.evalThresholds_offers _ i) reported)

theorem State.accountWritten_offers (s : State) (i : AccountIx) (id : Nat) (b : Account) :
    s.offersAtMost (s.accountWritten i id b) 2 :=
  State.offersAtMost_ite (State.evalThresholds_offers (s.setAccount i b) i) (State.offersAtMost_of_port 2 rfl)

/-- A restore closed leaves every slot as it was. -/
theorem State.restoreClosed_slots (s : State) (i : AccountIx) (fields : List (Nat × Nat)) :
    (s.restoreClosed i fields).engine.slots = s.engine.slots := by
  have raised := State.raiseSnapshot_changesOnly ((s.restoreReported i fields).evalThresholds i)
    (restoreIncrease i (s.account i) ((s.account i).restored fields))
  have evaluated := (s.restoreReported i fields).evalThresholds_changesOnly i
  rw [State.restoreClosed_eq, State.setRestore_engine]
  rw [raised .engine (by decide), evaluated .engine (by decide)]
  rfl

/-! ## The edits of the Band Table (R52 to R57) -/

theorem exec_closedBand {c : Instr} {s : State} {kind : Byte} {ops : List Byte} {q : Request} {k : Fin 16}
    {e : BandEntry} (request : requestOf c = some (3, kind, ops)) (parsed : parseRequest kind.toNat ops = some q)
    (takes : s.takesClosed 3) (handled : s.restartLinger.handle 3 q = s.restartLinger.putBand k e) :
    ∃ t, exec c s = .next t ∧ t.bands = (s.setBand k e).bands ∧ s.answers t 3 kind [] [.band k] ∧
      s.changesOnly t [.time, .port, .bands, .store, .engine] := by
  have put := s.restartLinger.setBand_changesOnly k e
  obtain ⟨t, run, settled⟩ := exec_closed_one (x := s.restartLinger.setBand k e) request parsed q.permitted_terminal
    takes (takes.prepares (State.onlyMarks_of_changesOnly put (by decide)) (State.offersAtMost_of_port 3 rfl) rfl rfl) handled
  exact ⟨t, run, settled.changes .bands (by decide), settled.answers, settled.changesOnly put (by decide) (by decide)⟩

/-- An edit of an unlocked entry: staged while it is enabled, else applied. -/
theorem exec_closedEdit {c : Instr} {s : State} {kind : Byte} {ops : List Byte} {q : Request} {k : Fin 16}
    {apply stage : BandEntry → BandEntry} (request : requestOf c = some (3, kind, ops))
    (parsed : parseRequest kind.toNat ops = some q) (takes : s.takesClosed 3)
    (unlocked : s.bands.entries[k].locked = false)
    (handled : s.restartLinger.handle 3 q = s.restartLinger.editBand k apply stage) :
    ∃ t, exec c s = .next t ∧
      t.bands =
        (s.setBand k (if s.bands.entries[k].weightPart.enabled then stage s.bands.entries[k]
          else apply s.bands.entries[k])).bands ∧
      s.answers t 3 kind [] [.band k] ∧ s.changesOnly t [.time, .port, .bands, .store, .engine] :=
  exec_closedBand request parsed takes (handled.trans (State.editBand_unlocked (s := s.restartLinger) unlocked))

/-! ## OPEN RENTAL (R116, R118) -/

/-- Two records marked one after the other are both marked. -/
theorem State.isChanged_marks (s : State) (r q : RecordId) :
    ∀ p ∈ [r, q], ((s.markRecord r).markRecord q).store.isChanged p = true := by
  intro p named
  rcases List.mem_pair.mp named with rfl | rfl
  · exact Store.isChanged_mark_mono _ _ _ (Store.isChanged_mark_same _ _)
  · exact Store.isChanged_mark_same _ _

/-- An OPEN RENTAL that its owning block answers by an opening, from a state x with the log as a reclaiming left it. -/
theorem exec_closedOpening {s x : State} {renter : List Byte} {tariff : Byte} {ops : List Byte} {k : Fin 24}
    (parsed : parseRequest (0x10#8).toNat ops = some (.openRental renter tariff)) (takes : s.takesClosed 3)
    (left : s.restartLinger.changesOnly x [.log, .alerts])
    (handled : s.restartLinger.handleOpenRental renter tariff = x.openIn k renter tariff) :
    ∃ t g, exec (.openRental 3 ops) s = .next t ∧ t.log.entries = x.log.entries ++ [{ slot := k, seg := g }] ∧
      g.state = .opened ∧ g.renter = renter ∧ g.tariff = tariff ∧ g.openTime = s.time.deviceTime ∧
      g.tracked = Tracked.current s.accounts.accounts ∧
      t.settings = { s.settings with lastSegment := g.number, lastSerial := g.serial } ∧
      s.answers t 3 0x10#8 (bytes16 g.number) [.slot k, .settings] ∧
      s.changesOnly t [.time, .port, .log, .settings, .alerts, .store, .engine] := by
  have opened := State.changesOnly_then (rs := [.log, .alerts, .settings]) left
    (x.segmentOpened_changesOnly k renter tariff) (by decide) (by decide)
  have settings : x.settings = s.settings := left .settings (by decide)
  have answer := handled.trans (x.openIn_eq k renter tariff)
  have log : (x.segmentOpened k renter tariff).log.entries =
    x.log.entries ++ [{ slot := k, seg := x.newSegment renter tariff }] := rfl
  have counters : (x.segmentOpened k renter tariff).settings =
    { x.settings with
      lastSegment := (x.newSegment renter tariff).number, lastSerial := (x.newSegment renter tariff).serial } := rfl
  generalize x.segmentOpened k renter tariff = y at *
  have prepared : s.prepares y 3 :=
    takes.prepares (State.onlyMarks_of_changesOnly opened (by decide))
      (State.offersAtMost_of_changesOnly 3 opened (by decide)) (opened .time (by decide))
      (congrArg RequestEngine.slots (opened .engine (by decide)))
  rw [prepared.hand takes.closed, (prepared.mark _).hand takes.closed] at answer
  obtain ⟨t, run, settled⟩ := exec_closed (c := .openRental 3 ops) (q := .openRental renter tariff) rfl parsed rfl takes
    ((prepared.mark (.slot k)).mark .settings)
    (State.changesOnly_trans (y.markRecord_changesOnly (.slot k)) (State.markRecord_changesOnly _ .settings))
    (State.isChanged_marks y (.slot k) .settings) answer
  refine ⟨t, x.newSegment renter tariff, run, ?_, rfl, rfl, rfl, ?_, ?_, ?_, settled.answers,
    settled.changesOnly opened (by decide) (by decide)⟩
  · rw [settled.changes .log (by decide), log]
  · exact (congrArg TimeBase.deviceTime (left .time (by decide))).trans rfl
  · exact congrArg (fun a : AccountTable => Tracked.current a.accounts) (left .accounts (by decide))
  · rw [settled.changes .settings (by decide), counters, settings]

/-! ## WRITE SETTING (R177) -/

/-- A per-account setting has an id of its table (R10). -/
theorem Account.writeSetting_range {a b : Account} {id raw : Nat} (written : a.writeSetting id raw = some b) :
    0x40 ≤ id ∧ id ≤ 0x44 := by
  unfold Account.writeSetting at written
  split at written
  case h_6 => cases written
  all_goals decide

/-- No device setting has one (R177). -/
theorem Settings.write_range {v w : Settings} {id : Nat} {x : Int} (written : v.write id x = some w) :
    ¬(0x40 ≤ id ∧ id ≤ 0x44) := by
  rintro ⟨low, -⟩
  rw [v.write_unknown id x (.inr (.inr (by omega)))] at written
  cases written

/-- A device setting written is ready to be answered, whatever it does at once. -/
theorem State.takesClosed.prepares_setting {s : State} {slot : SlotIx} (takes : s.takesClosed slot) (v : Settings)
    (id : Nat) : s.prepares ((s.restartLinger.withSettings v).applySetting id) slot := by
  have changed := (s.restartLinger.withSettings v).applySetting_changesOnly id
  have offers : s.restartLinger.offersAtMost ((s.restartLinger.withSettings v).applySetting id) 3 :=
    (s.restartLinger.withSettings v).applySetting_offers id
  have slots : ((s.restartLinger.withSettings v).applySetting id).engine.slots = s.engine.slots :=
    congrArg RequestEngine.slots (changed .engine (by decide))
  have marks (u : State) (m : (s.restartLinger.withSettings v).onlyMarks u) : s.restartLinger.onlyMarks u :=
    State.onlyMarks_after m rfl
  rcases (s.restartLinger.withSettings v).applySetting_cases id with ⟨-, e⟩ | ⟨-, e⟩ | ⟨-, -, -, e⟩
  · rw [e] at changed offers slots ⊢
    exact takes.prepares (marks _ (State.reclassifyAll_onlyMarks _)) offers (changed .time (by decide)) slots
  · rw [e] at changed offers slots ⊢
    exact takes.prepares (marks _ (State.onlyMarks_of_changesOnly (State.reformLatch_changesOnly _) (by decide))) offers
      (changed .time (by decide)) slots
  · obtain ⟨-, -, idle⟩ := takes.hears
    rw [e]
    exact ⟨rfl, rfl, rfl, rfl, takes.room, rfl, idle⟩

end Sys2Proof.Machine
end

section
/-! PROOFS. Requests while the store is OFFLINE or FLUSHING (O38): the statement. -/

namespace Sys2Proof.Machine

/-- Settles O38: each request's change marks its records, leaves the response its place, and is answered by the store's
state. -/
theorem storeStateDecidesAnswer : Obligations.StoreStateDecidesAnswer := by
  intro s slot closed office hears resting few
  have takes : s.takesClosed slot := ⟨closed, hears, resting, few⟩
  refine ⟨fun offline ops => ?_, fun flushing ops => ?_, fun ops e own opened => ?_,
    fun n1 n0 rest e own named state => ?_, fun terminal => ?_⟩
  · exact exec_checkpoint_refused ops office hears takes.room (State.handleCheckpoint_offline offline)
  · have answer := State.handleCheckpoint_flushing (s := s.restartLinger) flushing
    split
    · next none_ => exact exec_checkpoint_refused ops office hears takes.room (answer.trans (if_pos none_))
    · next some_ =>
      have run := exec_checkpoint ops office hears
      rw [answer.trans (if_neg some_)] at run
      exact ⟨_, run, Answer.conclude_deferred_waits s.restartLinger slot _ ops _ [],
        State.changesOnly_then s.restartLinger_changesOnly (State.setInFlight_changesOnly _ slot _) (by decide)
          (by decide)⟩
  · exact exec_closedSegment (q := .closeRental) rfl rfl office takes own (SegmentLog.openEntry_mem opened)
      (State.handleCloseRental_some (s := s.restartLinger) opened)
  · exact exec_closedSegment (q := .markExported (nat16 n1 n0)) rfl rfl office takes own (SegmentLog.named_mem named)
      (State.handleMarkExported_closed (s := s.restartLinger) named state)
  · subst terminal
    refine ⟨fun i rest normal => ?_, fun i rest b restoring buffer mine => ?_,
      fun r0 r1 r2 r3 r4 r5 tariff k before none_ place => ?_, fun k unlocked => ?_,
      fun id a v3 v2 v1 v0 rest v written => ?_, fun id a v3 v2 v1 v0 rest i b owner written => ?_⟩
    · have changed := s.restartLinger.serviceStarted_changesOnly i
      obtain ⟨t, run, own, others, settled⟩ := exec_closedAccount (c := .serviceReset 3 (byteOf i.val :: rest))
        (q := .serviceReset (byteOf i.val).toNat) rfl rfl takes
        (takes.prepares (s.restartLinger.serviceStarted_onlyMarks i)
          (State.offersAtMost_of_changesOnly 3 changed (by decide)) (changed .time (by decide))
          (congrArg RequestEngine.slots (changed .engine (by decide))))
        (State.handleServiceReset_normal (s := s.restartLinger) (accountOf_byteOf i) normal)
        (State.serviceStarted_account_same _ i) (State.serviceStarted_account_other _)
      exact ⟨t, run, own, others, settled.answers, settled.changesOnly changed (by decide) (by decide)⟩
    · have changed := s.restartLinger.restoreClosed_changesOnly i b.fields
      obtain ⟨t, run, own, others, settled⟩ := exec_closedAccount (c := .restoreDone 3 (byteOf i.val :: rest))
        (q := .restoreDone (byteOf i.val).toNat) rfl rfl takes
        (takes.prepares (s.restartLinger.restoreClosed_onlyMarks i b.fields)
          (State.offersAtMost_mono (s.restartLinger.restoreClosed_offers i b.fields) (by decide))
          (changed .time (by decide)) (s.restartLinger.restoreClosed_slots i b.fields))
        (State.handleRestoreDone_restoring (s := s.restartLinger) (accountOf_byteOf i) restoring buffer mine)
        (State.restoreClosed_account_same _ i b.fields) (State.restoreClosed_account_other _ i b.fields)
      refine ⟨t, run, own, others, settled.restore.trans (State.restoreClosed_restore _ i b.fields), ?_,
        settled.answers, settled.changesOnly changed (by decide) (by decide)⟩
      rw [settled.changes .alerts (by decide)]
      exact State.restoreClosed_holds _ i b.fields
    · have parsed : parseRequest (0x10#8).toNat [r0, r1, r2, r3, r4, r5, tariff] =
          some (.openRental [r0, r1, r2, r3, r4, r5] tariff) := rfl
      rcases place with ⟨unused, rfl⟩ | ⟨used, e, old, rfl, rfl⟩
      · exact exec_closedOpening (x := s.restartLinger) parsed takes (State.changesOnly_refl _ _)
          (State.handleOpenRental_unused (s := s.restartLinger) _ _ none_ unused)
      · have entries : (s.restartLinger.reclaim e).log.entries = s.log.entries.filter fun x => x.slot != e.slot := by
          rw [State.reclaim_log]
          rfl
        rw [← entries]
        exact exec_closedOpening parsed takes (s.restartLinger.reclaim_changesOnly e)
          (State.handleOpenRental_reclaims (s := s.restartLinger) _ _ none_ used old)
    · refine ⟨fun m l1 l0 h1 h0 rest metric known => ⟨?_, ?_⟩, fun rest => ?_, fun a c b w1 w0 n w spelled => ?_,
        fun enabled rest => ?_⟩
      · exact exec_closedEdit (q := .bandPrimary (byteOf k.val).toNat m.toNat (int16 l1 l0) (int16 h1 h0)) rfl rfl takes
          unlocked (State.handleBandPrimary_edit _ k _ _ known)
      · exact exec_closedEdit rfl (parseBandSecondary_metric known _ _ _ _ _ _) takes unlocked
          (State.handleBandSecondary_edit _ k (secondaryOf_metric _ _ known))
      · exact exec_closedEdit (q := .bandSecondary (byteOf k.val).toNat 255 0 0) rfl rfl takes unlocked
          (State.handleBandSecondary_edit _ k rfl)
      · exact exec_closedEdit
          (q := .bandWeight (byteOf k.val).toNat a.toNat c.toNat b.toNat (nat16 w1 w0) n.toNat) rfl rfl takes unlocked
          (State.handleBandWeight_edit _ k spelled)
      · exact exec_closedBand (q := .bandLock (byteOf k.val).toNat) rfl rfl takes
          (State.handleBandLock_enabled (s := s.restartLinger) unlocked enabled)
    · have range := Settings.write_range written
      have changed := (s.restartLinger.withSettings v).applySetting_changesOnly id.toNat
      obtain ⟨t, run, settled⟩ := exec_closed_one
        (c := .writeSetting 3 (id :: a :: v3 :: v2 :: v1 :: v0 :: rest))
        (q := .writeSetting id.toNat a.toNat (nat32 v3 v2 v1 v0)) rfl rfl rfl takes (takes.prepares_setting v id.toNat)
        (State.handleWriteSetting_device (s := s.restartLinger) range written)
      have whole := State.changesOnly_then (rs := intakeParts ++ [.engine]) changed settled.changes (by decide)
        (by decide)
      exact ⟨t, run, whole .settings (by decide), settled.answers, whole .bands (by decide), whole .log (by decide),
        whole .lines (by decide)⟩
    · have changed := s.restartLinger.accountWritten_changesOnly i id.toNat b
      obtain ⟨t, run, own, others, settled⟩ := exec_closedAccount
        (c := .writeSetting 3 (id :: a :: v3 :: v2 :: v1 :: v0 :: rest))
        (q := .writeSetting id.toNat a.toNat (nat32 v3 v2 v1 v0)) rfl rfl takes
        (takes.prepares (State.onlyMarks_of_changesOnly changed (by decide))
          (State.offersAtMost_mono (s.restartLinger.accountWritten_offers i id.toNat b) (by decide))
          (changed .time (by decide)) (congrArg RequestEngine.slots (changed .engine (by decide))))
        (State.handleWriteSetting_account (s := s.restartLinger) (Account.writeSetting_range written)
          (by rw [owner]; exact accountOf_val i) written)
        (State.accountWritten_account_same _ i id.toNat b) (State.accountWritten_account_other _ i id.toNat b)
      exact ⟨t, run, own, others, settled.answers, settled.changesOnly changed (by decide) (by decide)⟩

end Sys2Proof.Machine
end

section
/-! PROOFS. Requests answered at once: the BUSY answer (O22), STATUS (O23), READ (O24), NEXT with the lengths of the
images (O25) and RESET DEVICE (O28). -/

namespace Sys2Proof.Machine

/-! ## A BUSY slot (O22) -/

/-- The transmit queue has a free place while it holds fewer than 8 frames (R172). -/
theorem Port.hasRoom_iff (p : Port) : p.hasRoom = true ↔ p.tx.length < 8 := by
  simp [Port.hasRoom, txPlaces]

/-- The data bytes of a frame are its kind code, 0xFF in place of one that is not there, and its operands (R195). -/
theorem State.takeRequestData_headD (s : State) (slot : SlotIx) (data : List Byte) :
    s.takeRequestData slot data = s.takeRequest slot (data.headD 0xFF#8) data.tail := by
  cases data <;> rfl

/-- At a BUSY slot a request is answered BUSY, or nothing but the linger changes (R171). -/
theorem State.takeRequest_busy {s : State} {slot : SlotIx} {q : InFlight} (kind : Byte) (ops : List Byte)
    (busy : s.engine.slots[slot].inFlight = some q) :
    s.takeRequest slot kind ops =
      if s.port.tx.length < 8 then s.responded slot kind .busy [] else s.restartLinger := by
  unfold State.takeRequest
  rw [busy]
  exact if_congr (Port.hasRoom_iff _) rfl rfl

/-- Settles O22: a request frame of either form reaches its slot, and a BUSY slot answers BUSY or not at all. -/
theorem busySlotAnswersBusy : Obligations.BusySlotAnswersBusy := by
  rintro c s slot kind q request on active busy
  rcases request with ⟨ops, request⟩ | ⟨data, rfl, rfl⟩
  · rw [exec_request request, State.requestFrame, s.hearFrame_active _ on active, State.takeRequest_busy kind ops busy]
  · have heard : exec (.unknownRequest slot data) s = .next (s.takeRequestData slot data) :=
      congrArg Host.Outcome.next (s.hearFrame_active _ on active)
    rw [heard, s.takeRequestData_headD, State.takeRequest_busy _ _ busy]

/-! ## STATUS (O23) -/

/-- A response that finds the transmit queue full is HELD in its slot (R172). -/
theorem State.offer_full {s : State} (slot : SlotIx) (kind : Byte) (ops : List Byte) (f : Frame)
    (full : s.port.hasRoom = false) :
    s.offer slot kind ops f = s.setInFlight slot (some { kind := kind, ops := ops, phase := .held f }) := by
  simp [State.offer, full]

/-- A permitted request answered at once, with room, leaves what its owning block made of the state and its response. -/
theorem exec_permitted_atOnce {c : Instr} {s t : State} {slot : SlotIx} {kind : Byte} {ops payload : List Byte}
    {q : Request} {o : ReqOutcome} (request : requestOf c = some (slot, kind, ops))
    (parsed : parseRequest kind.toNat ops = some q) (hears : s.hears slot) (permitted : q.permitted slot = true)
    (rest : (q.needsRest && !s.atRest) = false) (handled : s.restartLinger.handle slot q = .atOnce t o payload)
    (idle : t.engine.slots[slot].inFlight = none) (room : t.port.hasRoom = true) :
    exec c s = .next { t with port := t.port.push (responseFrame t.time.straps slot kind o payload false) } := by
  rw [exec_permitted request parsed hears permitted rest, handled,
    Answer.conclude_atOnce t slot kind ops o payload idle room]

/-- Settles O23: STATUS is decided alike for every role; its response enters the queue, and is HELD if that is full. -/
theorem statusIsAnswered : Obligations.StatusIsAnswered := by
  intro s slot ops hears payload
  have ⟨_, _, idle⟩ := hears
  by_cases free : s.port.tx.length < 8
  · rw [if_pos free]
    exact exec_permitted_atOnce (q := .status) rfl rfl hears rfl rfl rfl idle (s.port.hasRoom_iff.mpr free)
  · have full : s.restartLinger.port.hasRoom = false := by
      rw [← Bool.not_eq_true]
      exact fun room => free (s.port.hasRoom_iff.mp room)
    rw [if_neg free, exec_permitted (q := .status) rfl rfl hears rfl rfl]
    exact congrArg Host.Outcome.next (State.offer_full slot 0x01#8 ops _ full)

/-! ## READ (O24) -/

/-- Putting an image into a slot's buffer leaves what the slot has in flight. -/
@[simp] theorem State.inFlight_setBuffer_same (s : State) (slot : SlotIx) (b : ReadBuffer) :
    (s.setBuffer slot b).engine.slots[slot].inFlight = s.engine.slots[slot].inFlight := by
  simp

/-- READ answers the image of the index, or EMPTY with the all-zero image of the region (R174). -/
theorem State.handleRead_eq (s : State) (slot : SlotIx) (r : Region) (n : Nat) :
    s.handleRead slot r n =
      s.answerImage slot r n ((s.image r n).getD r.emptyImage) (if (s.image r n).isSome then .ok else .empty) := by
  unfold State.handleRead
  cases s.image r n <;> rfl

/-- No image shows the linger. -/
theorem State.image_restartLinger (s : State) (r : Region) (n : Nat) : s.restartLinger.image r n = s.image r n := by
  cases r <;> rfl

/-- Settles O24: the owning block puts the image into the buffer and answers its first five bytes at once. -/
theorem readFillsBuffer : Obligations.ReadFillsBuffer := by
  intro s slot r n rest reg region permitted hears room image o
  have parsed : parseRequest (0x02#8 : Byte).toNat (r :: n :: rest) = some (.read reg n.toNat) := by
    simp [parseRequest, parseRead, region]
  have handled : s.restartLinger.handle slot (.read reg n.toNat) =
      s.restartLinger.answerImage slot reg n.toNat image o := by
    rw [State.handle, State.handleRead_eq, s.image_restartLinger]
    rfl
  have ⟨_, _, idle⟩ := hears
  exact exec_permitted_atOnce rfl parsed hears permitted rfl handled
    ((State.inFlight_setBuffer_same _ slot _).trans idle) room

/-! ## The lengths of the images (R48, R106, R113, R147, R173, R191, R196, R197)

The images of an account and of the settings are opened by `delta`: the equation lemma of a concatenation of so many
fields is costly. -/

@[simp] theorem length_bytes8 (n : Nat) : (bytes8 n).length = 1 := rfl

@[simp] theorem length_bytes16 (n : Nat) : (bytes16 n).length = 2 := rfl

@[simp] theorem length_bytes24 (n : Nat) : (bytes24 n).length = 3 := rfl

@[simp] theorem length_bytes32 (n : Nat) : (bytes32 n).length = 4 := rfl

@[simp] theorem length_bytesInt16 (v : Int) : (bytesInt16 v).length = 2 := rfl

@[simp] theorem length_absentBytes (n : Nat) : (absentBytes n).length = n := List.length_replicate

@[simp] theorem length_opt32 (x : Option Nat) : (opt32 x).length = 4 := by
  cases x <;> rfl

@[simp] theorem length_opt16 (x : Option Nat) : (opt16 x).length = 2 := by
  cases x <;> rfl

theorem Account.length_image (a : Account) (i : AccountIx) : (a.image i).length = 95 := by
  delta Account.image
  simp

@[simp] theorem Figures.length_bytes (f : Figures) : f.bytes.length = 12 := by
  simp [Figures.bytes]

@[simp] theorem Tracked.length_bytes (t : Tracked) : t.bytes.length = 72 := by
  simp [Tracked.bytes]

/-- A segment's image is as long as its region's where its renter reference has 6 bytes (R113, R196). -/
theorem Segment.length_layout {g : Segment} (renter : g.renter.length = 6) : g.layout.length = 95 := by
  simp [Segment.layout, renter]

theorem Segment.length_image {g : Segment} (renter : g.renter.length = 6) : g.image.length = 95 := by
  unfold Segment.image
  split
  · exact Segment.length_layout rfl
  all_goals exact Segment.length_layout renter

/-- What READ shows of an OPEN segment keeps its renter reference (R120). -/
@[simp] theorem Segment.shown_renter (g : Segment) (current : Tracked) : (g.shown current).renter = g.renter := by
  unfold Segment.shown
  split <;> rfl

@[simp] theorem Condition.length_bytes (c : Condition) : c.bytes.length = 5 := rfl

@[simp] theorem length_optCondition (c : Option Condition) : (optCondition c).length = 5 := by
  cases c <;> rfl

@[simp] theorem WeightPart.length_bytes (w : WeightPart) : w.bytes.length = 5 := rfl

@[simp] theorem length_optWeight (w : Option WeightPart) : (optWeight w).length = 6 := by
  cases w <;> rfl

theorem BandEntry.length_image (e : BandEntry) (k : Fin 16) : (e.image k).length = 35 := by
  simp [BandEntry.image]

theorem HistoryEntry.length_image (e : HistoryEntry) : e.image.length = 12 := by
  simp [HistoryEntry.image]

theorem State.length_qualifierImage (s : State) : s.qualifierImage.length = 10 := by
  simp [State.qualifierImage]

theorem AlertEntry.length_image (e : AlertEntry) : e.image.length = 15 := by
  simp [AlertEntry.image]

theorem State.length_statusImage (s : State) : s.statusImage.length = 17 := by
  simp [State.statusImage]

theorem ResetRecord.length_image (r : ResetRecord) : r.image.length = 7 := by
  simp [ResetRecord.image]

@[simp] theorem OilLimits.length_bytes (l : OilLimits) : l.bytes.length = 3 := rfl

@[simp] theorem Filter.length_bytes (f : Filter) : f.bytes.length = 6 := by
  simp [Filter.bytes]

theorem Settings.length_image (v : Settings) : v.image.length = 55 := by
  delta Settings.image
  simp

/-- The image of an index is as long as its region's, but for the reset record and the Qualifier status (R175). -/
theorem State.length_image {s : State} {r : Region} {n : Nat} {image : List Byte}
    (renters : ∀ e ∈ s.log.entries, e.seg.renter.length = 6) (found : s.image r n = some image) :
    image.length =
      if r = .status ∧ n = 1 then 7 else if r = .startHistory ∧ n = 16 then 10 else r.imageLength := by
  cases r with
  | status =>
    match n with
    | 0 =>
      rw [← Option.some.inj found]
      exact s.length_statusImage
    | 1 =>
      rw [← Option.some.inj found]
      exact ResetRecord.length_image _
    | _ + 2 => cases found
  | account =>
    obtain ⟨i, -, rfl⟩ := Option.map_eq_some_iff.mp found
    exact Account.length_image _ i
  | segment =>
    obtain ⟨e, here, rfl⟩ := Option.map_eq_some_iff.mp found
    refine Segment.length_image ?_
    rw [Segment.shown_renter]
    exact renters e (List.mem_of_getElem? here)
  | band =>
    obtain ⟨k, -, rfl⟩ := Option.map_eq_some_iff.mp found
    exact BandEntry.length_image _ k
  | startHistory =>
    by_cases whole : n = 16
    · subst whole
      rw [← Option.some.inj found]
      exact s.length_qualifierImage
    · obtain ⟨e, -, rfl⟩ := Option.map_eq_some_iff.mp ((if_neg whole).symm.trans found)
      simp [whole, e.length_image, Region.imageLength]
  | alert =>
    obtain ⟨e, -, rfl⟩ := Option.map_eq_some_iff.mp found
    exact e.length_image
  | settings =>
    obtain ⟨-, whole⟩ := Option.ite_none_right_eq_some.mp found
    rw [← Option.some.inj whole]
    exact Settings.length_image _

/-! ## NEXT (O25) -/

/-- With no buffer NEXT is refused (R175). -/
theorem State.handleNext_none {s : State} {slot : SlotIx} (empty : s.engine.slots[slot].buffer = none) :
    s.handleNext slot = .refusal s .stateRefused := by
  unfold State.handleNext
  rw [empty]

/-- With the cursor within the image NEXT answers from it and moves it by 5 (R175). -/
theorem State.handleNext_within {s : State} {slot : SlotIx} {b : ReadBuffer}
    (filled : s.engine.slots[slot].buffer = some b) (within : b.offset < b.image.length) :
    s.handleNext slot =
      .atOnce (s.setBuffer slot { b with offset := b.offset + 5 }) .ok
        (byteOf b.offset :: fiveFrom b.image b.offset) := by
  unfold State.handleNext
  rw [filled]
  exact if_pos within

/-- With the cursor at or beyond the image's end NEXT answers END (R175). -/
theorem State.handleNext_beyond {s : State} {slot : SlotIx} {b : ReadBuffer}
    (filled : s.engine.slots[slot].buffer = some b) (beyond : ¬b.offset < b.image.length) :
    s.handleNext slot = .refusal s .ended := by
  unfold State.handleNext
  rw [filled]
  exact if_neg beyond

/-- Settles O25: NEXT by the slot's buffer and its cursor; the lengths by region. -/
theorem nextWalksBuffer : Obligations.NextWalksBuffer := by
  refine ⟨fun s slot ops hears room => ?_, fun s r n image renters found => ?_⟩
  · have refused {o : ReqOutcome} (handled : s.restartLinger.handleNext slot = .refusal s.restartLinger o) :
        exec (.next slot ops) s = .next (s.responded slot 0x03#8 o []) :=
      exec_permitted_refused (q := .next) rfl rfl hears rfl rfl room handled
    cases buffer : s.engine.slots[slot].buffer with
    | none => exact refused (State.handleNext_none buffer)
    | some b =>
      by_cases within : b.offset < b.image.length
      · have ⟨_, _, idle⟩ := hears
        dsimp only
        rw [if_pos within]
        exact exec_permitted_atOnce (q := .next) rfl rfl hears rfl rfl
          (State.handleNext_within (s := s.restartLinger) buffer within)
          ((State.inFlight_setBuffer_same _ slot _).trans idle) room
      · dsimp only
        rw [if_neg within]
        exact refused (State.handleNext_beyond (s := s.restartLinger) buffer within)
  · rw [State.length_image renters found]
    cases r <;> simp [Region.imageLength]

/-! ## RESET DEVICE (O28) -/

/-- A response that begins a reset takes a free place and leaves an IDLE slot IDLE (R178). -/
theorem Answer.conclude_resetting (t : State) (slot : SlotIx) (kind : Byte) (ops : List Byte)
    (idle : t.engine.slots[slot].inFlight = none) (room : t.port.hasRoom = true) :
    Answer.conclude slot kind ops (.resetting t) =
      { t with port := t.port.push (responseFrame t.time.straps slot kind .ok [] true) } :=
  (t.offer_room _ _ _ _ room).trans (State.setInFlight_idle _ slot idle)

/-- A second RESET DEVICE while one is pending adds nothing (R178). -/
theorem State.handleResetDevice_pending {s : State} (pending : s.engine.resetPending = true) :
    s.handleResetDevice = .refusal s .ok := by
  unfold State.handleResetDevice
  rw [pending]
  rfl

/-- With no reset pending or due RESET DEVICE marks one pending (R178). -/
theorem State.handleResetDevice_first {s : State} (fresh : s.engine.resetPending = false)
    (undue : s.engine.resetDue = false) :
    s.handleResetDevice = .resetting { s with engine := { s.engine with resetPending := true } } := by
  unfold State.handleResetDevice
  rw [fresh, undue]
  rfl

/-- Settles O28: with a reset pending nothing is added; else one is marked pending, and the response carries its start. -/
theorem resetDeviceMarksPending : Obligations.ResetDeviceMarksPending := by
  intro s ops hears resting room undue
  cases pending : s.engine.resetPending with
  | true =>
    exact exec_refused (q := .resetDevice) rfl rfl hears resting room
      (State.handleResetDevice_pending (s := s.restartLinger) pending)
  | false =>
    have handled := State.handleResetDevice_first (s := s.restartLinger) pending undue
    rw [exec_terminal (q := .resetDevice) rfl rfl hears resting, State.handle, handled]
    obtain ⟨-, -, idle⟩ := hears
    exact congrArg Host.Outcome.next (Answer.conclude_resetting _ 3 _ ops idle room)

end Sys2Proof.Machine
end

section
/-! PROOFS. The order in which a request is refused (O20): what each kind's operands must be (R194), the rights (R168) and
the interlock (R169) by kind code. -/

namespace Sys2Proof.Machine

/-! ## Operands by kind (R194) -/

/-- The kind code of a request (R194). -/
def Request.code : Request → Nat
  | .status => 0x01
  | .read _ _ => 0x02
  | .next => 0x03
  | .openRental _ _ => 0x10
  | .closeRental => 0x11
  | .markExported _ => 0x12
  | .ackAlert _ _ => 0x18
  | .serviceReset _ => 0x20
  | .restoreField _ _ _ => 0x21
  | .restoreDone _ => 0x22
  | .bandPrimary _ _ _ _ => 0x30
  | .bandSecondary _ _ _ _ => 0x31
  | .bandWeight _ _ _ _ _ _ => 0x32
  | .bandLock _ => 0x33
  | .writeSetting _ _ _ => 0x40
  | .checkpoint => 0x50
  | .resetDevice => 0x5A

/-- Operand bytes spell a request of the kind, unless they are malformed. -/
structure parsesAs (parsed : Option Request) (kind : Nat) (malformed : Prop) : Prop where
  none_iff : parsed = none ↔ malformed
  code_eq : ∀ q, parsed = some q → q.code = kind

theorem parsesAs_none {kind : Nat} {malformed : Prop} (h : malformed) : parsesAs none kind malformed where
  none_iff := iff_of_true rfl h
  code_eq := nofun

theorem parsesAs_some {q : Request} {malformed : Prop} (h : ¬malformed) : parsesAs (some q) q.code malformed where
  none_iff := iff_of_false nofun h
  code_eq _ same := congrArg Request.code (Option.some.inj same).symm

theorem regionOfCode_eq_none_iff (n : Nat) : regionOfCode n = none ↔ 6 < n := by
  constructor
  · intro unknown
    by_contra small
    interval_cases n <;> cases unknown
  · intro large
    unfold regionOfCode
    split <;> first | omega | rfl

theorem parseRead_parses : ∀ ops : List Byte,
    parsesAs (parseRead ops) 0x02 (ops.length < 2 ∨ 6 < (ops.getD 0 0#8).toNat)
  | [] | [_] => parsesAs_none (by simp)
  | r :: i :: rest => by
    have code : 6 < r.toNat ↔ (r :: i :: rest).length < 2 ∨ 6 < r.toNat := by simp
    unfold parseRead
    dsimp only
    cases region : regionOfCode r.toNat with
    | none => exact parsesAs_none (code.mp ((regionOfCode_eq_none_iff _).mp region))
    | some reg =>
      have named : ¬6 < r.toNat := fun large =>
        absurd (((regionOfCode_eq_none_iff _).mpr large).symm.trans region) nofun
      exact parsesAs_some (mt code.mpr named)

theorem parseOpenRental_parses : ∀ ops : List Byte, parsesAs (parseOpenRental ops) 0x10 (ops.length < 7)
  | [] | [_] | [_, _] | [_, _, _] | [_, _, _, _] | [_, _, _, _, _] | [_, _, _, _, _, _] => parsesAs_none (by simp)
  | _ :: _ :: _ :: _ :: _ :: _ :: _ :: _ => parsesAs_some (by simp)

theorem parseMarkExported_parses : ∀ ops : List Byte, parsesAs (parseMarkExported ops) 0x12 (ops.length < 2)
  | [] | [_] => parsesAs_none (by simp)
  | _ :: _ :: _ => parsesAs_some (by simp)

theorem parseAckAlert_parses : ∀ ops : List Byte, parsesAs (parseAckAlert ops) 0x18 (ops.length < 2)
  | [] | [_] => parsesAs_none (by simp)
  | _ :: _ :: _ => parsesAs_some (by simp)

theorem parseServiceReset_parses : ∀ ops : List Byte, parsesAs (parseServiceReset ops) 0x20 (ops.length < 1)
  | [] => parsesAs_none (by simp)
  | _ :: _ => parsesAs_some (by simp)

theorem parseRestoreField_parses : ∀ ops : List Byte, parsesAs (parseRestoreField ops) 0x21 (ops.length < 6)
  | [] | [_] | [_, _] | [_, _, _] | [_, _, _, _] | [_, _, _, _, _] => parsesAs_none (by simp)
  | _ :: _ :: _ :: _ :: _ :: _ :: _ => parsesAs_some (by simp)

theorem parseRestoreDone_parses : ∀ ops : List Byte, parsesAs (parseRestoreDone ops) 0x22 (ops.length < 1)
  | [] => parsesAs_none (by simp)
  | _ :: _ => parsesAs_some (by simp)

theorem parseBandPrimary_parses : ∀ ops : List Byte, parsesAs (parseBandPrimary ops) 0x30 (ops.length < 6)
  | [] | [_] | [_, _] | [_, _, _] | [_, _, _, _] | [_, _, _, _, _] => parsesAs_none (by simp)
  | _ :: _ :: _ :: _ :: _ :: _ :: _ => parsesAs_some (by simp)

theorem parseBandSecondary_parses : ∀ ops : List Byte,
    parsesAs (parseBandSecondary ops) 0x31 (ops.length < 2 ∨ ((ops.getD 1 0#8).toNat ≠ 255 ∧ ops.length < 6))
  | [] | [_] => parsesAs_none (by simp)
  | _ :: m :: rest => by
    unfold parseBandSecondary
    dsimp only
    split
    · next absent => exact parsesAs_some (by simp [absent])
    · next present =>
      match rest with
      | [] | [_] | [_, _] | [_, _, _] => exact parsesAs_none (by simp [present])
      | _ :: _ :: _ :: _ :: _ => exact parsesAs_some (by simp)

theorem parseBandWeight_parses : ∀ ops : List Byte, parsesAs (parseBandWeight ops) 0x32 (ops.length < 7)
  | [] | [_] | [_, _] | [_, _, _] | [_, _, _, _] | [_, _, _, _, _] | [_, _, _, _, _, _] => parsesAs_none (by simp)
  | _ :: _ :: _ :: _ :: _ :: _ :: _ :: _ => parsesAs_some (by simp)

theorem parseBandLock_parses : ∀ ops : List Byte, parsesAs (parseBandLock ops) 0x33 (ops.length < 1)
  | [] => parsesAs_none (by simp)
  | _ :: _ => parsesAs_some (by simp)

theorem parseWriteSetting_parses : ∀ ops : List Byte, parsesAs (parseWriteSetting ops) 0x40 (ops.length < 6)
  | [] | [_] | [_, _] | [_, _, _] | [_, _, _, _] | [_, _, _, _, _] => parsesAs_none (by simp)
  | _ :: _ :: _ :: _ :: _ :: _ :: _ => parsesAs_some (by simp)

/-- A frame with fewer operands than its kind takes, or a READ of no region (R167, step 2; R194). -/
def operandsShort (kind : Nat) (ops : List Byte) : Prop :=
  match kind with
  | 0x02 => ops.length < 2 ∨ 6 < (ops.getD 0 0#8).toNat
  | 0x10 | 0x32 => ops.length < 7
  | 0x12 | 0x18 => ops.length < 2
  | 0x20 | 0x22 | 0x33 => ops.length < 1
  | 0x21 | 0x30 | 0x40 => ops.length < 6
  | 0x31 => ops.length < 2 ∨ ((ops.getD 1 0#8).toNat ≠ 255 ∧ ops.length < 6)
  | _ => False

/-- A frame of a known kind spells a request of it unless it is short (R194). -/
theorem parseRequest_parses {kind : Nat} (known : kind ∈ kindCodes) (ops : List Byte) :
    parsesAs (parseRequest kind ops) kind (operandsShort kind ops) := by
  simp only [kindCodes, List.mem_cons, List.not_mem_nil, or_false] at known
  rcases known with rfl | rfl | rfl | rfl | rfl | rfl | rfl | rfl | rfl | rfl | rfl | rfl | rfl | rfl | rfl | rfl | rfl
  · exact parsesAs_some (q := .status) id
  · exact parseRead_parses ops
  · exact parsesAs_some (q := .next) id
  · exact parseOpenRental_parses ops
  · exact parsesAs_some (q := .closeRental) id
  · exact parseMarkExported_parses ops
  · exact parseAckAlert_parses ops
  · exact parseServiceReset_parses ops
  · exact parseRestoreField_parses ops
  · exact parseRestoreDone_parses ops
  · exact parseBandPrimary_parses ops
  · exact parseBandSecondary_parses ops
  · exact parseBandWeight_parses ops
  · exact parseBandLock_parses ops
  · exact parseWriteSetting_parses ops
  · exact parsesAs_some (q := .checkpoint) id
  · exact parsesAs_some (q := .resetDevice) id

/-- An unknown kind code spells no request (R167, step 2). -/
theorem parseRequest_unknown {kind : Nat} (unknown : kind ∉ kindCodes) (ops : List Byte) :
    parseRequest kind ops = none := by
  unfold parseRequest
  split
  case h_18 => rfl
  all_goals exact absurd (by decide) unknown

/-- A request command carries one of the seventeen kind codes (R194). -/
theorem mem_kindCodes_of_requestOf {c : Instr} {slot : SlotIx} {kind : Byte} {ops : List Byte}
    (request : requestOf c = some (slot, kind, ops)) : kind.toNat ∈ kindCodes := by
  cases c <;> simp only [requestOf, Option.some.injEq, Prod.mk.injEq, reduceCtorEq] at request <;>
    obtain ⟨-, rfl, -⟩ := request <;> decide

/-! ## Rights and interlock by kind code (R168, R169) -/

/-- An index within the rights of a controller's slot, any index for the fleet gateway and the depot terminal (R168). -/
def ownsCode (slot : SlotIx) (n : Nat) : Prop :=
  (slot = 0 ∧ n ≤ 1) ∨ (slot = 1 ∧ 2 ≤ n ∧ n ≤ 4) ∨ slot = 2 ∨ slot = 3

theorem ownsIndex_iff (slot : SlotIx) (n : Nat) : ownsIndex slot n = true ↔ ownsCode slot n := by
  match slot with
  | 0 | 1 | 2 | 3 => simp [ownsIndex, ownsCode]

theorem isOffice_iff (slot : SlotIx) : isOffice slot = true ↔ slot = 2 ∨ slot = 3 := by
  simp [isOffice]

/-- The table of R168 by kind code, on the first two operand bytes. -/
def withinRights (kind : Nat) (slot : SlotIx) (first second : Nat) : Prop :=
  match kind with
  | 0x01 | 0x03 => True
  | 0x02 =>
    match first with
    | 0 | 5 => True
    | 1 => ownsCode slot second
    | 4 => slot ≠ 1
    | _ => slot = 2 ∨ slot = 3
  | 0x18 => ownsCode slot first
  | 0x11 | 0x12 | 0x50 => slot = 2 ∨ slot = 3
  | _ => slot = 3

/-- The rights to READ are the rights of its region (R168). -/
theorem Request.permitted_read_iff {first : Nat} {reg : Region} (region : regionOfCode first = some reg) (slot : SlotIx)
    (second : Nat) : (Request.read reg second).permitted slot = true ↔ withinRights 0x02 slot first second := by
  unfold regionOfCode at region
  split at region <;> cases region
  · exact iff_of_true rfl trivial
  · exact ownsIndex_iff slot second
  · exact isOffice_iff slot
  · exact isOffice_iff slot
  · exact bne_iff_ne
  · exact iff_of_true rfl trivial
  · exact isOffice_iff slot

/-- What READ's operands spell. -/
theorem parseRead_eq_some {ops : List Byte} {reg : Region} {n : Nat} (parsed : parseRead ops = some (.read reg n)) :
    regionOfCode (ops.getD 0 0#8).toNat = some reg ∧ n = (ops.getD 1 0#8).toNat := by
  match ops with
  | r :: i :: _ =>
    obtain ⟨_, region, same⟩ := Option.map_eq_some_iff.mp parsed
    cases same
    exact ⟨region, rfl⟩

/-- What ACK ALERT's operands spell. -/
theorem parseAckAlert_eq_some {ops : List Byte} {source cause : Nat}
    (parsed : parseAckAlert ops = some (.ackAlert source cause)) : source = (ops.getD 0 0#8).toNat := by
  match ops with
  | _ :: _ :: _ =>
    cases parsed
    rfl

/-- The rights of a role on a request are those of R168's table. -/
theorem Request.permitted_iff {q : Request} {ops : List Byte} (parsed : parseRequest q.code ops = some q)
    (slot : SlotIx) :
    q.permitted slot = true ↔ withinRights q.code slot (ops.getD 0 0#8).toNat (ops.getD 1 0#8).toNat := by
  cases q with
  | status | next => exact iff_of_true rfl trivial
  | read reg n =>
    obtain ⟨region, rfl⟩ := parseRead_eq_some parsed
    exact Request.permitted_read_iff region slot _
  | ackAlert source cause =>
    rw [← parseAckAlert_eq_some parsed]
    exact ownsIndex_iff slot source
  | closeRental | markExported _ | checkpoint => exact isOffice_iff slot
  | _ => exact beq_iff_eq

/-- The kinds subject to the interlock are the eleven of R169. -/
theorem Request.needsRest_iff (q : Request) :
    q.needsRest = true ↔ q.code ∈ [0x10, 0x11, 0x20, 0x21, 0x22, 0x30, 0x31, 0x32, 0x33, 0x40, 0x5A] := by
  cases q <;> simp [Request.needsRest, Request.code]

/-- A signal's value is known while it is not UNKNOWN (R25, R31). -/
theorem Signal.known_eq_some_iff {α : Type} (sig : Signal α) (v : α) :
    sig.known = some v ↔ sig.ageing.cls ≠ .unknown ∧ sig.value = some v := by
  unfold Signal.known
  cases sig.ageing.cls <;> simp

/-- At rest: IGN released, or the output speed known to be 0 (R169). -/
theorem State.atRest_iff (s : State) :
    s.atRest = true ↔
      s.lines.ign = false ∨ (s.intake.outputSpeed.ageing.cls ≠ .unknown ∧ s.intake.outputSpeed.value = some 0) := by
  rw [← Signal.known_eq_some_iff, or_comm]
  simp [State.atRest]

/-! ## The order of R167 -/

theorem State.decideRequest_unspelled {s : State} {slot : SlotIx} {kind : Byte} {ops : List Byte}
    (unspelled : parseRequest kind.toNat ops = none) : s.decideRequest slot kind ops = .refusal s .badRequest := by
  simp [State.decideRequest, unspelled]

theorem State.decideRequest_denied {s : State} {slot : SlotIx} {kind : Byte} {ops : List Byte} {q : Request}
    (parsed : parseRequest kind.toNat ops = some q) (denied : q.permitted slot = false) :
    s.decideRequest slot kind ops = .refusal s .denied := by
  simp [State.decideRequest, parsed, denied]

theorem State.decideRequest_notAtRest {s : State} {slot : SlotIx} {kind : Byte} {ops : List Byte} {q : Request}
    (parsed : parseRequest kind.toNat ops = some q) (permitted : q.permitted slot = true) (needs : q.needsRest = true)
    (moving : s.atRest = false) : s.decideRequest slot kind ops = .refusal s .notAtRest := by
  simp [State.decideRequest, parsed, permitted, needs, moving]

/-- Where the part hears it, a frame of no data byte or of an unknown kind is a request frame of no request (R195). -/
theorem exec_unknownRequest {s : State} {slot : SlotIx} (data : List Byte) (hears : s.hears slot) :
    exec (.unknownRequest slot data) s = .next (s.requestFrame slot (data.headD 0xFF#8) data.tail) := by
  obtain ⟨on, active, -⟩ := hears
  refine congrArg Host.Outcome.next ?_
  rw [State.requestFrame, s.hearFrame_active _ on active, s.hearFrame_active _ on active, s.takeRequestData_headD]

theorem notMem_kindCodes_of_kindUnknown {data : List Byte} (unknown : kindUnknown data = true) :
    (data.headD 0xFF#8).toNat ∉ kindCodes := by
  cases data with
  | nil => decide
  | cons kind ops => simpa [kindUnknown] using unknown

/-- Settles O20: the frame's operands, then the rights, then the interlock, each by its table; a refusal adds a response. -/
theorem requestsAreRefusedInOrder : Obligations.RequestsAreRefusedInOrder := by
  refine ⟨fun c s slot kind ops request => ?_, fun s slot data unknown hears room => ?_⟩
  · intro first second malformed owns rights interlocked resting
    have spells := parseRequest_parses (mem_kindCodes_of_requestOf request) ops
    have short : parseRequest kind.toNat ops = none ↔ malformed := spells.none_iff
    have table : ∀ q, parseRequest kind.toNat ops = some q →
        (q.permitted slot = true ↔ rights) ∧ (q.needsRest = true ↔ interlocked) := by
      intro q parsed
      have code := spells.code_eq q parsed
      rw [← code] at parsed
      have permitted := Request.permitted_iff parsed slot
      have needs := q.needsRest_iff
      rw [code] at permitted needs
      exact ⟨permitted, needs⟩
    have still : s.atRest = true ↔ resting := s.atRest_iff
    refine ⟨short, table, still, fun hears room => ?_⟩
    have refused {o : ReqOutcome}
        (decided : s.restartLinger.decideRequest slot kind ops = .refusal s.restartLinger o) :
        exec c s = .next (s.responded slot kind o []) :=
      (exec_request request s).trans (congrArg _ (s.requestFrame_atOnce slot kind ops o [] hears room decided))
    refine ⟨fun bad => refused (State.decideRequest_unspelled (short.mpr bad)), fun good wrong => ?_,
      fun good right locked moving => ?_⟩
    all_goals obtain ⟨q, parsed⟩ := Option.ne_none_iff_exists'.mp (mt short.mp good)
    all_goals obtain ⟨permitted, needs⟩ := table q parsed
    · exact refused (State.decideRequest_denied parsed (Bool.eq_false_iff.mpr (mt permitted.mp wrong)))
    · exact refused (State.decideRequest_notAtRest parsed (permitted.mpr right) (needs.mpr locked)
        (Bool.eq_false_iff.mpr (mt still.mp moving)))
  · rw [exec_unknownRequest data hears]
    exact congrArg _ (s.requestFrame_atOnce slot _ _ .badRequest [] hears room
      (State.decideRequest_unspelled (parseRequest_unknown (notMem_kindCodes_of_kindUnknown unknown) _)))

end Sys2Proof.Machine
end

section
/-! PROOFS. The Network Port: the end of a transmission (O59), bus-off and its recovery (O60). -/

namespace Sys2Proof.Machine

/-! ## The end of a transmission (O59) -/

/-- The search through the slots in order finds the lowest. -/
theorem find?_slots {p : SlotIx → Bool} {k : SlotIx} (here : p k = true) (lowest : ∀ j : SlotIx, j < k → p j = false) :
    ([0, 1, 2, 3] : List SlotIx).find? p = some k := by
  have slots : ([0, 1, 2, 3] : List SlotIx) = List.finRange 4 := rfl
  rw [slots, List.find?_eq_some_iff_getElem]
  refine ⟨here, k, by simp, by simp, fun j below => ?_⟩
  rw [List.getElem_finRange, Bool.not_eq_true']
  exact lowest _ below

/-- With no slot HELD a freed place stays free (R172). -/
theorem State.givePlace_none {s : State} (unheld : ∀ k : SlotIx, s.engine.slots[k].heldFrame = none) :
    s.givePlace = s := by
  unfold State.givePlace
  rw [List.find?_eq_none.mpr fun k _ => by rw [unheld k]; decide]

/-- A freed place goes to the lowest slot that is HELD (R172). -/
theorem State.givePlace_lowest {s : State} {k : SlotIx} {g : Frame} (held : s.engine.slots[k].heldFrame = some g)
    (lowest : ∀ j : SlotIx, j < k → s.engine.slots[j].heldFrame = none) :
    s.givePlace = State.setInFlight { s with port := s.port.push g } k none := by
  have found : (([0, 1, 2, 3] : List SlotIx).find? fun i => (s.engine.slots[i].heldFrame).isSome) = some k :=
    find?_slots (by rw [held]; rfl) fun j below => by rw [lowest j below]; rfl
  unfold State.givePlace
  rw [found]
  dsimp only
  rw [held]

/-- Giving a freed place changes the queue and the slots alone. -/
theorem State.givePlace_changesOnly (s : State) : s.changesOnly s.givePlace [.port, .engine] := by
  unfold State.givePlace
  split
  · split
    · refine State.changesOnly_then (ps := [.port]) ?_ (State.setInFlight_changesOnly _ _ _) (by simp) (by simp)
      intro p hp
      cases p <;> first | rfl | simp at hp
    · exact s.changesOnly_refl _
  · exact s.changesOnly_refl _

/-- The oldest frame gone from the queue and its place given (R172). -/
def State.frameSent (s : State) (rest : List Frame) : State :=
  State.givePlace { s with port := { s.port with tx := rest } }

theorem State.frameSent_changesOnly (s : State) (rest : List Frame) :
    s.changesOnly (s.frameSent rest) [.port, .engine] := by
  refine State.changesOnly_then (ps := [.port]) ?_ (State.givePlace_changesOnly _) (by simp) (by simp)
  intro p hp
  cases p <;> first | rfl | simp at hp

/-- A frame that begins no reset does nothing else (R172). -/
theorem State.sendFrame_ordinary {s : State} {f : Frame} (rest : List Frame)
    (ordinary : (f.startsReset && s.engine.resetPending) = false) : s.sendFrame f rest = s.frameSent rest :=
  if_neg (Bool.eq_false_iff.mp ordinary)

/-- The response of RESET DEVICE, sent with no write in flight, begins the commanded reset (R178). -/
theorem State.sendFrame_resetting {s : State} {f : Frame} (rest : List Frame) (starts : f.startsReset = true)
    (pending : s.engine.resetPending = true) (idle : s.store.inFlight = none) :
    s.sendFrame f rest = (s.frameSent rest).beginReset .commanded false := by
  have both : (f.startsReset && s.engine.resetPending) = true := by rw [starts, pending]; rfl
  have store : (s.frameSent rest).store = s.store := s.frameSent_changesOnly rest .store (by decide)
  refine (if_pos both).trans ?_
  show (s.frameSent rest).commandReset = _
  unfold State.commandReset
  rw [store, idle]

theorem exec_transmissionComplete {s : State} {f : Frame} {rest : List Frame} (on : s.onBus = true)
    (tx : s.port.tx = f :: rest) : exec .transmissionComplete s = .next (s.sendFrame f rest) := by
  show execTransmissionComplete s = _
  simp [execTransmissionComplete, on, tx]

/-- Settles O59: by the lowest HELD slot, and by whether the frame sent begins the commanded reset. -/
theorem transmissionFreesPlace : Obligations.TransmissionFreesPlace := by
  intro s f rest on tx
  rw [exec_transmissionComplete on tx]
  refine ⟨fun ordinary unheld => ?_, fun k g ordinary held lowest => ?_, fun starts pending idle => ?_⟩
  · rw [State.sendFrame_ordinary rest ordinary]
    exact congrArg Host.Outcome.next (State.givePlace_none unheld)
  · rw [State.sendFrame_ordinary rest ordinary]
    exact congrArg Host.Outcome.next (State.givePlace_lowest held lowest)
  · have kept := s.frameSent_changesOnly rest
    have time : (s.frameSent rest).time = s.time := kept .time (by decide)
    refine ⟨_, congrArg Host.Outcome.next (State.sendFrame_resetting rest starts pending idle), ?_, rfl,
      kept .accounts (by decide)⟩
    rw [State.beginReset, time, State.outside_of_onBus on]
    rfl

/-! ## Bus-off and its recovery (O60) -/

/-- The part off the bus: queue and slots emptied, the port BUS_OFF (R179). -/
def State.offBus (s : State) : State := { s.dropRequests with port := { tx := [], state := .busOff } }

theorem State.offBus_changesOnly (s : State) : s.changesOnly s.offBus [.port, .engine] := by
  intro p hp
  cases p <;> first | rfl | simp at hp

/-- A slot of a part that went off the bus is IDLE with its buffer kept (R179). -/
theorem State.offBus_slot (s : State) (k : SlotIx) :
    s.offBus.engine.slots[k] = { inFlight := none, buffer := s.engine.slots[k].buffer } := by
  match k with
  | 0 | 1 | 2 | 3 => rfl

/-- A pending commanded reset abandoned (R179). -/
def State.dropReset (s : State) : State := { s with engine := { s.engine with resetPending := false } }

theorem State.dropReset_changesOnly (s : State) : s.changesOnly s.dropReset [.engine] := by
  intro p hp
  cases p <;> first | rfl | simp at hp

/-- What the network's taking the port off the bus does, by whether a commanded reset is pending (R179, R186). -/
theorem exec_busOff {s : State} (on : s.onBus = true) :
    exec .busOff s = .next (if s.engine.resetPending then s.offBus.dropReset.parkCheck else s.offBus) :=
  congrArg Host.Outcome.next (if_pos on)

/-- Settles O60: bus-off empties queue and slots and drops a pending reset, recovery changes the port's state back. -/
theorem busOffAndRecovery : Obligations.BusOffAndRecovery := by
  refine ⟨fun s on unpending => ⟨s.offBus, ?_, rfl, s.offBus_slot, rfl, s.offBus_changesOnly⟩,
    fun s on pending keyed => ⟨s.offBus.dropReset, ?_, rfl, rfl, ?_⟩, fun s off awake => ?_⟩
  · rw [exec_busOff on, unpending]
    rfl
  · have held : s.offBus.dropReset.lines.ign = true := keyed
    rw [exec_busOff on, if_pos pending, State.parkCheck_keyed held]
  · exact State.changesOnly_then s.offBus_changesOnly s.offBus.dropReset_changesOnly (by simp) (by simp)
  · show execBusOffRecovery s = _
    simp [execBusOffRecovery, off, awake]

end Sys2Proof.Machine
end

section
/-! PROOFS. The time base and the modes: the expiry of the linger (O50) and the end of a monitor window (O51). -/

namespace Sys2Proof.Machine

/-! ## The entry to PARKED (R186) -/

theorem State.inMode_changesOnly (s : State) (m : Mode) : s.changesOnly (s.inMode m) [.time] := by
  intro p hp
  cases p <;> first | rfl | simp at hp

theorem State.meterParked_changesOnly (s : State) : s.changesOnly s.meterParked [.meter, .alerts, .port] := by
  have cleared := State.changesOnly_foldl State.clearUnobserved_changesOnly (List.finRange 5) s
  unfold State.meterParked
  generalize (List.finRange 5).foldl State.clearUnobserved s = x at cleared
  refine State.changesOnly_trans cleared ?_
  intro p hp
  cases p <;> first | rfl | simp at hp

/-- The steps of the entry that follow Signal Intake's. -/
def State.parkedAfterIntake (s : State) : State := s.meterParked.stopQualifier.dropRequests

theorem State.enterParked_eq_afterIntake (s : State) :
    s.enterParked = (s.inMode .parked).intakeParked.parkedAfterIntake := rfl

theorem State.parkedAfterIntake_changesOnly (s : State) :
    s.changesOnly s.parkedAfterIntake [.meter, .qualifier, .alerts, .port, .engine] :=
  State.changesOnly_then s.meterParked_changesOnly
    (State.changesOnly_then (rs := [.qualifier, .alerts, .port, .engine]) (State.stopQualifier_changesOnly _)
      (State.dropRequests_changesOnly _) (by decide) (by decide)) (by decide) (by decide)

theorem State.enterParked_changesOnly (s : State) :
    s.changesOnly s.enterParked
      [.time, .intake, .meter, .qualifier, .accounts, .store, .alerts, .port, .engine] :=
  State.changesOnly_then (s.inMode_changesOnly .parked)
    (State.changesOnly_then (rs := [.intake, .meter, .qualifier, .accounts, .store, .alerts, .port, .engine])
      (State.intakeParked_changesOnly _) (State.parkedAfterIntake_changesOnly _) (by decide) (by decide))
    (by decide) (by decide)

/-- Only the mode of the Time Base changes. -/
theorem State.enterParked_time (s : State) : s.enterParked.time = { s.time with mode := .parked } :=
  ((s.inMode .parked).intakeParked.parkedAfterIntake_changesOnly .time (by decide)).trans
    ((s.inMode .parked).intakeParked_changesOnly .time (by decide))

theorem State.enterParked_intake (s : State) : s.enterParked.intake = (s.inMode .parked).intakeParked.intake :=
  (s.inMode .parked).intakeParked.parkedAfterIntake_changesOnly .intake (by decide)

theorem State.parkedAfterIntake_meter (s : State) : s.parkedAfterIntake.meter = Meter.afterReset :=
  (State.dropRequests_changesOnly _ .meter (by decide)).trans (State.stopQualifier_changesOnly _ .meter (by decide))

theorem State.dropRequests_slot (s : State) (k : SlotIx) : s.dropRequests.engine.slots[k].inFlight = none :=
  congrArg ClientSlot.inFlight (s.engine.slot_mapSlots ClientSlot.dropRequest k)

/-- A signal that is UNKNOWN stays so when another passes to UNKNOWN. -/
theorem State.passUnknown_keeps_unknown (s : State) (n m : SignalName) (age : Nat)
    (unknown : (s.intake.ageing m).cls = .unknown) : ((s.passUnknown n age).intake.ageing m).cls = .unknown := by
  obtain ⟨own, others⟩ := s.passUnknown_ageing n age
  by_cases same : m = n
  · exact same ▸ own
  · exact (congrArg Ageing.cls (others m same)).trans unknown

/-- Signals passed to UNKNOWN one after the other are UNKNOWN at the end. -/
theorem State.foldl_passUnknown_unknown (ages : State → SignalName → Nat) (m : SignalName) (names : List SignalName)
    (s : State) (h : m ∈ names ∨ (s.intake.ageing m).cls = .unknown) :
    ((names.foldl (fun x n => x.passUnknown n (ages x n)) s).intake.ageing m).cls = .unknown := by
  induction names generalizing s with
  | nil => exact h.resolve_left List.not_mem_nil
  | cons n names ih =>
    refine ih _ ?_
    rcases h with listed | unknown
    · rcases List.mem_cons.mp listed with rfl | later
      · exact .inr (s.passUnknown_ageing m _).1
      · exact .inl later
    · exact .inr (s.passUnknown_keeps_unknown n m _ unknown)

/-- Signal Intake's entry to PARKED leaves every signal UNKNOWN (R43). -/
theorem State.intakeParked_unknown (s : State) (m : SignalName) : (s.intakeParked.intake.ageing m).cls = .unknown :=
  (congrArg Ageing.cls (Intake.ageing_dropBaselines _ m)).trans
    (State.foldl_passUnknown_unknown (fun x n => (x.intake.ageing n).age) m signalNames s (.inl (mem_signalNames m)))

/-! ## The linger's expiry (O50) -/

/-- The linger stopped. -/
def State.lingerEnded (s : State) : State := { s with time := { s.time with linger := none } }

theorem State.lingerEnded_changesOnly (s : State) : s.changesOnly s.lingerEnded [.time] := by
  intro p hp
  cases p <;> first | rfl | simp at hp

theorem exec_lingerExpiry {s : State} (lingers : s.time.linger.isSome = true) :
    exec .lingerExpiry s = .next s.lingerEnded.parkCheck := by
  obtain ⟨left, linger⟩ := Option.isSome_iff_exists.mp lingers
  show execLingerExpiry s = _
  unfold execLingerExpiry
  rw [linger]
  rfl

/-- With the linger stopped, no hold stands where none but it stood (R185). -/
theorem State.lingerEnded_free {s : State} (ign : s.lines.ign = false) (ready : s.store.state = .ready)
    (queue : s.store.queue = []) (unpending : s.engine.resetPending = false) : s.lingerEnded.heldActive = false := by
  have settled : s.store.writePending = false := by simp [Store.writePending, ready, queue]
  show (s.lines.ign || false || s.store.writePending || s.engine.resetPending) = false
  simp [ign, settled, unpending]

/-- The end of the last hold with the store READY, by whether an account is changed and uncovered (R186). -/
theorem State.parkCheck_ready {s : State} (active : s.isActive = true) (free : s.heldActive = false)
    (ready : s.store.state = .ready) :
    s.parkCheck = if s.store.accountUncovered then s.bulkEnqueue allRecords else s.enterParked := by
  simp [State.parkCheck, active, free, ready]

/-- A bulk enqueue that finds a record to write makes a READY store WRITING (R155). -/
theorem State.bulkEnqueue_writing {s : State} {rs : List RecordId} {r : RecordId} (ready : s.store.state = .ready)
    (named : r ∈ s.store.uncovered rs) : (s.bulkEnqueue rs).store.state = .writing :=
  (State.startIfReady_queued (s := { s with store := { s.store with queue := s.store.queue ++ s.store.uncovered rs } })
    ready (List.mem_append_right _ named)).1

/-- An account that is changed and uncovered is among the records to write. -/
theorem Store.exists_uncovered {st : Store} (uncovered : st.accountUncovered = true) :
    ∃ r, r ∈ st.uncovered allRecords := by
  obtain ⟨r, -, open_⟩ := List.any_eq_true.mp uncovered
  exact ⟨r, List.mem_filter.mpr ⟨mem_allRecords r, open_⟩⟩

/-- Settles O50: the examination of the holds writes where an account is changed and uncovered, else it parks the part. -/
theorem lingerExpiryParksOrWrites : Obligations.LingerExpiryParksOrWrites := by
  intro s active lingers ign ready queue idle unpending
  have run := exec_lingerExpiry lingers
  rw [State.parkCheck_ready (s := s.lingerEnded) active (State.lingerEnded_free ign ready queue unpending) ready] at run
  refine ⟨_, run, ?_⟩
  by_cases uncovered : s.store.accountUncovered = true
  · have writes : s.lingerEnded.store.accountUncovered = true := uncovered
    rw [if_pos writes, if_pos uncovered]
    obtain ⟨r, named⟩ := Store.exists_uncovered writes
    have enqueued := s.lingerEnded.bulkEnqueue_changesOnly allRecords
    have time : (s.lingerEnded.bulkEnqueue allRecords).time = s.lingerEnded.time := enqueued .time (by decide)
    obtain ⟨mode, -⟩ := State.isActive_iff.mp active
    refine ⟨congrArg TimeBase.linger time, (congrArg TimeBase.mode time).trans mode,
      State.bulkEnqueue_writing ready named, fun q changed => ?_,
      State.changesOnly_then s.lingerEnded_changesOnly enqueued (by decide) (by decide)⟩
    exact s.lingerEnded.bulkEnqueue_covers_ready allRecords q ready idle (mem_allRecords q) changed
  · have parks : ¬ s.lingerEnded.store.accountUncovered = true := uncovered
    rw [if_neg parks, if_neg uncovered]
    have time := s.lingerEnded.enterParked_time
    have intake := s.lingerEnded.enterParked_intake
    have stands := s.lingerEnded.enterParked_changesOnly
    refine ⟨congrArg TimeBase.linger time, congrArg TimeBase.mode time,
      congrArg Meter.timer (State.parkedAfterIntake_meter _), fun n => ?_, congrArg Intake.shiftBaseline intake,
      congrArg Intake.engagementBaseline intake, rfl, rfl, State.dropRequests_slot _, stands .bands (by decide),
      stands .settings (by decide)⟩
    rw [intake]
    exact State.intakeParked_unknown _ n

/-! ## The end of a monitor window (O51) -/

theorem windowGood_iff {cycles : Nat} : windowGood cycles = true ↔ 72000 ≤ cycles ∧ cycles ≤ 88000 := by
  simp [windowGood]

theorem exec_monitorWindow {s : State} (cycles : Nat) (active : s.isActive = true) :
    exec (.monitorWindow cycles) s = .next (s.windowEnd cycles) :=
  congrArg Host.Outcome.next (if_pos active)

/-- A good window on the crystal changes nothing (R182). -/
theorem State.windowEnd_crystal_good {s : State} {cycles : Nat} (crystal : s.time.selection = .crystal)
    (good : windowGood cycles = true) : s.windowEnd cycles = s := by
  unfold State.windowEnd
  rw [crystal, good]

/-- A bad window on the crystal outside a load takes the internal oscillator and says so (R182). -/
theorem State.windowEnd_crystal_bad {s : State} {cycles : Nat} (crystal : s.time.selection = .crystal)
    (bad : windowGood cycles = false) (loaded : s.store.isLoading = false) :
    s.windowEnd cycles = (s.setSelection .internalRc 0).timebaseBad := by
  unfold State.windowEnd
  rw [crystal, bad]
  simp [loaded]

/-- A good window on the internal oscillator is counted, and the hundredth takes the crystal (R182). -/
theorem State.windowEnd_internal_good {s : State} {cycles : Nat} (internal : s.time.selection = .internalRc)
    (good : windowGood cycles = true) :
    s.windowEnd cycles =
      if s.time.goodWindows + 1 < 100 then s.setSelection .internalRc (s.time.goodWindows + 1)
      else (s.setSelection .crystal (s.time.goodWindows + 1)).reportTimebase false := by
  unfold State.windowEnd
  rw [internal, good]

/-- A bad window on the internal oscillator starts the count again (R182). -/
theorem State.windowEnd_internal_bad {s : State} {cycles : Nat} (internal : s.time.selection = .internalRc)
    (bad : windowGood cycles = false) : s.windowEnd cycles = s.setSelection .internalRc 0 := by
  unfold State.windowEnd
  rw [internal, bad]

theorem State.setSelection_changesOnly (s : State) (v : Selection) (good : Nat) :
    s.changesOnly (s.setSelection v good) [.time] := by
  intro p hp
  cases p <;> first | rfl | simp at hp

/-- A report of TIMEBASE changes of the Time Base the value held alone. -/
theorem State.reportTimebase_time (s : State) (v : Bool) :
    (s.reportTimebase v).time = { s.time with timebaseHeld := v } := by
  unfold State.reportTimebase
  split
  · next same => rw [← same]
  · rfl

theorem State.timebaseBad_time (s : State) : s.timebaseBad.time = { s.time with timebaseHeld := true } :=
  (State.flagOpen_changesOnly _ _ .time (by decide)).trans (s.reportTimebase_time true)

/-- The OPEN segment carries TIMEBASE_DEGRADED (R126, R182). -/
theorem State.timebaseBad_flags {s : State} (e : LogEntry) (found : s.timebaseBad.log.openEntry = some e) :
    e.seg.flags.timebaseDegraded = true :=
  (s.reportTimebase true).flagOpen_sets (P := fun f => f.timebaseDegraded = true) (fun _ => rfl) e found

/-- Settles O51: by the selection that stands and by whether the window is good. -/
theorem monitorWindowSelects : Obligations.MonitorWindowSelects := by
  intro s cycles running
  obtain ⟨active, unloading⟩ := Bool.and_eq_true_iff.mp running
  have loaded : s.store.isLoading = false := Bool.not_eq_true' _ ▸ unloading
  refine ⟨_, exec_monitorWindow cycles active, ?_⟩
  simp only [← windowGood_iff]
  cases selection : s.time.selection with
  | crystal =>
    dsimp only
    cases window : windowGood cycles with
    | true =>
      rw [if_pos rfl]
      exact s.windowEnd_crystal_good selection window
    | false =>
      rw [State.windowEnd_crystal_bad selection window loaded, if_neg Bool.false_ne_true]
      have time := (s.setSelection .internalRc 0).timebaseBad_time
      exact ⟨congrArg TimeBase.selection time, congrArg TimeBase.goodWindows time, congrArg TimeBase.timebaseHeld time,
        State.timebaseBad_flags, State.changesOnly_then (s.setSelection_changesOnly .internalRc 0)
          (State.timebaseBad_changesOnly _) (by decide) (by decide)⟩
  | internalRc =>
    dsimp only
    cases window : windowGood cycles with
    | true =>
      rw [State.windowEnd_internal_good selection window, if_pos rfl]
      by_cases early : s.time.goodWindows + 1 < 100
      · rw [if_pos early, if_pos early]
        rfl
      · rw [if_neg early, if_neg early]
        have time := (s.setSelection .crystal (s.time.goodWindows + 1)).reportTimebase_time false
        exact ⟨congrArg TimeBase.selection time, congrArg TimeBase.timebaseHeld time,
          State.changesOnly_then (s.setSelection_changesOnly .crystal _) (State.reportTimebase_changesOnly _ false)
            (by decide) (by decide)⟩
    | false =>
      rw [State.windowEnd_internal_bad selection window, if_neg Bool.false_ne_true]
      rfl

end Sys2Proof.Machine
end

section
/-! PROOFS. Steps and the queue of the commands that wait: a step runs the command at its front (O1), and every command
answers a next state with the queue as it was (O2). No operation a command is made of touches the queue; a cold reset
makes the state anew and is given it. -/

namespace Sys2Proof.Machine

/-! ## A step runs the front command (O1) -/

/-- With a command at the front of the queue a step is that command on the queue's rest. -/
theorem step_front {s : State} {c : Instr} {rest : List Instr} (h : s.pending = c :: rest) :
    step s = exec c { s with pending := rest } := by
  unfold step
  rw [h]

/-- Settles O1: the front of the queue is taken off, and what is left is the state the command runs on. -/
theorem stepRunsFrontCommand : Obligations.StepRunsFrontCommand :=
  fun c s => step_front (s := { s with pending := c :: s.pending }) rfl

/-! ## Choices and successions -/

@[simp] theorem State.ite_pending (c : Prop) [Decidable c] (s t : State) :
    (if c then s else t).pending = if c then s.pending else t.pending :=
  apply_ite State.pending c s t

theorem State.foldl_pending {α : Type} {f : State → α → State} (h : ∀ (x : State) (a : α), (f x a).pending = x.pending)
    (l : List α) (s : State) : (l.foldl f s).pending = s.pending := by
  induction l generalizing s with
  | nil => rfl
  | cons a l ih => exact (ih (f s a)).trans (h s a)

/-! ## Shared operations -/

@[simp] theorem State.report_pending (s : State) (p : AlertPair) (v : Bool) (param : Option Byte) :
    (s.report p v param).pending = s.pending := rfl

@[simp] theorem State.raiseEvent_pending (s : State) (p : AlertPair) (param : Option Byte) :
    (s.raiseEvent p param).pending = s.pending := rfl

@[simp] theorem State.startWrite_pending (s : State) (r : RecordId) : (s.startWrite r).pending = s.pending :=
  s.startWrite_changesOnly r .pending (by decide)

@[simp] theorem State.nextWrite_pending (s : State) : s.nextWrite.pending = s.pending :=
  s.nextWrite_changesOnly .pending (by decide)

@[simp] theorem State.startIfReady_pending (s : State) : s.startIfReady.pending = s.pending :=
  s.startIfReady_changesOnly .pending (by decide)

@[simp] theorem State.hand_pending (s : State) (r : RecordId) : (s.hand r).pending = s.pending :=
  s.hand_changesOnly r .pending (by decide)

@[simp] theorem State.bulkEnqueue_pending (s : State) (rs : List RecordId) : (s.bulkEnqueue rs).pending = s.pending :=
  s.bulkEnqueue_changesOnly rs .pending (by decide)

@[simp] theorem State.changeAccount_pending (s : State) (i : AccountIx) (f : Account → Account) :
    (s.changeAccount i f).pending = s.pending :=
  s.changeAccount_changesOnly i f .pending (by decide)

@[simp] theorem State.evalThresholds_pending (s : State) (i : AccountIx) : (s.evalThresholds i).pending = s.pending :=
  s.evalThresholds_changesOnly i .pending (by decide)

@[simp] theorem State.flagOpen_pending (s : State) (f : SegmentFlags → SegmentFlags) :
    (s.flagOpen f).pending = s.pending :=
  s.flagOpen_changesOnly f .pending (by decide)

@[simp] theorem State.evalNearFull_pending (s : State) : s.evalNearFull.pending = s.pending :=
  s.evalNearFull_changesOnly .pending (by decide)

@[simp] theorem State.offer_pending (s : State) (k : SlotIx) (kind : Byte) (ops : List Byte) (f : Frame) :
    (s.offer k kind ops f).pending = s.pending :=
  s.offer_changesOnly k kind ops f .pending (by decide)

@[simp] theorem State.releaseVolatile_pending (s : State) : s.releaseVolatile.pending = s.pending :=
  s.releaseVolatile_changesOnly .pending (by decide)

/-! ## Signal Intake, the Start Qualifier and the Meter -/

@[simp] theorem State.crankTrigger_pending (s : State) : s.crankTrigger.pending = s.pending :=
  s.crankTrigger_changesOnly .pending (by decide)

@[simp] theorem State.reformCrank_pending (s : State) : s.reformCrank.pending = s.pending :=
  s.reformCrank_changesOnly .pending (by decide)

@[simp] theorem State.crankLine_pending (s : State) (asserted : Bool) : (s.crankLine asserted).pending = s.pending := by
  simp [State.crankLine]

@[simp] theorem State.windowExpiry_pending (s : State) : s.windowExpiry.pending = s.pending :=
  s.windowExpiry_changesOnly .pending (by decide)

@[simp] theorem State.confirmDone_pending (s : State) : s.confirmDone.pending = s.pending :=
  s.confirmDone_changesOnly .pending (by decide)

@[simp] theorem State.stopDone_pending (s : State) : s.stopDone.pending = s.pending := by
  unfold State.stopDone
  split <;> rfl

@[simp] theorem State.passHeld_pending (s : State) (n : SignalName) : (s.passHeld n).pending = s.pending := by
  unfold State.passHeld
  split <;> rfl

@[simp] theorem State.passUnknown_pending (s : State) (n : SignalName) (age : Nat) :
    (s.passUnknown n age).pending = s.pending :=
  s.passUnknown_changesOnly n age .pending (by decide)

@[simp] theorem State.decode_pending (s : State) (f : ObsFormat) (data : List Byte) :
    (s.decode f data).pending = s.pending := by
  cases f with
  | engineState =>
    match data with
    | b0 :: b1 :: b2 :: b3 :: b4 :: rest => exact (s.decodeEngine_effect b0 b1 b2 b3 b4 rest).2 .pending (by decide)
    | [] | [_] | [_, _] | [_, _, _] | [_, _, _, _] => rfl
  | drivelineState =>
    show (s.decodeDriveline data).pending = s.pending
    unfold State.decodeDriveline
    split <;> rfl
  | drivelineEvent =>
    match data with
    | shift :: engagement :: rest => exact (s.decodeEvent_effect shift engagement rest).2 .pending (by decide)
    | [] | [_] => rfl

@[simp] theorem State.meteringPass_pending (s : State) : s.meteringPass.pending = s.pending := by
  have metered (x : State) (i : AccountIx) : (x.meterAccount i).pending = x.pending :=
    x.meterAccount_changesOnly i .pending (by decide)
  unfold State.meteringPass
  rw [State.revolutions_changesOnly _ .pending (by decide), metered, metered, metered, metered, metered,
    State.activateStaged_changesOnly _ .pending (by decide)]

/-! ## Modes and the time base -/

@[simp] theorem State.enterParked_pending (s : State) : s.enterParked.pending = s.pending :=
  s.enterParked_changesOnly .pending (by decide)

@[simp] theorem State.enterDormant_pending (s : State) : s.enterDormant.pending = s.pending :=
  s.enterDormant_changesOnly .pending (by decide)

@[simp] theorem State.dropRequests_pending (s : State) : s.dropRequests.pending = s.pending := rfl

@[simp] theorem State.wake_pending (s : State) : s.wake.pending = s.pending := s.wake_changesOnly .pending (by decide)

@[simp] theorem State.parkCheck_pending (s : State) : s.parkCheck.pending = s.pending := by simp [State.parkCheck]

/-- A frame heard leaves the queue if its taking does. -/
theorem State.hearFrame_pending (s : State) {take : State → State} (h : (take s).pending = s.pending) :
    (s.hearFrame take).pending = s.pending := by
  simp [State.hearFrame, h]

@[simp] theorem State.windowEnd_pending (s : State) (cycles : Nat) : (s.windowEnd cycles).pending = s.pending := by
  have degraded (x : State) : x.timebaseBad.pending = x.pending := x.timebaseBad_changesOnly .pending (by decide)
  have reported (x : State) (v : Bool) : (x.reportTimebase v).pending = x.pending :=
    x.reportTimebase_changesOnly v .pending (by decide)
  unfold State.windowEnd
  split
  · rfl
  · simp [degraded]
  · simp [reported]
  · rfl

/-! ## The power-fail flush and the completion of a write -/

@[simp] theorem State.beginReset_pending (s : State) (kind : ResetKind) (spoiled : Bool) :
    (s.beginReset kind spoiled).pending = s.pending := rfl

@[simp] theorem State.recover_pending (s : State) : s.recover.pending = s.pending := by simp [State.recover]

@[simp] theorem State.flushNext_pending (s : State) : s.flushNext.pending = s.pending := by
  unfold State.flushNext
  split <;> simp

@[simp] theorem State.startFlush_pending (s : State) : s.startFlush.pending = s.pending := by simp [State.startFlush]

@[simp] theorem State.takePfw_pending (s : State) : s.takePfw.pending = s.pending := by
  unfold State.takePfw
  split <;> simp

@[simp] theorem State.dropPfw_pending (s : State) : s.dropPfw.pending = s.pending := by
  unfold State.dropPfw
  split <;> rfl

theorem State.completeFault_pending (s : State) (w : Write) : (s.completeFault w).pending = s.pending := by
  unfold State.completeFault
  dsimp only
  split
  · simp [State.firstFault]
  · simp [State.goOffline]

theorem State.afterWrite_pending (s : State) (before : Store) : (s.afterWrite before).pending = s.pending := by
  unfold State.afterWrite
  rw [State.ite_pending]
  split
  · exact s.beginReset_pending _ _
  · split <;> simp

@[simp] theorem State.writeDone_pending (s : State) (w : Write) (faulted : Bool) :
    (s.writeDone w faulted).pending = s.pending := by
  have good : (s.completeGood w).pending = s.pending := (s.completeGood_written w).changes .pending (by decide)
  unfold State.writeDone
  rw [State.afterWrite_pending, State.ite_pending, s.completeFault_pending w, good, ite_self]

/-! ## The end of a reset and of a load -/

@[simp] theorem State.startUp_pending (s : State) : s.startUp.pending = s.pending := by simp [State.startUp]

theorem State.settleTimebase_pending (s : State) : s.settleTimebase.pending = s.pending :=
  s.settleTimebase_changesOnly .pending (by decide)

/-- What a load forms it forms from the records. -/
theorem State.formAll_pending (s : State) (k : LoadKind) : (s.formAll k).pending = s.pending := by
  rw [State.formAll_eq, State.settleTimebase_pending, State.loadSegments_changesOnly _ .pending (by decide),
    s.recordsFormed_changesOnly k .pending (by decide)]
  rfl

theorem State.readied_pending (s : State) : s.readied.pending = s.pending := rfl

@[simp] theorem State.finishLoad_pending (s : State) (k : LoadKind) : (s.finishLoad k).pending = s.pending := by
  rw [State.finishLoad_eq, State.startUp_pending, State.reformCrank_pending, State.startIfReady_pending,
    State.readied_pending, State.formAll_pending]

@[simp] theorem State.leaveReset_pending (s : State) (cycles : Nat) (straps : Straps) :
    (s.leaveReset cycles straps).pending = s.pending := rfl

@[simp] theorem State.recordReset_pending (s : State) (kind : ResetKind) (lost recordGood : Bool) (time : Nat) :
    (s.recordReset kind lost recordGood time).pending = s.pending := rfl

@[simp] theorem State.reload_pending (s : State) (k : LoadKind) : (s.reload k).pending = s.pending := rfl

@[simp] theorem State.resumeRetained_pending (s : State) : s.resumeRetained.pending = s.pending := by
  rw [State.resumeRetained_eq, State.startUp_pending, State.rewriteAll_changesOnly _ .pending (by decide),
    s.resumed_changesOnly .pending (by decide)]

@[simp] theorem State.finishReset_pending (s : State) (r : ResetInProgress) (retentionGood recordGood : Bool)
    (cycles : Nat) (straps : Straps) : (s.finishReset r retentionGood recordGood cycles straps).pending = s.pending := by
  unfold State.finishReset
  dsimp only
  split <;> simp

/-! ## Requests -/

@[simp] theorem Answer.conclude_pending (slot : SlotIx) (kind : Byte) (ops : List Byte) (a : Answer) :
    (a.conclude slot kind ops).pending = a.state.pending := by
  cases a <;> simp [Answer.conclude, State.answer, Answer.state]

theorem State.handleRead_state_pending (s : State) (slot : SlotIx) (r : Region) (n : Nat) :
    (s.handleRead slot r n).state.pending = s.pending := by
  unfold State.handleRead
  split <;> rfl

theorem State.handleNext_state_pending (s : State) (slot : SlotIx) :
    (s.handleNext slot).state.pending = s.pending := by
  unfold State.handleNext
  split
  · rfl
  · split <;> rfl

@[simp] theorem State.openIn_state_pending (s : State) (slot : Fin 24) (renter : List Byte) (tariff : Byte) :
    (s.openIn slot renter tariff).state.pending = s.pending := by
  simp [State.openIn]

theorem State.handleOpenRental_state_pending (s : State) (renter : List Byte) (tariff : Byte) :
    (s.handleOpenRental renter tariff).state.pending = s.pending := by
  unfold State.handleOpenRental
  split
  · rfl
  · split
    · simp
    · split
      · rw [State.openIn_state_pending, s.reclaim_changesOnly _ .pending (by decide)]
      · rfl

theorem State.handleCloseRental_state_pending (s : State) : s.handleCloseRental.state.pending = s.pending := by
  unfold State.handleCloseRental
  split <;> simp

theorem State.handleMarkExported_state_pending (s : State) (number : Nat) :
    (s.handleMarkExported number).state.pending = s.pending := by
  unfold State.handleMarkExported
  split
  · rfl
  · split <;> simp

theorem State.handleAckAlert_state_pending (s : State) (source cause : Nat) :
    (s.handleAckAlert source cause).state.pending = s.pending := by
  unfold State.handleAckAlert
  split
  · dsimp only
    split
    · split <;> rfl
    · rfl
  · rfl

theorem State.handleServiceReset_state_pending (s : State) (account : Nat) :
    (s.handleServiceReset account).state.pending = s.pending := by
  unfold State.handleServiceReset
  split
  · rfl
  · split <;> simp

theorem State.handleRestoreField_state_pending (s : State) (account field value : Nat) :
    (s.handleRestoreField account field value).state.pending = s.pending := by
  unfold State.handleRestoreField
  split
  · rfl
  · split
    · split <;> simp
    · rfl

theorem State.handleRestoreDone_state_pending (s : State) (account : Nat) :
    (s.handleRestoreDone account).state.pending = s.pending := by
  have raised (x : State) (increase : Tracked) : (x.raiseSnapshot increase).pending = x.pending :=
    x.raiseSnapshot_changesOnly increase .pending (by decide)
  unfold State.handleRestoreDone
  split
  · rfl
  · split
    · rfl
    · simp [raised]

@[simp] theorem State.putBand_state_pending (s : State) (k : Fin 16) (e : BandEntry) :
    (s.putBand k e).state.pending = s.pending := by
  simp [State.putBand]

@[simp] theorem State.editBand_state_pending (s : State) (k : Fin 16) (apply stage : BandEntry → BandEntry) :
    (s.editBand k apply stage).state.pending = s.pending := by
  unfold State.editBand
  dsimp only
  split
  · rfl
  · exact s.putBand_state_pending k _

theorem State.handleBandPrimary_state_pending (s : State) (entry metric : Nat) (low high : Int) :
    (s.handleBandPrimary entry metric low high).state.pending = s.pending := by
  unfold State.handleBandPrimary
  split <;> simp

theorem State.handleBandSecondary_state_pending (s : State) (entry metric : Nat) (low high : Int) :
    (s.handleBandSecondary entry metric low high).state.pending = s.pending := by
  unfold State.handleBandSecondary
  split <;> simp

theorem State.handleBandWeight_state_pending (s : State) (entry account cls bin weight enabled : Nat) :
    (s.handleBandWeight entry account cls bin weight enabled).state.pending = s.pending := by
  unfold State.handleBandWeight
  split <;> simp

theorem State.handleBandLock_state_pending (s : State) (entry : Nat) :
    (s.handleBandLock entry).state.pending = s.pending := by
  unfold State.handleBandLock
  split
  · rfl
  · dsimp only
    split
    · rfl
    · split <;> simp

theorem State.writeDevice_state_pending (s : State) (id raw : Nat) :
    (s.writeDevice id raw).state.pending = s.pending := by
  have applied (x : State) : (x.applySetting id).pending = x.pending :=
    x.applySetting_changesOnly id .pending (by decide)
  unfold State.writeDevice
  split
  · rfl
  · simp [applied]

theorem State.writeAccount_state_pending (s : State) (i : AccountIx) (id raw : Nat) :
    (s.writeAccount i id raw).state.pending = s.pending := by
  unfold State.writeAccount
  split <;> simp

theorem State.handleWriteSetting_state_pending (s : State) (id account raw : Nat) :
    (s.handleWriteSetting id account raw).state.pending = s.pending := by
  unfold State.handleWriteSetting
  split
  · split
    · rfl
    · exact s.writeAccount_state_pending _ id raw
  · exact s.writeDevice_state_pending id raw

theorem State.handleCheckpoint_state_pending (s : State) : s.handleCheckpoint.state.pending = s.pending := by
  unfold State.handleCheckpoint
  split
  · rfl
  · split <;> rfl
  all_goals
    split
    · rfl
    · exact s.bulkEnqueue_pending _

theorem State.handleResetDevice_state_pending (s : State) : s.handleResetDevice.state.pending = s.pending := by
  unfold State.handleResetDevice
  split <;> rfl

/-- No owning block's decision touches the queue. -/
theorem State.handle_state_pending (s : State) (slot : SlotIx) (q : Request) :
    (s.handle slot q).state.pending = s.pending := by
  cases q with
  | status => rfl
  | read r n => exact s.handleRead_state_pending slot r n
  | next => exact s.handleNext_state_pending slot
  | openRental renter tariff => exact s.handleOpenRental_state_pending renter tariff
  | closeRental => exact s.handleCloseRental_state_pending
  | markExported number => exact s.handleMarkExported_state_pending number
  | ackAlert source cause => exact s.handleAckAlert_state_pending source cause
  | serviceReset account => exact s.handleServiceReset_state_pending account
  | restoreField account field value => exact s.handleRestoreField_state_pending account field value
  | restoreDone account => exact s.handleRestoreDone_state_pending account
  | bandPrimary entry metric low high => exact s.handleBandPrimary_state_pending entry metric low high
  | bandSecondary entry metric low high => exact s.handleBandSecondary_state_pending entry metric low high
  | bandWeight entry account cls bin weight enabled =>
    exact s.handleBandWeight_state_pending entry account cls bin weight enabled
  | bandLock entry => exact s.handleBandLock_state_pending entry
  | writeSetting id account raw => exact s.handleWriteSetting_state_pending id account raw
  | checkpoint => exact s.handleCheckpoint_state_pending
  | resetDevice => exact s.handleResetDevice_state_pending

theorem State.decideRequest_state_pending (s : State) (slot : SlotIx) (kind : Byte) (ops : List Byte) :
    (s.decideRequest slot kind ops).state.pending = s.pending := by
  unfold State.decideRequest
  split
  · rfl
  · split
    · rfl
    · split
      · rfl
      · exact s.handle_state_pending slot _

theorem State.answerBusy_pending (s : State) (slot : SlotIx) (kind : Byte) :
    (s.answerBusy slot kind).pending = s.pending := by
  simp [State.answerBusy]

theorem State.takeRequest_pending (s : State) (slot : SlotIx) (kind : Byte) (ops : List Byte) :
    (s.takeRequest slot kind ops).pending = s.pending := by
  unfold State.takeRequest
  split
  · rw [State.answerBusy_pending, State.restartLinger_pending]
  · rw [Answer.conclude_pending, State.decideRequest_state_pending, State.restartLinger_pending]

theorem State.takeRequestData_pending (s : State) (slot : SlotIx) (data : List Byte) :
    (s.takeRequestData slot data).pending = s.pending := by
  cases data with
  | nil => exact s.takeRequest_pending slot _ _
  | cons kind ops => exact s.takeRequest_pending slot kind ops

theorem State.observationFrame_pending (s : State) (id : CanId) (data : List Byte) :
    (s.observationFrame id data).pending = s.pending := by
  refine s.hearFrame_pending ?_
  unfold State.routeFrame
  split
  · exact s.takeRequestData_pending _ data
  · rw [State.decode_pending, State.restartLinger_pending]
  · rfl

/-! ## Commands (O2) -/

@[simp] theorem State.checkpointEnqueue_pending (s : State) (rs : List RecordId) :
    (s.checkpointEnqueue rs).pending = s.pending := by
  unfold State.checkpointEnqueue
  split <;> simp

theorem State.sendFrame_pending (s : State) (f : Frame) (rest : List Frame) :
    (s.sendFrame f rest).pending = s.pending := by
  have given (x : State) : x.givePlace.pending = x.pending := x.givePlace_changesOnly .pending (by decide)
  have reset (x : State) : x.commandReset.pending = x.pending := by
    unfold State.commandReset
    split <;> rfl
  simp [State.sendFrame, given, reset]

/-- Every arm of the dispatch answers a next state. -/
theorem exec_answers (c : Instr) (s : State) : ∃ t, exec c s = .next t := by
  cases c <;> exact ⟨_, rfl⟩

/-- A frame leaves the queue, whatever it carries. -/
theorem exec_frame_pending {c : Instr} {s t : State} (frame : isFrame c = true) (h : exec c s = .next t) :
    t.pending = s.pending := by
  cases request : requestOf c with
  | some r =>
    obtain ⟨slot, kind, ops⟩ := r
    rw [exec_request request] at h
    cases h
    exact s.hearFrame_pending (s.takeRequest_pending slot kind ops)
  | none =>
    cases c
    case unknownRequest slot data => cases h; exact s.hearFrame_pending (s.takeRequestData_pending slot data)
    case engineState id data => cases h; exact s.observationFrame_pending id data
    case drivelineState id data => cases h; exact s.observationFrame_pending id data
    case drivelineEvent id data => cases h; exact s.observationFrame_pending id data
    case wakeFrame => cases h; exact s.hearFrame_pending rfl
    all_goals simp [isFrame, requestOf] at frame request

/-- No command touches the queue it is taken from. -/
theorem exec_pending {c : Instr} {s t : State} (h : exec c s = .next t) : t.pending = s.pending := by
  by_cases frame : isFrame c = true
  · exact exec_frame_pending frame h
  cases c
  case signalHeld n => cases h; simp
  case signalUnknown n => cases h; simp
  case meteringExpiry => cases h; simp
  case crankChange asserted => cases h; simp
  case crankWindowExpiry => cases h; simp
  case confirmExpiry => cases h; simp
  case stopTimerExpiry => cases h; simp
  case ignAsserted => cases h; simp
  case keyOff => cases h; simp
  case periodicCheckpoint => cases h; simp
  case lingerExpiry => cases h; split <;> simp
  case writeCompletion faulted => cases h; split <;> simp
  case pfwAsserted => cases h; simp
  case pfwReleased => cases h; simp
  case monitorWindow cycles => cases h; simp
  case deviceTimeSecond => cases h; simp
  case coldReset straps cycles => cases h; rfl
  case warmReset dip => cases h; rfl
  case resetEnd retentionGood recordGood cycles straps => cases h; split <;> simp
  case loadEnd => cases h; split <;> simp
  case transmissionComplete =>
    cases h
    rw [State.ite_pending]
    split
    · split
      · exact s.sendFrame_pending _ _
      · rfl
    · rfl
  case busOff => cases h; simp
  case busOffRecovery => cases h; simp
  all_goals exact absurd rfl frame

/-- Settles O2: every arm of the dispatch answers, and no command touches the queue. -/
theorem everyCommandAnswersNext : Obligations.EveryCommandAnswersNext := by
  intro c s
  obtain ⟨t, run⟩ := exec_answers c s
  exact ⟨t, run, exec_pending run⟩

end Sys2Proof.Machine
end
